-- ==== Sys2Proof/Word.lean ====
section
/-! DEFINITION. The word types of the hub: registers and instruction words are bit vectors; addresses, counts,
times and lengths that the spec never masks are plain numbers. -/

namespace Sys2Proof

/-- A 32-bit register word (R38). -/
abbrev Word := BitVec 32
/-- A byte. -/
abbrev Byte := BitVec 8
/-- A 16-bit value. -/
abbrev Half := BitVec 16
/-- A 64-bit value held in two register words (R42). -/
abbrev Dword := BitVec 64
/-- A source ID (R30). -/
abbrev SourceId := BitVec 16
/-- A 48-bit fabric address (R59). -/
abbrev FabricAddr := BitVec 48

end Sys2Proof
end

