-- ==== Sys2Proof/Syntax.lean ====
section
/-! DEFINITION. The types of the commands' operands and of the things that pass between the hub and the outside, and the
commands of the hub: one constructor for each row of the opcode table, with the row's operands. -/

namespace Sys2Proof

/-- Initiators of register accesses (R61); a remote hub is told apart by ring and node. -/
inductive Initiator where
  | host | mgmt | usb
  | core (n : Fin 4)
  | ephem
  | remote (ring : BitVec 4) (node : BitVec 8)
  | boot
  deriving DecidableEq, Repr

/-- The units of the hub (R10, R31, R32). The fault collector is no unit (R432), nor is GLOBAL. -/
inductive HubUnit where
  | regif | time | angle | ephem
  | bank (n : Fin 8) | engine (e : Fin 64) | uart (u : Fin 16) | can (n : Fin 8)
  | link (l : Fin 3) | ring | bridge | sta (p : Fin 2) | switch | traffic | classify
  | core (n : Fin 4) | queue (q : Fin 64) | dram | pair
  | feed (f : Fin 2) | group (g : Fin 8) | therm (k : Fin 4)
  | boot | host | usb | mgmt
  deriving DecidableEq, Repr

/-- The three Fliar ports, in link index order (R32). -/
inductive Port where
  | east | west | pair
  deriving DecidableEq, Repr

/-- The two ring ports. -/
inductive RingPort where
  | east | west
  deriving DecidableEq, Repr

/-- Fault severities (R433), least first. -/
inductive Severity where
  | note | degraded | major | fatal
  deriving DecidableEq, Repr

/-- The fault kinds (R435). -/
inductive FaultKind where
  | eccCorr | eccUncorr | parity | cfgDrift | guardFail
  | linkDown | linkDeskew | linkReplayExhausted | ringBreak | ringTopologyMismatch | clockLaneLoss | dupWindowOverrun
  | timeSourceLost | timeStep | angleUnlock | ephemerisLate
  | txnTimeout | postedWriteFail | bridgeRetryExhausted | semaphoreBroken | busErrorAccess
  | pinFifoStale | engineFault | canBusOff | canErrorPassive | uartFraming
  | feedUv | feedReverse | groupFastTrip | groupSlowTrip | groupEnergyLimit | shortDuringRamp | overtemp
  | imageAuthFail | imageRollbackRefused | updateRefusedState | trialFallback
  | pairLinkLost | pairDualActive | pairTakeover | watchdog
  deriving DecidableEq, Repr

/-- Payload of a time beacon (R93). -/
structure TimeBeacon where
  originNs : Dword
  originFrac : Half
  mstate : Byte
  corr : Dword
  rate : Word
  seq : Word
  taiUtc : Half
  leap : Byte
  deriving DecidableEq, Repr

/-- Payload of an angle beacon (R113). -/
structure AngleBeacon where
  cycle : Word
  t0Ns : Dword
  t0Frac : Half
  state : Byte
  freq : Word
  deriving DecidableEq, Repr

/-- The PTP event and follow-up messages of the supported profile (R101); times are in 2^-16 ns. -/
inductive PtpMessage where
  /-- Sync: sequence number, one-step or two-step, origin time and correctionField. -/
  | sync (seq : Half) (twoStep : Bool) (origin corr : Int)
  /-- Follow_Up of a two-step Sync. -/
  | followUp (seq : Half) (origin corr : Int)
  | pdelayReq (seq : Half) (corr : Int)
  /-- Pdelay_Resp: one-step responses carry the turnaround in `corr`; two-step ones carry the request receipt time. -/
  | pdelayResp (seq : Half) (twoStep : Bool) (t2 corr : Int)
  | pdelayRespFollowUp (seq : Half) (t3 corr : Int)
  | announce (seq : Half) (clockClass : Byte)
  deriving DecidableEq, Repr

/-- A PTP message with the domain and the sender's clockIdentity of its header (R101). -/
structure PtpFrame where
  domain : Byte
  identity : Dword
  msg : PtpMessage
  deriving DecidableEq, Repr

/-- What the IRIG-B decoder reports of one frame (R104). -/
structure IrigFrame where
  /-- No parity error and no marker error. -/
  good : Bool
  /-- UTC second of the day-of-year reading, counted from the PTP epoch for the year the frame or TIME_TIN_YEAR gives. -/
  second : Nat
  /-- The same without the year: seconds since the start of the year, for a format that carries no year. -/
  secondOfYear : Nat
  /-- Local offset of the control-function extensions in seconds. -/
  localOffset : Int
  /-- The leap-second bits and the time quality of the control-function extensions. -/
  leapPending : Bool
  leapMinus : Bool
  quality : Fin 16
  deriving DecidableEq, Repr

/-- A CAN frame (R171); a base identifier sits in bits [28:18] of `id`. -/
structure CanFrame where
  esi : Bool
  xtd : Bool
  rtr : Bool
  id : BitVec 29
  fdf : Bool
  brs : Bool
  dlc : BitVec 4
  data : List Byte
  deriving DecidableEq, Repr

/-- A received UART character as its bits stand on the line (R180): data, the parity bit where one is sent, the stop bit,
and whether the line was low for at least one character time. -/
structure UartChar where
  c : BitVec 9
  parity : Bool
  stop : Bool
  lowLong : Bool
  deriving DecidableEq, Repr

/-- What a CAN protocol error counts as in the error counters of ISO 11898-1 (R167): an error in a frame, one of its two
exemptions for a transmitter (no acknowledgement of a passive node, a stuff error in arbitration), or a bit error in an
active error flag or overload flag, a dominant bit after the error flag, or eight further dominant bits after a flag. -/
inductive CanErrCount where
  | inFrame | exempt | flag
  deriving DecidableEq, Repr

/-- A CAN protocol error beside its LEC: what it counts as, and the transmitter delay measured in an FD frame that had
passed FDF (R169). -/
structure CanError where
  count : CanErrCount
  tdc : Option Nat
  deriving DecidableEq, Repr

/-- Ring classes, in SOF code order (R191). -/
inductive RingClass where
  | t | c | e | b
  deriving DecidableEq, Repr

/-- A ring frame between SOF and EOF (R214, R215), `fcs` its FCS word. `good` is false for a frame that holds a code error
or ends in EBD (R193). -/
structure RingFrame where
  cls : RingClass
  dstNode : Byte
  dstRing : BitVec 4
  typ : BitVec 4
  srcNode : Byte
  srcRing : BitVec 4
  pairSeq : Bool
  dir : RingPort
  inOrd : Bool
  seq : Half
  epoch : Byte
  hops : Byte
  pad : BitVec 2
  stream : BitVec 5
  keyNode : Byte
  sseq : Byte
  hdr : List Word
  payload : List Word
  good : Bool
  fcs : Word := 0
  deriving DecidableEq, Repr

/-- A ring frame as a port receives it, with RP and LSEQ of its SOF word (R191). -/
structure LinkFrame where
  rp : Bool
  lseq : BitVec 12
  frame : RingFrame
  deriving DecidableEq, Repr

/-- What a lane received in a 1 ms window (R206): its code groups after symbol lock, and the slips of the far-end loopback's
store (R207). -/
structure LaneWindow where
  groups : List (BitVec 10)
  slips : Nat
  deriving DecidableEq, Repr

/-- An alignment marker as received on lane 0 (R190). -/
structure Marker where
  seq : Byte
  echoSeq : Byte
  echoValid : Bool
  turnaround : Word
  txCorr : Word
  rxCorr : Word
  deriving DecidableEq, Repr

/-- The identity that TS sets carry (R190). -/
structure LinkIdentity where
  ring : BitVec 4
  node : Byte
  port : BitVec 2
  deriving DecidableEq, Repr

/-- The causes for which a link leaves ACTIVE and raises LINK_DOWN (R196). -/
inductive DownCause where
  | clockLoss | markerSkew | replayExhausted | berHigh | trainingSets
  deriving DecidableEq, Repr


/-- How a frame ends at a switch input (R266, R305): good, with a bad FCS, or with code errors. -/
inductive FrameEnd where
  | good | fcs
  | code (n : Nat)
  deriving DecidableEq, Repr


/-- Marks of a queue word (R332). -/
inductive Mark where
  | data | last | abort
  deriving DecidableEq, Repr


/-- A record of mirror class M0, M1, M3 or M4 (R364): alias SEQ and EPOCH per class with TERM; W7 and the next instance of
an Ephemeris entry; a register value; a word of a core's mirrored DMEM after a store. -/
inductive MirrorRecord where
  | m0 (aliases : List (Half × Byte)) (term : Byte)
  | m1 (entry : Fin 4096) (w7 : Word) (k : Nat) (ended : Bool)
  | m3 (addr : Word) (value : Word)
  | m4 (core : Fin 4) (addr : Word) (value : Word)
  deriving DecidableEq, Repr

/-- What the power die measures of an output group as an event happens (R393), in the units of R395: current, V_OUT,
V_SUPPLY, mean power, and the energies. -/
structure GroupMeas where
  current : Half
  vout : Half
  supply : Half
  power : Half
  total : Dword
  episode : Half
  ramp : Half
  deriving DecidableEq, Repr

/-- A management transaction that names a register, with the CRC byte received (R464). -/
inductive MgmtCmd where
  | read (addr : BitVec 24) (crc : Byte)
  | write (addr : BitVec 24) (v : Word) (crc : Byte)
  | paired (addr : BitVec 24) (v w : Word) (crc : Byte)
  deriving DecidableEq, Repr

/-- What the host sets on the PCIe link and in the function's configuration (R462). -/
structure PcieConfig where
  gen : Fin 4
  width : Fin 8
  busMaster : Bool
  msixEn : Bool
  maskAll : Bool
  deriving DecidableEq, Repr

/-- The port features of R471. -/
inductive PortFeature where
  | power | reset | enable | suspend
  deriving DecidableEq, Repr

/-- The commands, in the order of the opcode table. -/
inductive Instr where
  /-- R38. A write to a register that has no row of its own is checked under R38 and either commits or raises a bus error. -/
  | registerWrite (i : Initiator) (addr : Word) (size : Nat) (v : Word)
  /-- R12. Writing RST 1 to a UNIT_CTRL starts a unit reset and sets RST_BUSY; accesses to the unit are held. -/
  | unitReset (i : Initiator) (u : HubUnit) (v : Word)
  /-- R13. The unit reset ends within 64 CORE cycles: RST_BUSY clears, EN takes the written value and held accesses complete. -/
  | unitResetComplete (u : HubUnit)
  /-- R14. A write of UNIT_CTRL.EN enables or disables a unit, with the unit-specific effects its chapter gives. -/
  | unitEnableWrite (i : Initiator) (u : HubUnit) (v : Word)
  /-- R42. A read of the low word of a 64-bit value latches the high word into the initiator's shadow. -/
  | readLowWordLatch (i : Initiator) (addr : Word)
  /-- R43. A write of the low word of a 64-bit RW value stages it for that initiator. -/
  | writeLowWordStage (i : Initiator) (addr : Word) (v : Word)
  /-- R43. A write of the high word commits both halves of a 64-bit value in one cycle. -/
  | writeHighWordCommit (i : Initiator) (addr : Word) (v : Word)
  /-- R47. A write of SEQ and a mask to an SQ register clears the masked flags if SEQ matches, or counts a stale clear. -/
  | sqClearWrite (i : Initiator) (addr : Word) (v : Word)
  /-- R50. A write to the value word of a guarded pair arms the pair, or fails it with code 3 if one is already armed. -/
  | guardValueWrite (i : Initiator) (addr : Word) (v : Word)
  /-- R51. No complement arrives within 256 CORE cycles of the value; the pair fails with code 1. -/
  | guardExpiry (addr : Word)
  /-- R56. A full configuration scan completes: LAST and SCAN_COUNT are loaded and the result is compared with the reference unless suspended. -/
  | cfgCrcScanComplete
  /-- R57. Committing the guarded REGIF_CFG_CRC_REF sets the reference and clears HOLD. -/
  | cfgCrcRefCommit (i : Initiator) (compl : Word)
  /-- R21. A committed fence request or a FENCE reaction fences a region: its units are held in reset and its outputs made safe. -/
  | regionFence (i : Initiator) (compl : Word)
  /-- R22. A committed release of a fenced region starts the reload of its configuration and sets RELOADING. -/
  | regionRelease (i : Initiator) (compl : Word)
  /-- R22. The region's configuration reload completes, RELOADING clears and configured units are enabled. -/
  | regionReloadComplete (r : Fin 4)
  /-- R25. A die-link frame with a parity error is discarded, PARITY is raised and the frame is sent again. -/
  | dieLinkParityError (power : Bool)
  /-- R25. After 4 consecutive parity errors or 1 µs without a valid frame the die link is lost and outstanding accesses end with KIND 4. -/
  | dieLinkLost
  /-- R26. The link-loss hold time ends and every held output group in RAMP, ON or LIMITING is switched off. -/
  | linkLossHoldExpiry
  /-- R26. The die link recovers during the hold; the hold ends and held power-die fault records are sent. -/
  | dieLinkRecover
  /-- R68. A FENCE.L stalls its initiator until every earlier local access is complete. -/
  | fenceL (n : Fin 4)
  /-- R68. The last covered local access completes and the stalled FENCE.L ends. -/
  | fenceLComplete (n : Fin 4)
  /-- R69. A FENCE.F stalls its initiator until every earlier non-broadcast ring access is acknowledged or failed. -/
  | fenceF (n : Fin 4)
  /-- R71. The last covered ring access resolves and FENCE.F completes with its result word. -/
  | fenceFComplete (n : Fin 4)
  /-- R74. A host write to HOST_FENCE marks a fence point covering every earlier host write. -/
  | hostFenceMark (v : Word)
  /-- R74. A host read of HOST_FENCE waits for the covered writes, or returns 0x0000_0001 at once with no fence point. -/
  | hostFenceRead
  /-- R75. Every covered write completes or fails and the held HOST_FENCE read returns the summary. -/
  | hostFenceReadComplete
  /-- R83. Committing TIME_STEP_CMD.GO adds TIME_STEP_NS to OFFSET, moves T0 alike, raises TIME_STEP and handles Ephemeris instances. -/
  | timeStep (i : Initiator) (compl : Word)
  /-- R82. A write of TIME_RATE with SOURCE 0 changes RATE and adjusts OFFSET so that time stays continuous. -/
  | timeRateWrite (i : Initiator) (v : Word)
  /-- R84. A read of TIME_NOW_NS_LO computes fabric time and latches the high word and fraction for the initiator. -/
  | timeNowRead (i : Initiator)
  /-- R87. A write of TIME_CTRL.SOURCE moves TIME_STATE to FREE_RUN or ACQUIRING and clears the measurement history. -/
  | timeSourceWrite (i : Initiator) (v : Word)
  /-- R86. A valid measurement gives θ; the servo steps or slews and TIME_STATE moves by R87. -/
  | servoMeasurement (source : Fin 8) (theta : Int)
  /-- R86. One measurement interval after a slew the slew term is removed from RATE. -/
  | slewTermExpiry
  /-- R87. LOSS_COUNT intervals pass without a valid measurement; the state goes to HOLDOVER or FREE_RUN and TIME_SOURCE_LOST is raised. -/
  | timeSourceLossTimeout
  /-- R188. A clock lane shows no transition for 102.4 ns or a wrong frequency; CLOCK_LANE_LOSS is raised, LINE relocks and the link leaves ACTIVE. -/
  | clockLaneLoss (l : Port)
  /-- R90. A clock lane is present again and LINE relocks to it with phase hold within 1 µs. -/
  | clockLaneReturn (l : RingPort)
  /-- R90. The configured lane has been clean for 1 s and LINE returns to the configured direction. -/
  | clockDirReturn
  /-- R91. A window of 3,125,000 LINE cycles ends and RATE_F is computed from the CORE count. -/
  | lineWindowComplete (count : Nat)
  /-- R93. Each BEACON_PERIOD the ring time master sends a time beacon to node 254 on both ring ports. -/
  | timeBeaconSend
  /-- R94. A received time beacon gives θ, loads TAI_UTC fields with SOURCE 1 and is checked against TIME_MASTERS. -/
  | timeBeaconReceive (stamp : Int)
  /-- R101. A PTP event message arrives at a station port, is stamped, and gives a measurement or a hardware peer-delay response. -/
  | ptpMessageReceive (p : Fin 2) (f : PtpFrame) (stamp : Int)
  /-- R102. Each 1 s interval a master or peer-delay port sends Sync, Announce or Pdelay_Req one-step. -/
  | ptpMessageSend (p : Fin 2)
  /-- R104. A decoded IRIG-B frame gives the second carried by the preceding on-time edge and, after two good frames, a measurement. -/
  | irigBFrameReceive (k : Fin 2) (f : IrigFrame) (edge : Int)
  /-- R105. A 1PPS edge on TINn is taken as the nearest whole TAI second, or discarded when |θ| is 400 ms or more. -/
  | tinPpsEdge (k : Fin 2) (edge : Int)
  /-- R106. At each whole TAI second PPS_OUT rises if enabled in the allowed states. -/
  | ppsOutSecond
  /-- R106. WIDTH_MS after its rise PPS_OUT falls. -/
  | ppsOutWidthEnd
  /-- R109. A positive edge on the angle pin gives a crossing, a new T0 and CYCLE + 1, with qualification under R111. -/
  | anglePinCrossing (pin : Fin 256) (edge : Int)
  /-- R110. A write of ANGLE_SV_SECOND, ANGLE_SV_META or ANGLE_SV_RATE stages the value for its initiator. -/
  | angleSvStageWrite (i : Initiator) (addr : Word) (v : Word)
  /-- R110. A write to ANGLE_SV_PUSH commits one sample with the staged words; it is used, discarded or counted, and may give a crossing. -/
  | angleSvPush (i : Initiator) (v : Word)
  /-- R111. No qualifying crossing within 1.5 periods; tracking is lost, ANGLE_UNLOCK is raised and the tracker returns to ACQUIRING. -/
  | angleTrackTimeout
  /-- R113. An angle beacon from MASTER_NODE loads T0, CYCLE and FREQ with SOURCE 3 and moves ANGLE_STATE; one from another node is a mismatch. -/
  | angleBeaconReceive
  /-- R115. A follower receives no beacon for three cycles, raises ANGLE_UNLOCK, sets BEACON_LOST and free-runs. -/
  | angleBeaconLossTimeout
  /-- R116. A read of ANGLE_NOW computes the angle and latches CYCLE, FREQ and T0 for the initiator. -/
  | angleNowRead (i : Initiator)
  /-- R498. A write of ANGLE_CTRL that changes SOURCE or its input field moves ANGLE_STATE to FREE_RUN or ACQUIRING. -/
  | angleCtrlWrite (i : Initiator) (v : Word)
  /-- R118. A write of an entry's W0 clears W7, restarts its instance state and checks the entry. -/
  | ephemW0Write (i : Initiator) (e : Fin 4096) (v : Word)
  /-- R119. A write of W1–W6 of an entry is used as it commits and rechecks an enabled entry, possibly making an instance late. -/
  | ephemWordWrite (i : Initiator) (e : Fin 4096) (w : Fin 8) (v : Word)
  /-- R127. 10 µs before F the hub stages an entry's next instance and sets STAGED. -/
  | ephemStage (e : Fin 4096)
  /-- R125. At F an instance is issued, handled late under LATE, or passed, with chained entries executed after it. -/
  | ephemInstanceFire (e : Fin 4096)
  /-- R123. A pulse's width elapses and the pin returns to its other level. -/
  | pinPulseEnd (pin : Fin 256)
  /-- R132. A write of EPHEM_CTRL sets HOLD_ALL, UNLOCK_MODE or LATE_TOL; releasing HOLD_ALL makes passed instances late with cause 1. -/
  | ephemCtrlWrite (i : Initiator) (v : Word)
  /-- R141. A write of PIN_CFGp changes the pin's mux from the next PIN tick, and a change of INV inverts its filtered level without an edge. -/
  | pinCfgWrite (i : Initiator) (pin : Fin 256) (v : Word)
  /-- R141. A change of a pin's synchronised level starts or discards an edge under its filter. -/
  | pinInputChange (pin : Fin 256) (level : Bool)
  /-- R141. The new level holds for FILT units; the edge is accepted, BANK_LEVEL changes, chatter is counted and a record may be produced. -/
  | pinEdgeAccept (pin : Fin 256)
  /-- R145. A buffered event record enters its queue when the queue takes words again. -/
  | eventRecordDrain (n : Fin 8)
  /-- R143. A pin's CHAT_WINDOW closes without reaching COUNT edges. -/
  | chatterWindowExpiry (pin : Fin 256)
  /-- R143. A suppressed pin has no accepted edge for CHAT_QUIET ms; it is released with a record of kind 4. -/
  | chatterRelease (pin : Fin 256)
  /-- R140. The bank supply lies outside its VSEL window for 10 µs; pins go to high impedance and the node enters Transit. -/
  | bankVmismatch (n : Fin 8)
  /-- R140. The bank supply has been inside the window for 1 ms and the pins take their outputs again. -/
  | bankVokRecover (n : Fin 8)
  /-- R147. A write to BANK_ENG_START starts each named STOPPED or FAULTED enabled engine on one PIN tick. -/
  | bankEngStart (i : Initiator) (n : Fin 8) (v : Word)
  /-- R147. A write to BANK_ENG_STOP stops each named engine at its next engine clock and discards a pending injection. -/
  | bankEngStop (i : Initiator) (n : Fin 8) (v : Word)
  /-- R152. A pin-engine NOP does nothing for one engine clock. -/
  | pNop (e : Fin 64)
  /-- R152. A pin-engine STOP stops the engine with PC at the next instruction. -/
  | pStop (e : Fin 64)
  /-- R153. SHO shifts N bits out of SO to pins, directions, A or B, clocked or not, with automatic fetches. -/
  | pSho (e : Fin 64)
  /-- R153. SHI shifts N bits into SI from pins, A, B or zeros, clocked or not, with automatic stores. `levels`: the cluster pins whose synchronised level changes ahead of the clock. -/
  | pShi (e : Fin 64) (levels : List (Fin 32 × Bool))
  /-- R158. FETCH loads SO from the TX FIFO, stalls, or reloads the last word with BLK 0. -/
  | pFetch (e : Fin 64)
  /-- R158. STORE writes SI to the RX FIFO, stalls, or discards with BLK 0. -/
  | pStore (e : Fin 64)
  /-- R156. WAIT holds the engine on a pin level, an edge, a count, a cluster event or an Ephemeris signal. -/
  | pWait (e : Fin 64)
  /-- R152. JMP jumps to ADDR if its condition holds, faulting if the target lies outside the window. -/
  | pJmp (e : Fin 64)
  /-- R152. ADDI adds a signed value to A or B. -/
  | pAddi (e : Fin 64)
  /-- R152. MOV moves an operated source to pins, A, B, SO, SI, PC or directions. -/
  | pMov (e : Fin 64)
  /-- R152. SETP sets low group pin levels or directions, or A or B, from an immediate. -/
  | pSetp (e : Fin 64)
  /-- R152. CLKSET drives CLK_PIN to a level if the engine owns it. -/
  | pClkset (e : Fin 64)
  /-- R152. EVT sets, sets and waits, or clears a cluster event, or sets ENG_EVENTS.IRQ. -/
  | pEvt (e : Fin 64)
  /-- R152. STAMP pushes time, ANGLE or CYCLE taken at its first engine clock into the RX FIFO. -/
  | pStamp (e : Fin 64)
  /-- R156. The condition of a WAIT or EVT OP 1 is met and the engine continues at its next clock. -/
  | engineWaitResume (e : Fin 64)
  /-- R155. A FIFO that stalled a fetch, store, stamp or shift step allows it and the engine continues; `levels` as for SHI. -/
  | engineStallResume (e : Fin 64) (levels : List (Fin 32 × Bool))
  /-- R148. A write to ENG_PC of a stopped engine discards any latched instruction and its pending state. -/
  | engPcWrite (i : Initiator) (e : Fin 64) (v : Word)
  /-- R157. A write of ENG_CTRL that changes FIFO_MODE empties both FIFOs. -/
  | engCtrlWrite (i : Initiator) (e : Fin 64) (v : Word)
  /-- R160. A write to ENG_INJECT loads the slot for execution at the next engine clock, or is refused. -/
  | engInjectWrite (i : Initiator) (e : Fin 64) (v : Word)
  /-- R160. The injected instruction runs in place of a fetch on the first engine clock at least one tick after the write; `levels` as for SHI. -/
  | injectedInstructionExecute (e : Fin 64) (levels : List (Fin 32 × Bool))
  /-- R159. A write to ENG_TXF pushes one word or is discarded with TXF_OVER. -/
  | engTxfWrite (i : Initiator) (e : Fin 64) (v : Word)
  /-- R159. A read of ENG_RXF pops one word or returns 0 with RXF_UNDER. -/
  | engRxfRead (i : Initiator) (e : Fin 64)
  /-- R159. A word available in queue TXQ is taken into the engine's TX FIFO when it has room. -/
  | engTxqFill (e : Fin 64)
  /-- R159. A word leaves the RX FIFO into queue RXQ when the queue takes it, with end marks every PKT_WORDS. -/
  | engRxqDrain (e : Fin 64)
  /-- R168. Setting CAN_CTRL.INIT, or disabling the unit, puts the controller in INIT and abandons a frame. -/
  | canInitSet (i : Initiator) (n : Fin 8) (v : Word)
  /-- R170. Clearing INIT with valid timing moves to INTEGRATING, otherwise sets TIMING_BAD. -/
  | canInitClear (i : Initiator) (n : Fin 8) (v : Word)
  /-- R168. Writing RECOVER 1 in BUS_OFF starts recovery. -/
  | canRecover (i : Initiator) (n : Fin 8) (v : Word)
  /-- R177. Setting SLEEP_REQ asks the controller to sleep at the next bus idle. -/
  | canSleepReq (i : Initiator) (n : Fin 8) (v : Word)
  /-- R177. Clearing SLEEP_REQ in SLEEP wakes the controller with cause 4. -/
  | canSleepReqClear (i : Initiator) (n : Fin 8) (v : Word)
  /-- R168. 11 consecutive recessive bits move INTEGRATING to ERROR_ACTIVE. -/
  | canIntegrationComplete (n : Fin 8)
  /-- R168. 128 occurrences of 11 recessive bits end RECOVERING in ERROR_ACTIVE with counters zero. -/
  | canRecoveryComplete (n : Fin 8)
  /-- R177. At bus idle with SLEEP_REQ the controller enters SLEEP, drives STB high and copies the wake registers. -/
  | canSleepEnter (n : Fin 8)
  /-- R175. Before each start of frame the highest pending buffer in arbitration order starts transmission. -/
  | canTxStart (n : Fin 8)
  /-- R176. A transmitting frame loses arbitration; it is cancelled if a cancel was pending, else retried. -/
  | canArbitrationLost (n : Fin 8)
  /-- R176. A frame is sent successfully; TXOK is set and its start-of-frame stamp stored. -/
  | canTxComplete (n : Fin 8) (tdc : BitVec 7)
  /-- R168. A bus error updates TEC or REC and may move to ERROR_PASSIVE or BUS_OFF; the frame is retried or failed. -/
  | canProtocolError (n : Fin 8) (lec : Fin 8) (x : CanError)
  /-- R172. A frame received without error is filtered and stored in the RX FIFO or queue, or lost. -/
  | canFrameReceive (n : Fin 8) (f : CanFrame) (sof : Nat)
  /-- R175. A write to CAN_TXADD requests the named buffers. -/
  | canTxadd (i : Initiator) (n : Fin 8) (v : Word)
  /-- R176. A write to CAN_TXCANCEL cancels the named pending buffers with the outcome of R176. -/
  | canTxcancel (i : Initiator) (n : Fin 8) (v : Word)
  /-- R174. A read of word 0 of buffer GET locks it for the reader. -/
  | canRxWord0Read (i : Initiator) (n : Fin 8)
  /-- R174. The locking initiator's read of the last word frees the buffer and advances GET. -/
  | canRxLastWordRead (i : Initiator) (n : Fin 8)
  /-- R178. A dominant level held WAKE_FILT µs in SLEEP wakes the controller with cause 1. -/
  | canWakeDominant (n : Fin 8)
  /-- R178. The Comet decoder ends a frame: a match wakes with cause 2, an error counts and may wake with cause 3. -/
  | canWakeFrameDecode (n : Fin 8) (f : Option CanFrame)
  /-- R182. A write to UART_TXF pushes a transmit word or sets TXF_OVER. -/
  | uartTxfWrite (i : Initiator) (u : Fin 16) (v : Word)
  /-- R184. A read of UART_RXF pops a receive word or returns 0 with RXF_UNDER. -/
  | uartRxfRead (i : Initiator) (u : Fin 16)
  /-- R181. With words waiting and the line idle for FRAME_GAP, the transmitter raises DE and starts after DE_LEAD. -/
  | uartTxFrameStart (u : Fin 16)
  /-- R181. A character's stop bit ends; the next is sent, or the frame ends with TX_DONE at LAST. -/
  | uartCharSent (u : Fin 16)
  /-- R181. DE_LAG after the last stop bit, DE falls. -/
  | uartDeLagEnd (u : Fin 16)
  /-- R180. A received character, with parity, framing and break, enters the RX FIFO or queue, or is compared as an echo. -/
  | uartCharReceive (u : Fin 16) (c : UartChar) (gap : Nat)
  /-- R181. An echo is missing one character time after its character and COLLISION is set. -/
  | uartEchoTimeout (u : Fin 16)
  /-- R183. The receive gap reaches FRAME_GAP; the frame ends with LAST and UART_FRAMING may be raised. -/
  | uartFrameGapExpiry (u : Fin 16)
  /-- R182. A word arrives in queue TXQ and is taken into the transmitter. -/
  | uartTxqFill (u : Fin 16)
  /-- R194. A write that makes the leaving condition of DISABLED hold moves the port to CLOCK_LOCK. -/
  | linkTrainStart (i : Initiator) (addr : Word) (v : Word)
  /-- R194. The clock lane is present and the receive clock locked; the port goes to BIT_ALIGN. -/
  | linkClockLocked (l : Port)
  /-- R194. Every data lane has a sampling phase; the port goes to SYMBOL_LOCK. -/
  | linkBitAlignDone (l : Port)
  /-- R194. 8 consecutive TS1 at one comma position on every lane; the port goes to DESKEW. -/
  | linkSymbolLocked (l : Port)
  /-- R194. Every lane shows TS2 with its lane number within skew; the port goes to CONFIG, or fails with LINK_DESKEW. -/
  | linkDeskewed (l : Port) (lanes : List (Fin 4)) (skew : Nat)
  /-- R195. The TS2 exchange completes; the identity is compared and the port enters ACTIVE or LOOPBACK. -/
  | linkConfigDone (l : Port) (id : LinkIdentity)
  /-- R194. A training state times out; the port stops sending for 10 µs and counts a failure. -/
  | linkTrainTimeout (l : Port)
  /-- R194. 10 µs after a training failure the port returns to CLOCK_LOCK. -/
  | linkTrainQuietEnd (l : Port)
  /-- R196. 4 consecutive TS1 received in ACTIVE take the link down. -/
  | linkTs1Receive (l : Port)
  /-- R199. Every 1,024 symbol times the transmitter sends a SKP set. -/
  | linkSkpSend (l : Port)
  /-- R199. At a received SKP set the elastic store inserts or deletes up to 2 symbols. -/
  | linkSkpReceive (l : Port) (delta : Int)
  /-- R200. Each AM period the port sends an alignment marker with echo, turnaround and corrections. -/
  | linkAmSend (l : Port) (stamp : Nat)
  /-- R201. A received AM is stamped; a valid echo gives RTT and link delay, and a misaligned AM takes the link down. -/
  | linkAmReceive (l : Port) (m : Marker) (stamp : Nat) (aligned : Bool)
  /-- R203. An RP 1 frame is delivered, dropped as duplicate or refused with a NAK per NEXT. -/
  | linkFrameReceive (l : Port) (rp : Bool) (lseq : BitVec 12) (f : RingFrame)
  /-- R204. An ACK LCS frees acknowledged frames from the replay buffer. -/
  | linkAckReceive (l : Port) (lanes : List (Option (BitVec 12)))
  /-- R204. A NAK LCS starts a replay from the oldest unacknowledged frame. -/
  | linkNakReceive (l : Port) (lanes : List (Option (BitVec 12)))
  /-- R204. The oldest frame has waited REPLAY_TIMER and is replayed. -/
  | linkReplayTimerExpiry (l : Port)
  /-- R204. The oldest frame has had 3 replays or 2 µs without acknowledgement; the link leaves ACTIVE. -/
  | linkReplayExhausted (l : Port)
  /-- R206. A 1 ms window ends; a lane above BER_LIMIT sets BER_HIGH and may take the link down. -/
  | linkBerWindowEnd (l : Port) (lanes : List LaneWindow)
  /-- R207. A write of LINK_LOOPBACK.MODE returns the port to DISABLED or enters far-end loopback from ACTIVE. -/
  | linkLoopbackWrite (i : Initiator) (l : Port) (v : Word)
  /-- R208. A write of LINK_TEST starts or stops PRBS generation and checking; clearing GEN retrains. -/
  | linkTestWrite (i : Initiator) (l : Port) (v : Word)
  /-- R210. A write of LINK_BYPASS_CTRL with FORCE 1 or AUTO 0 sends the bypass to BYPASSED. -/
  | bypassCtrlWrite (i : Initiator) (v : Word)
  /-- R210. With AUTO 1 at link training or after RETRY, the bypass goes to JOINING and BYPASS_N rises. -/
  | bypassJoinStart
  /-- R210. SETTLE ends and EAST and WEST are released from DISABLED. -/
  | bypassSettleEnd
  /-- R210. SETTLE + 2 ms pass without an ACTIVE port and the bypass returns to BYPASSED. -/
  | bypassJoinTimeout
  /-- R210. Neither ring port is ACTIVE for DOWN_HOLD; the bypass returns to BYPASSED. -/
  | bypassDownHoldExpiry
  /-- R229. After H0–H2 of a ring frame the hub strips, forwards, drops or passes it to the switch per its window. -/
  | ringFrameArrive (port : RingPort) (x : LinkFrame) (used : Nat) (residence : Nat)
  /-- R230. At a good EOF the duplicate window is checked again and committed, or the copy is tail-marked. -/
  | ringFrameCommit (port : RingPort)
  /-- R228. A received JOIN sets the sender's present bit and is answered with REPLY unless it was a reply. -/
  | ringJoinReceive
  /-- R228. A received LEAVE clears the sender's present bit and may break its semaphores. -/
  | ringLeaveReceive
  /-- R234. A received BREAK records a broken span and may record a hub absent. -/
  | ringBreakReceive
  /-- R234. A received HEAL clears a broken span and records skipped hubs absent. -/
  | ringHealReceive
  /-- R224. Committing RING_CMD.REJOIN moves TRANSIT to DOWN if no cause remains. -/
  | ringRejoin (i : Initiator) (compl : Word)
  /-- R228. Committing RING_CMD.LEAVE sends LEAVE both ways. -/
  | ringLeave (i : Initiator) (compl : Word)
  /-- R228. 10 µs after LEAVE the hub goes to DOWN. -/
  | ringLeaveComplete
  /-- R237. A held in-order frame reaches HOLD; held frames are delivered and the gap counted. -/
  | reorderHoldExpiry
  /-- R241. A transaction frame arriving over PAIR at a bridge is originated into its ring with a record, or a response is mapped back. -/
  | bridgePairFrameReceive (x : LinkFrame)
  /-- R241. A bridge record is freed 2 × TXN_TIMEOUT after its request. -/
  | bridgeRecordExpiry
  /-- R247. A transaction request reaches its destination; space 0 is answered at once, spaces 1–3 go to their target port. -/
  | ringRequestReceive
  /-- R247. A fetch not ready within 1 µs is answered RETRY and continues in a fetch slot. -/
  | bridgeFetchRetry (slot : Fin 32)
  /-- R248. A fetch's data is ready or fails, and waits HOLD for its read. -/
  | bridgeFetchComplete (slot : Fin 32) (ok : Bool)
  /-- R248. Fetched data waits HOLD without its read and is discarded. -/
  | bridgeHoldExpiry (slot : Fin 32)
  /-- R245. A write waiting for room is accepted into its target port's write buffer and acknowledged. -/
  | bridgeWriteBufferAccept (port : Fin 6)
  /-- R244. A response matching a live TAG completes, fails or RETRYs its transaction; an unmatched one is discarded. -/
  | ringResponseReceive
  /-- R249. RETRY_GAP after a RETRY the read is re-issued, or ends with BRIDGE_RETRY_EXHAUSTED at RETRY_MAX. -/
  | bridgeRetryGapExpiry (tag : Byte)
  /-- R252. No response within TXN_TIMEOUT; the transaction fails with cause 2 and TXN_TIMEOUT is raised. -/
  | txnResponseTimeout (tag : Byte)
  /-- R254. The transaction deadline or host load limit expires; it fails with cause 4. -/
  | txnDeadlineExpiry (tag : Byte)
  /-- R244. A TAG freed by a timeout becomes reusable after 2 × TXN_TIMEOUT. -/
  | tagQuarantineEnd (tag : Byte)
  /-- R256. A read of a free semaphore acquires it and returns 0; a held one returns the owner word. -/
  | semaphoreRead (i : Initiator) (n : Fin 32)
  /-- R257. A write by the owner releases the semaphore; others are ignored and counted. -/
  | semaphoreWrite (i : Initiator) (n : Fin 32) (v : Word)
  /-- R257. A semaphore held for LEASE is broken and SEMAPHORE_BROKEN is raised. -/
  | semaphoreLeaseExpiry (n : Fin 32)
  /-- R264. A frame's first cell enters the switch; it is classified and admitted or dropped per destination queue. -/
  | switchFrameArrive (p : Fin 7) (q : Fin 64) (bytes : List Byte)
  /-- R266. A frame's last cell is stored, or it proves bad and is tail-marked or discarded. -/
  | switchFrameEnd (p : Fin 7) (e : FrameEnd)
  /-- R269. Each µs an empty queue's average depth is updated with depth 0. -/
  | redIdleUpdate (q : Fin 64)
  /-- R294. An idle output starts the head frame of the highest eligible class under shaper, gate and guard. -/
  | egressTxStart (o : Fin 8)
  /-- R339. A frame for HOST, SERVICE, EDGE or USB enters its queue as one packet when the queue has room. -/
  | switchQueueDeliver (o : Fin 8) (c : Fin 8)
  /-- R339. A frame waits QUEUE_SWITCH_WAIT for queue room and is dropped. -/
  | queueSwitchWaitExpiry (o : Fin 8) (c : Fin 8)
  /-- R276. A whole packet of a capture channel's input queue is taken as a record. -/
  | captureQueuePacket (c : Fin 16)
  /-- R278. A write of CAP_RD advances the read offset or is ignored with RD_BAD. -/
  | capRdWrite (i : Initiator) (c : Fin 16) (v : Word)
  /-- R279. A write of CAP_CTRL sets EN, resetting CAP_WR and CAP_RD on enable, and changes only EN while enabled. -/
  | capCtrlWrite (i : Initiator) (c : Fin 16) (v : Word)
  /-- R290. A write to a policer's configuration sets both buckets full. -/
  | policerConfigWrite (i : Initiator) (p : Fin 1024) (w : Fin 4) (v : Word)
  /-- R293. A write to a shaper's configuration resets TOKENS and recomputes its wheel entry. -/
  | shaperConfigWrite (i : Initiator) (sh : Fin 512) (w : Fin 3) (v : Word)
  /-- R292. A shaper's calendar slot is reached and it becomes eligible, or is re-entered from the last coarse slot. -/
  | shaperEligible (sh : Fin 512)
  /-- R295. Fabric time crosses a gate control list entry boundary and the gate states change. -/
  | gateEntryBoundary (p : Fin 2)
  /-- R296. A timed override's HOLD ends and the list governs the classes again. -/
  | gateOverrideExpiry (p : Fin 2) (c : Fin 8)
  /-- R298. Committing STA_GATE_CMD.CONFIG_CHANGE schedules the admin list, or sets CONFIG_ERROR. -/
  | configChange (i : Initiator) (p : Fin 2) (compl : Word)
  /-- R298. At the change time the admin list is copied into the operating list. -/
  | gateChangeTime (p : Fin 2)
  /-- R300. At the good end of a station frame its RCT is removed and PRP duplicate discard applied. -/
  | prpFrameReceive (p : Fin 2) (bytes : List Byte) (good : Bool)
  /-- R301. Every 2 s with SUP_EN a PRP supervision frame is sent on both ports. -/
  | prpSupervisionSend
  /-- R306. A station port's LINK changes and LINK_UP or LINK_DOWN is set. -/
  | staLinkChange (p : Fin 2) (sync : BitVec 4) (aligned : Bool) (localFault : Bool) (remoteFault : Bool)
  /-- R314. rd = ra + rb. -/
  | add (n : Fin 4)
  /-- R314. rd = ra − rb. -/
  | sub (n : Fin 4)
  /-- R314. rd = ra AND rb. -/
  | and (n : Fin 4)
  /-- R314. rd = ra OR rb. -/
  | or (n : Fin 4)
  /-- R314. rd = ra XOR rb. -/
  | xor (n : Fin 4)
  /-- R314. rd = ra shifted left by rb[4:0]. -/
  | sll (n : Fin 4)
  /-- R314. rd = ra shifted right logically by rb[4:0]. -/
  | srl (n : Fin 4)
  /-- R314. rd = ra shifted right arithmetically by rb[4:0]. -/
  | sra (n : Fin 4)
  /-- R314. rd = 1 if ra < rb signed. -/
  | clt (n : Fin 4)
  /-- R314. rd = 1 if ra < rb unsigned. -/
  | cltu (n : Fin 4)
  /-- R314. rd = low 32 bits of ra × rb. -/
  | mul (n : Fin 4)
  /-- R314. rd = high 32 bits of signed ra × rb. -/
  | mulhs (n : Fin 4)
  /-- R314. rd = high 32 bits of unsigned ra × rb. -/
  | mulhu (n : Fin 4)
  /-- R314. rd = signed quotient, setting DZ or OV on the special cases. -/
  | div (n : Fin 4)
  /-- R314. rd = unsigned quotient, setting DZ on division by zero. -/
  | divu (n : Fin 4)
  /-- R314. rd = signed remainder with the sign of ra. -/
  | rem (n : Fin 4)
  /-- R314. rd = unsigned remainder. -/
  | remu (n : Fin 4)
  /-- R314. rd = leading zeros of ra. -/
  | clz (n : Fin 4)
  /-- R314. rd = number of 1 bits in ra. -/
  | popc (n : Fin 4)
  /-- R314. rd = ra with byte order reversed. -/
  | bswap (n : Fin 4)
  /-- R314. rd = ra shifted left by the rb field. -/
  | slli (n : Fin 4)
  /-- R314. rd = ra shifted right logically by the rb field. -/
  | srli (n : Fin 4)
  /-- R314. rd = ra shifted right arithmetically by the rb field. -/
  | srai (n : Fin 4)
  /-- R313. rd = ra + simm. -/
  | addi (n : Fin 4)
  /-- R313. rd = ra AND zimm. -/
  | andi (n : Fin 4)
  /-- R313. rd = ra OR zimm. -/
  | ori (n : Fin 4)
  /-- R313. rd = ra XOR zimm. -/
  | xori (n : Fin 4)
  /-- R313. rd = 1 if ra < simm signed. -/
  | clti (n : Fin 4)
  /-- R313. rd = 1 if ra < simm unsigned. -/
  | cltiu (n : Fin 4)
  /-- R313. rd = imm16 << 16. -/
  | ldhi (n : Fin 4)
  /-- R313. Loads a word from IMEM, DMEM or the register map. -/
  | ldw (n : Fin 4)
  /-- R313. Loads a sign-extended halfword from DMEM. -/
  | ldh (n : Fin 4)
  /-- R313. Loads a zero-extended halfword from DMEM. -/
  | ldhu (n : Fin 4)
  /-- R313. Loads a sign-extended byte from DMEM. -/
  | ldb (n : Fin 4)
  /-- R313. Loads a zero-extended byte from DMEM. -/
  | ldbu (n : Fin 4)
  /-- R313. Stores a word to IMEM, DMEM or posted to the register map, mirroring M4 stores. -/
  | stw (n : Fin 4)
  /-- R313. Stores a halfword to DMEM. -/
  | sth (n : Fin 4)
  /-- R313. Stores a byte to DMEM. -/
  | stb (n : Fin 4)
  /-- R313. Branches if ra = rb. -/
  | beq (n : Fin 4)
  /-- R313. Branches if ra ≠ rb. -/
  | bne (n : Fin 4)
  /-- R313. Branches if ra < rb signed. -/
  | blt (n : Fin 4)
  /-- R313. Branches if ra ≥ rb signed. -/
  | bge (n : Fin 4)
  /-- R313. Branches if ra < rb unsigned. -/
  | bltu (n : Fin 4)
  /-- R313. Branches if ra ≥ rb unsigned. -/
  | bgeu (n : Fin 4)
  /-- R313. Jumps PC-relative. -/
  | jmp (n : Fin 4)
  /-- R315. Pushes the return address on the return stack and jumps PC-relative. -/
  | call (n : Fin 4)
  /-- R313. Jumps to ra + simm. -/
  | jr (n : Fin 4)
  /-- R315. Pushes the return address and jumps to ra + simm. -/
  | callr (n : Fin 4)
  /-- R315. Pops the return stack into PC. -/
  | ret (n : Fin 4)
  /-- R316. Issues a non-posted fabric read and stalls until complete. -/
  | ldf (n : Fin 4)
  /-- R316. Issues a non-posted fabric write and stalls for its acknowledgement. -/
  | stf (n : Fin 4)
  /-- R316. Issues a posted fabric write. -/
  | stfp (n : Fin 4)
  /-- R316. Writes fabric time, ANGLE or CYCLE at the issue cycle to rd. -/
  | stamp (n : Fin 4)
  /-- R319. Searches the exact-match table for a key and writes HIT, MULTI and index. -/
  | lookup (n : Fin 4)
  /-- R320. Advances a CRC-32C value over one byte. -/
  | crc32cB (n : Fin 4)
  /-- R320. Advances a CRC-32C value over two bytes. -/
  | crc32cH (n : Fin 4)
  /-- R320. Advances a CRC-32C value over four bytes. -/
  | crc32cW (n : Fin 4)
  /-- R320. Advances a CRC-16 value over one byte with CRC16POLY. -/
  | crc16B (n : Fin 4)
  /-- R317. Puts a word with a mark into a queue, stalling or failing when full. -/
  | send (n : Fin 4)
  /-- R317. Takes a word and its mark from a queue, stalling or returning mark 3 when absent. -/
  | recv (n : Fin 4)
  /-- R336. Discards the words of a queue up to and including the next mark. -/
  | droppkt (n : Fin 4)
  /-- R318. Reads a special register, popping the return stack for RS_TOP. -/
  | gets (n : Fin 4)
  /-- R322. Writes a special register with its side effects, such as clearing IPEND bits or kicking the watchdog. -/
  | puts (n : Fin 4)
  /-- R318. Returns from a trap: PC = RPC, INTEN restored, INTRAP cleared. -/
  | rtt (n : Fin 4)
  /-- R318. Waits until IPEND AND IMASK is non-zero. -/
  | wfe (n : Fin 4)
  /-- R318. Halts with reason 3 if BRK_EN, otherwise raises BREAK. -/
  | brk (n : Fin 4)
  /-- R311. The wait of a stalled service-core instruction ends (data, room, acknowledgement or event) and it completes. -/
  | svcStallComplete (n : Fin 4)
  /-- R321. A bus error on a posted register-map store raises an imprecise ACCESS at the next boundary. -/
  | impreciseAccessException (n : Fin 4)
  /-- R324. At a boundary with INTEN 1 and a pending enabled bit the core takes the lowest interrupt. -/
  | interruptEntry (n : Fin 4)
  /-- R323. Fabric time reaches the armed TIMER value and IPEND.TIMER is set. -/
  | svcTimerCompare (n : Fin 4)
  /-- R323. A write to SVC_DOORBELL by another initiator sets IPEND.SOFT. -/
  | svcDoorbellWrite (i : Initiator) (n : Fin 4) (v : Word)
  /-- R327. SVC_CMD.START runs a HALTED core from SVC_PC. -/
  | start (i : Initiator) (n : Fin 4) (v : Word)
  /-- R327. SVC_CMD.HALT stops the core at the next boundary. -/
  | halt (i : Initiator) (n : Fin 4) (v : Word)
  /-- R327. SVC_CMD.STEP runs one instruction and halts with reason 4. -/
  | step (i : Initiator) (n : Fin 4) (v : Word)
  /-- R328. An instruction address matches an enabled breakpoint and the core halts with reason 2. -/
  | breakpointHit (n : Fin 4)
  /-- R329. The watchdog expires; WATCHDOG is raised and the core halts with reason 6. -/
  | watchdog (n : Fin 4)
  /-- R309. The scrubber reads the next word of an idle core memory and corrects or reports ECC errors. -/
  | memoryScrubRead (n : Fin 4) (addr : Nat)
  /-- R333. A write to Q_PUSH offers a word with mark NONE, taken, refused or dropped when full. -/
  | qPush (i : Initiator) (q : Fin 64) (v : Word)
  /-- R333. A write to Q_PUSH_END offers a word with mark END. -/
  | qPushEnd (i : Initiator) (q : Fin 64) (v : Word)
  /-- R332. A write to Q_PUSH_ABORT offers an ABORT, which may take the last entry. -/
  | qPushAbort (i : Initiator) (q : Fin 64) (v : Word)
  /-- R335. A read of Q_POP takes an available word and latches its mark, or answers as for an absent word. -/
  | qPop (i : Initiator) (q : Fin 64)
  /-- R335. A host Q_POP stalls QUEUE_HOST_STALL and ends with Completer Abort. -/
  | qPopHostStallExpiry (q : Fin 64)
  /-- R336. A write to Q_DROPPKT discards words up to and including the next mark. -/
  | qDroppkt (i : Initiator) (q : Fin 64) (v : Word)
  /-- R344. DRAM reset and initialisation complete; the controller goes to TRAINING. -/
  | dramInitComplete
  /-- R344. Training completes on every byte lane; the controller goes to FILL. -/
  | dramTrainingComplete
  /-- R344. Every DRAM word is zeroed; the controller goes to READY. -/
  | dramFillComplete (ok : Bool)
  /-- R344. 20 ms without completion, a failing step or a fill error; the controller goes to FAILED. -/
  | dramBringupFail (failStep : Fin 8)
  /-- R345. The DRAM scrubber reads the next word and corrects single errors. -/
  | dramScrubRead (addr : Nat) (bits : Fin 3)
  /-- R351. A reply packet on the REPLY queue completes its fetch slot, or is discarded if the slot is not busy. -/
  | endpointReply
  /-- R351. A fetch gets no reply within FETCH_LIMIT and fails. -/
  | endpointFetchLimitExpiry (slot : Fin 32)
  /-- R359. Every 10 µs a hub sends a heartbeat to its partner over PAIR and the ring. -/
  | pairHeartbeatSend
  /-- R357. A partner heartbeat updates partner state and moves ROLE per R357. -/
  | pairHeartbeatReceive (hb : Option (Word × Word × Word))
  /-- R359. A path is silent for 30 µs and its PARTNER_SEEN bit clears. -/
  | pairPathSilence (ring : Bool)
  /-- R371. PAIR is silent 100 µs while ring heartbeats arrive; PAIR_LINK_LOST is raised and mirroring uses the ring. -/
  | pairLinkLost
  /-- R357. START_WAIT of silence in SEEKING makes the hub PRIMARY with a new alias EPOCH. -/
  | pairStartWaitExpiry
  /-- R357. 100 µs of silence sends SYNCING to SEEKING or takes over from STANDBY with PAIR_TAKEOVER. -/
  | pairSilence100us
  /-- R369. 250 µs of silence with LEASE_OFF 0 sends PRIMARY to HELD. -/
  | pairSilence250us
  /-- R361. A paired command takes an alias SEQ and is sent as an M2 record before issue, or issued directly. -/
  | pairedCommandIssue
  /-- R361. The M2 record is acknowledged or fails and the command is issued to the ring. -/
  | m2RecordAccept (ok : Bool)
  /-- R362. A STANDBY accepts an M2 record and sends the same command with the recorded SEQ. -/
  | m2RecordReceive (r : Option (List Word))
  /-- R364. A mirror record of M0, M1, M3 or M4 is applied at the partner. -/
  | mirrorRecordReceive (r : MirrorRecord)
  /-- R364. Each M3_PERIOD the PRIMARY sends changed M3 register values. -/
  | m3PeriodSend
  /-- R365. The snapshot completes and SYNCING becomes STANDBY with SYNC_DONE. -/
  | pairSnapshotComplete
  /-- R368. Committing PAIR_CMD.SWITCHOVER starts a handover. -/
  | switchover (i : Initiator) (compl : Word)
  /-- R357. Committing PAIR_CMD.RESYNC sends STANDBY to SYNCING. -/
  | resync (i : Initiator) (compl : Word)
  /-- R368. Once every M2 record is accepted the PRIMARY sends a heartbeat with HANDOVER and TERM + 1. -/
  | handoverSend
  /-- R370. A lower-rank STANDBY healthy for TAKEBACK_HOLD asks for a handover. -/
  | takebackHoldExpiry
  /-- R377. ENABLE rises and the feed start waits 1 ms of steady high. -/
  | enableRise
  /-- R377. After 1 ms of ENABLE high the qualifying feeds are selected and the card rail ramps. -/
  | feedEnableQualified (va : Half) (vb : Half)
  /-- R377. The card rail reaches the feed; the gate is enhanced fully, the feed goes ON and the logic die is started. -/
  | feedRampComplete (f : Fin 2) (v : Half)
  /-- R377. ENABLE falls; feeds and output groups are pulled off and LOGIC_EN falls. -/
  | enableFall
  /-- R378. The card rail rises 10 mV above an ON feed and the feed switch is pulled off to BLOCKED. -/
  | feedReverseTurnoff (f : Fin 2) (v : Half)
  /-- R378. A BLOCKED feed rises 50 mV above the card rail and returns to ON. -/
  | feedReverseRecover (f : Fin 2) (v : Half)
  /-- R380. A feed stays below UV_FALL for 10 µs; it is turned off and FEED_UV raised. -/
  | feedUv (f : Fin 2) (v : Half)
  /-- R380. A feed stays above UV_FALL + 1 V for 10 ms and is selected again. -/
  | feedUvRecover (f : Fin 2) (v : Half) (rail : Half)
  /-- R379. In priority mode the conducting feed falls below UV_FALL or turns off; it is pulled off and DEAD begins. -/
  | feedSwitchoverStart (f : Fin 2)
  /-- R379. DEAD elapses and the other feed is turned on if qualified. -/
  | feedDeadTimeEnd (v : Half)
  /-- R379. The preferred feed has held above threshold for RETURN_HOLD; the hub returns to it break-before-make. -/
  | feedReturnHoldEnd (v : Half)
  /-- R382. A write of FEED_UNIT_CTRL.EN 0 turns the feed off, or is refused if it is the only ON feed. -/
  | feedDisableWrite (i : Initiator) (f : Fin 2) (v : Word)
  /-- R376. Both feeds fall below 12.0 V; POWER registers reset, PRIO_SEL is sampled and TMEM is read. -/
  | powerDieReset (prio : Bool) (tmem : Half)
  /-- R384. An ON command reaches the power die 1 µs after commit and starts RAMP or is refused. -/
  | grpOn (g : Fin 8)
  /-- R384. An OFF command reaches the power die and sends the group to OFF or cancels its retry. -/
  | grpOff (g : Fin 8)
  /-- R383. V_OUT reaches V_SUPPLY − 0.5 V and the group goes ON. -/
  | grpRampComplete (g : Fin 8) (m : GroupMeas)
  /-- R385. A short or ramp timeout ends RAMP in TRIPPED with cause 6. -/
  | shortDuringRamp (g : Fin 8) (m : GroupMeas)
  /-- R383. Current reaches I_LIMIT with BREAKER 0; the group regulates in LIMITING and the fault timer runs. -/
  | grpLimitEnter (g : Fin 8) (m : GroupMeas)
  /-- R383. Current stays below I_LIMIT for 1 ms; the group returns to ON and the fault timer clears. -/
  | grpLimitExit (g : Fin 8) (m : GroupMeas)
  /-- R386. Current reaches FT_MULT × I_LIMIT and the gate is pulled down with cause 1. -/
  | groupFastTrip (g : Fin 8) (m : GroupMeas)
  /-- R386. The fault timer reaches FAULT_TIME and the group trips with cause 2. -/
  | groupSlowTrip (g : Fin 8) (m : GroupMeas)
  /-- R387. Episode energy, mean power or ramp energy reaches its limit and the group trips with cause 3, 4 or 5. -/
  | groupEnergyLimit (g : Fin 8) (limit : Fin 3) (m : GroupMeas)
  /-- R388. RETRY elapses; the group goes to RAMP under automatic retry or to OFF. -/
  | grpRetryExpiry (g : Fin 8)
  /-- R388. 1 s of ON or LIMITING without a trip clears RETRIES. -/
  | grpRetriesClear (g : Fin 8)
  /-- R389. The trip-memory interval elapses and ON commands are accepted again. -/
  | tmemBlockEnd
  /-- R392. A sensor reaches WARN and OVERTEMP (DEGRADED) is raised. -/
  | thermalWarn (k : Fin 4) (t : Half)
  /-- R392. A sensor reaches SHUT; OVERTEMP (MAJOR), HEALTH_OUT opens and every group goes OFF. -/
  | thermalShut (k : Fin 4) (t : Half)
  /-- R392. A sensor falls 10 °C below its threshold; the comparison clears and the shutdown may end. -/
  | thermalClear (k : Fin 4) (t : Half)
  /-- R400. 50 µs after LOGIC_PG with clocks locked the logic power-on reset is released, straps sampled and fuses loaded. -/
  | logicPorRelease (bootMode : Fin 4)
  /-- R482. LOGIC_PG is low for 2 µs or more, giving a logic power-on reset. -/
  | logicSupplyLoss
  /-- R397. RESET_N low gives a logic power-on reset. -/
  | resetNAssert
  /-- R397. VAON rises past its threshold and Comet leaves power-on reset with its registers cleared. -/
  | cometPor
  /-- R482. VAON falls below 1.60 V; Comet enters reset and the power die lowers LOGIC_EN. -/
  | vaonLoss
  /-- R397. Committing GLOBAL_RESET_CMD.WARM gives a warm reset. -/
  | warm (i : Initiator) (compl : Word)
  /-- R397. PERST_N low or a PCIe hot reset resets the HOST unit. -/
  | perstAssert
  /-- R400. Fuses are loaded; host link training begins and the load phase starts, or the hub stays with FUSE_FAIL. -/
  | fuseLoadComplete (ok : Bool)
  /-- R402. The configuration is read and checked from MRAM or flash, or no image is found. -/
  | imageLoadComplete (flashOk : Bool)
  /-- R403. Registers, tables and memories are written and the partial self-test and time seeding are done. -/
  | applyComplete (failed : List (HubUnit × FaultKind))
  /-- R405. Phase 7's scan matches, or triggers a retry from flash or release in Transit. -/
  | checkScanComplete
  /-- R407. The hub performs the release steps, or the Transit subset. -/
  | release
  /-- R402. The background write of a flash load into the MRAM cache completes and the cache is marked valid. -/
  | cacheWriteComplete
  /-- R410. 85 ms after PCIe reset release configuration requests complete normally and PCIE_EARLY is set. -/
  | pcieCrsLimit
  /-- R411. At each whole second in LOCKED or HOLDOVER Comet stores ANCHOR_NS and ANCHOR_KT. -/
  | anchorStore
  /-- R411. The crystal stops for 1 ms; KT_VALID and ANCHOR_VALID clear. -/
  | xtalStop
  /-- R414. Committing COMET_HIB_CMD.ENTER starts hibernate entry, or is refused with a reason. -/
  | enter (i : Initiator) (compl : Word)
  /-- R414. The die link is shut down and LOGIC_EN lowered unless regions are retained; STATE reads HIBERNATE. -/
  | hibernateEntryComplete
  /-- R415. WAKE0 or WAKE1 is held at its active level for 10 µs and wakes the hub. -/
  | wakePinAssert (pin : Fin 2) (held : Bool)
  /-- R415. KT equals COMET_KT_ALARM in mode 1 and wakes the hub. -/
  | ktAlarm
  /-- R423. BOOT_CMD BEGIN checks state, erases STAGING and makes the initiator owner. -/
  | begin (i : Initiator) (compl : Word)
  /-- R423. BOOT_CMD PROGRAM programs the buffer into STAGING. -/
  | program (i : Initiator) (compl : Word)
  /-- R424. BOOT_CMD COMMIT checks the staged image and marks it STAGED or refuses it. -/
  | commit (i : Initiator) (compl : Word)
  /-- R423. BOOT_CMD ABORT marks STAGING empty and frees the owner. -/
  | abort (i : Initiator) (compl : Word)
  /-- R423. A BUSY boot command's flash work ends and RESULT and STATE are updated. -/
  | bootCmdComplete
  /-- R424. Committing BOOT_LOCK sets or clears OWNER_LOCK. -/
  | ownerLock (i : Initiator) (compl : Word)
  /-- R425. A host write sets PROTECTION_ACTIVE; writes from others are ignored. -/
  | bootProtectWrite (i : Initiator) (v : Word)
  /-- R429. Committing BOOT_HEALTH_CONFIRM ends the trial, releases PRIOR and raises the fused counter. -/
  | confirm (i : Initiator) (compl : Word)
  /-- R429. Each released second TRIAL_ELAPSED increments and is stored. -/
  | trialSecond
  /-- R429. TRIAL_ELAPSED reaches TRIAL_WINDOW and fall-back begins. -/
  | trialWindowExpiry
  /-- R427. An access to BOOT_SET_DATA reads or writes a settings word and advances the address by 4. -/
  | bootSetDataAccess (i : Initiator) (v : Option Word)
  /-- R436. A fault message is committed as a record with reaction-table severity, history, FIRST and actions. -/
  | faultRecordCommit
  /-- R439. At a COMET edge one waiting record is written into the Comet mirror. -/
  | mirrorWrite
  /-- R445. The quiet timer reaches QUIET and the collector recovers or latches. -/
  | faultQuietExpiry
  /-- R445. RECOVERY_WINDOW passes and WINDOW_COUNT returns to 0. -/
  | faultWindowExpiry
  /-- R446. Committing FAULT_INJECT arms or disarms one injection. -/
  | faultInject (i : Initiator) (compl : Word)
  /-- R453. A BAR 2 request is translated through its window into a ring transaction or refused. -/
  | hostFabricRequest (off : BitVec 28) (isWrite : Bool) (bytes : Nat) (full : Bool) (data : List Word)
  /-- R456. A pending, unmasked vector sends its MSI-X message. -/
  | msixSend (v : Fin 64)
  /-- R457. A write of TAIL gives descriptors to a DMA channel. -/
  | hostDmaTailWrite (i : Initiator) (c : Fin 8) (v : Word)
  /-- R462. A write of HOST_DMA_CTRL.EN starts a channel from HEAD 0, or stops it with an ABORT appended. -/
  | hostDmaCtrlWrite (i : Initiator) (c : Fin 8) (v : Word)
  /-- R458. A to-host channel fills a buffer from its queue, writes status and advances HEAD. -/
  | dmaToHostBuffer (c : Fin 8) (addr : Dword) (ctl : Word)
  /-- R459. A to-queue channel reads a buffer and offers its words with the descriptor's marks. -/
  | dmaToQueueBuffer (c : Fin 8) (addr : Dword) (ctl : Word) (bytes : List Byte)
  /-- R461. A completion error, bad descriptor or cleared Bus Master Enable stops the channel with ERROR. -/
  | dmaError (c : Fin 8) (cause : Fin 5)
  /-- R462. A write to HOST_DOORBELL by a non-host initiator sets DOORBELL. -/
  | hostDoorbellWrite (i : Initiator) (v : Word)
  /-- R464. A management READ command reads a local word and answers status, data and CRC. -/
  | mgmtRead (addr : BitVec 24) (crc : Byte)
  /-- R464. A management WRITE command writes a local word and answers status. -/
  | mgmtWrite (addr : BitVec 24) (v : Word) (crc : Byte)
  /-- R464. A management PAIRED WRITE presents two words in consecutive cycles. -/
  | mgmtPairedWrite (addr : BitVec 24) (v : Word) (w : Word) (crc : Byte)
  /-- R464. A management STATUS command returns COMET_MGMT_STATUS[7:0]. -/
  | mgmtStatus (cmd : Byte)
  /-- R466. MGMT_CS_N rises before the CRC or status byte; nothing is done or the answer is lost. -/
  | mgmtCsRiseEarly (c : Option MgmtCmd)
  /-- R467. Committing COMET_MGMT_CMD.LOGIC_RESTART makes the power die lower LOGIC_EN, or is refused. -/
  | logicRestart (i : Initiator) (compl : Word)
  /-- R467. 10 ms after a restart the power die raises LOGIC_EN again. -/
  | logicRestartRaise
  /-- R477. An upstream bus reset aborts control transfers, resets address, configuration and toggles and powers down ports. -/
  | usbBusReset (control : Bool)
  /-- R472. SET_CONFIGURATION resets toggles of non-zero endpoints at its status stage. -/
  | setConfiguration (hub : Bool) (v : Byte)
  /-- R474. SET_INTERFACE selects an alternate setting and resets its toggles, fixing the audio rate. -/
  | setInterface (itf : Fin 3) (alt : Fin 2)
  /-- R472. CLEAR_FEATURE(ENDPOINT_HALT) resets the endpoint's toggle and halt. -/
  | clearFeatureEndpointHalt (hub : Bool) (ep : Byte)
  /-- R471. A Set or ClearPortFeature request changes a hub port's power, reset, enable or suspend. -/
  | portFeatureRequest (port : Fin 3) (set : Bool) (f : PortFeature)
  /-- R471. A connection debounced for 100 ms moves the port to DISABLED. -/
  | usbPortConnectDebounced (port : Fin 3)
  /-- R471. The 15 ms port reset ends and the port is ENABLED. -/
  | usbPortResetEnd (port : Fin 3)
  /-- R471. 20 ms of resume end and the port returns to ENABLED. -/
  | usbPortResumeEnd (port : Fin 3)
  /-- R471. A filtered over-current turns off the port's VBUS and sets its flags. -/
  | usbOvercurrent (port : Fin 3)
  /-- R471. Upstream suspend suspends the hub and its ports. -/
  | usbSuspend (remoteWake : Bool)
  /-- R473. Vendor READ returns LEN words or stops at a bus error. -/
  | usbRead (op : Byte) (tag : Byte) (len : Half) (addr : Word)
  /-- R473. Vendor WRITE writes LEN words or stops at a bus error. -/
  | usbWrite (tag : Byte) (len : Half) (addr : Word) (data : List Word)
  /-- R473. Vendor PAIRED WRITE presents two words in consecutive cycles. -/
  | usbPairedWrite (tag : Byte) (len : Half) (addr : Word) (data : List Word)
  /-- R473. Vendor FAULT READ returns history or mirror records. -/
  | faultRead (tag : Byte) (len : Half) (arg : Word)
  /-- R473. Vendor IMAGE BLOCK fills the transfer buffer and commits PROGRAM. -/
  | imageBlock (tag : Byte) (len : Half) (off : Word) (data : List Word)
  /-- R473. Vendor IMAGE CMD commits a BOOT_CMD command and returns BOOT_STATUS. -/
  | imageCmd (tag : Byte) (len : Half) (arg : Word)
  /-- R475. Each microframe the audio endpoint sends the waiting whole sample frames, or an empty packet. -/
  | audioInTransfer
  /-- R476. The feedback endpoint sends FB every 2^(FB_EXP − 1) microframes. -/
  | audioFeedbackTransfer
  /-- R478. A fault or audio frame while suspended requests a remote wake, or merges with a host resume. -/
  | usbRemoteWakeRequest (audio : Bool)
  /-- R478. The 2 ms of K driven upstream ends. -/
  | usbRemoteWakeKEnd
  /-- R499. The card rail at VCARD falls below 12.0 V and the power die lowers LOGIC_EN. -/
  | cardRailLoss
  /-- R410. PERST_N rises, ending a PCIe reset: HOST_EVENTS.PERST is set and PCIe reset release and the 85 ms CRS limit are timed from it. -/
  | perstDeassert
  /-- R462. The PCIe link comes up or goes down, setting HOST_EVENTS.LINK_UP or LINK_DOWN and HOST_STATUS.LINK_UP, a host interrupt source. -/
  | pcieLinkChange (up : Bool) (config : PcieConfig)
  /-- R478. The host drives resume signalling upstream; the suspended hub and function resume, RESUME is set and a pending remote wake merges. -/
  | usbHostResume
  /-- R471. A device disconnects from downstream port 2 or 3, and the port returns to POWERED. -/
  | usbPortDisconnect (port : Fin 3)
  /-- R471. Babble on an ENABLED downstream port disables it and sets C_PORT_ENABLE. -/
  | usbPortBabble (port : Fin 3)
  /-- R471. A device on a SUSPENDED downstream port drives K, and the hub drives resume for 20 ms. -/
  | usbPortDeviceResume (port : Fin 3)
  /-- R479. The host's SET_ADDRESS request sets USB_STATUS.ADDRESS and moves the device from DEFAULT to ADDRESSED. -/
  | setAddress (addr : BitVec 7)
  deriving DecidableEq, Repr

end Sys2Proof
end

