-- ==== Sys2Proof/Config.lean ====
section
/-! DEFINITION. The free values: what the spec leaves open, constants with no body, so that no proof can see a value. -/

namespace Sys2Proof.Config

/-- The n-th free value of a word the spec does not state (log entry 3). -/
opaque freeWord : Nat → Word

/-- SHA-256 as a number, most significant byte first: left uninterpreted (log entry 31). -/
opaque sha256 : List Byte → Nat

/-- Verification of an ECDSA P-256 signature: key, digest, signature; left uninterpreted (log entry 31). -/
opaque ecdsaVerify : List Byte → Nat → List Byte → Bool

end Sys2Proof.Config
end

