-- ==== Sys2Proof/Machine/Store.lean ====
section
/-! DEFINITION. The one canonical form in which sparse data is held: pairs of a key and a value, keys strictly
rising, no value equal to what an unlisted key reads as. -/

namespace Sys2Proof.Machine

/-- Sparse data by key. -/
abbrev Store (α : Type) := List (Nat × α)

/-- The value at key `a`, `d` when it is unlisted. -/
def Store.get {α : Type} (d : α) : Store α → Nat → α
  | [], _ => d
  | (k, v) :: r, a => if a = k then v else Store.get d r a

/-- The store without key `a`. -/
def Store.erase {α : Type} (m : Store α) (a : Nat) : Store α := m.filter fun e => e.1 != a

/-- The store with `(a, x)` listed before the first greater key. -/
def Store.insert {α : Type} : Store α → Nat → α → Store α
  | [], a, x => [(a, x)]
  | (k, v) :: r, a, x => if a < k then (a, x) :: (k, v) :: r else (k, v) :: Store.insert r a x

/-- The store that reads `x` at `a`; `d` is what `a` reads as when unlisted. -/
def Store.put {α : Type} [DecidableEq α] (d : α) (m : Store α) (a : Nat) (x : α) : Store α :=
  if x = d then Store.erase m a else Store.insert (Store.erase m a) a x

/-- Keys strictly rising from above `lo`, and no value equal to its key's unlisted value. -/
def Store.wfFrom {α : Type} [DecidableEq α] (d : Nat → α) : Option Nat → Store α → Bool
  | _, [] => true
  | lo, (k, v) :: r =>
    (match lo with | none => true | some l => decide (l < k)) && decide (v ≠ d k) && Store.wfFrom d (some k) r

/-- The canonical form. -/
def Store.wf {α : Type} [DecidableEq α] (d : Nat → α) (m : Store α) : Bool := Store.wfFrom d none m

/-- The memories of the hub: bytes by address, an unlisted byte reads 0 (log entry 1). -/
abbrev Memory := List Host.Cell

/-- The byte at `a`. -/
def Memory.byte (m : Memory) (a : Nat) : Byte := Store.get (0 : Byte) m a

/-- The memory with byte `a` written. -/
def Memory.setByte (m : Memory) (a : Nat) (b : Byte) : Memory := Store.put (0 : Byte) m a b

/-- The canonical form of memory. -/
def Memory.wf (m : Memory) : Bool := Store.wf (fun _ => (0 : Byte)) m

/-- The little-endian number in the `n` bytes at `a`. -/
def Memory.read (m : Memory) (a : Nat) : Nat → Nat
  | 0 => 0
  | n + 1 => (Memory.byte m a).toNat + 256 * Memory.read m (a + 1) n

/-- The memory with the `n` low bytes of `v` stored at `a`, least significant byte first. -/
def Memory.write (m : Memory) (a : Nat) : Nat → Nat → Memory
  | 0, _ => m
  | n + 1, v => Memory.write (Memory.setByte m a (BitVec.ofNat 8 v)) (a + 1) n (v / 256)

/-- The memory with bytes stored at `a` upwards. -/
def Memory.writeBytes (m : Memory) (a : Nat) : List Byte → Memory
  | [] => m
  | b :: r => Memory.writeBytes (Memory.setByte m a b) (a + 1) r

/-- The `n` bytes at `a` upwards. -/
def Memory.readBytes (m : Memory) (a : Nat) : Nat → List Byte
  | 0 => []
  | n + 1 => Memory.byte m a :: Memory.readBytes m (a + 1) n

/-- The word at `a`. -/
def Memory.word (m : Memory) (a : Nat) : Word := BitVec.ofNat 32 (Memory.read m a 4)

/-- The memory with word `v` stored at `a`. -/
def Memory.setWord (m : Memory) (a : Nat) (v : Word) : Memory := Memory.write m a 4 v.toNat

end Sys2Proof.Machine
end

