-- ==== Sys2Proof/Machine/State.lean ====
section
/-! DEFINITION. The state of the hub: every register, buffer, counter and mode the spec gives it, as plain data, the
reasons a step can stop, and the state after reset. -/

namespace Sys2Proof.Machine

/-- A word latched or staged for one initiator (R42, R43). -/
structure Shadow where
  who : Initiator
  addr : Nat
  value : Word
  deriving DecidableEq, Repr

/-- An armed value of a guarded pair: its initiator, the value and the CORE cycle of its write (R50). -/
structure Armed where
  who : Initiator
  value : Word
  since : Nat
  deriving DecidableEq, Repr

/-- The guard state of one guarded pair (R52). -/
structure Guard where
  commits : Nat := 0
  failCode : Nat := 0
  armed : Option Armed := none
  deriving DecidableEq, Repr

/-- A unit reset in progress and the value EN takes when it ends (R12, R13). -/
structure BusyUnit where
  u : HubUnit
  en : Bool
  deriving DecidableEq, Repr

/-- What becomes of a register access that is held (R12): its answer goes to its initiator (R39), it is a posted write to
this hub with its address and the Ephemeris entry it stems from (R76, R77), it answers a request frame (R247), or it gives the management
port its answer (R464): of a READ, of a WRITE, of one word of a PAIRED WRITE, or none, the answer being lost (R466). -/
inductive HeldUse where
  | answer
  | posted (a : FabricAddr) (entry : Nat)
  | request (f : RingFrame)
  | mgmtRead
  | mgmtWrite
  | mgmtPair
  | silent
  deriving DecidableEq, Repr

/-- A register access held while its unit is in reset (R12), or behind an earlier read of its word (R246). -/
structure HeldAccess where
  who : Initiator
  addr : Nat
  isWrite : Bool
  value : Word
  /-- Place in the hub's issue order: that of the next ring access. -/
  order : Nat
  /-- The fabric address under which an error is logged. -/
  fa : FabricAddr
  use : HeldUse
  deriving DecidableEq, Repr

/-- How a register access ends (R39, R62). -/
inductive AccessResult where
  /-- A read's value. -/
  | data (w : Word)
  /-- A write that committed. -/
  | done
  /-- A bus error with its KIND (R41). -/
  | err (kind : Nat)
  /-- PCIe Completer Abort with no bus error behind it (R335, R453). -/
  | abort
  /-- Held: the unit is in reset (R12), or the answer comes later. -/
  | wait
  deriving DecidableEq, Repr

/-- The state of the configuration scan that no register shows (R56): CFG_DRIFT was raised since the last matching
scan, and a suspension began or ended during the scan in progress. -/
structure CfgScan where
  drifted : Bool := false
  tainted : Bool := false
  deriving DecidableEq, Repr

/-- A stalled fence of one initiator (R68, R69): `local`, or ring with the transactions issued before `point` covered. -/
structure Fence where
  ring : Bool
  point : Nat
  deriving DecidableEq, Repr

/-- Failed posted writes of one initiator not yet reported by a fence (R71, R72). -/
structure FenceCount where
  fails : Nat := 0
  timeout : Bool := false
  /-- Failures of writes issued after the fence that is now stalled. -/
  nextFails : Nat := 0
  nextTimeout : Bool := false
  deriving DecidableEq, Repr

/-- Failed host writes on their way into a HOST_FENCE summary (R74). -/
structure HostFails where
  fails : Nat := 0
  timeout : Bool := false
  remote : Bool := false
  localFail : Bool := false
  deriving DecidableEq, Repr

/-- HOST_FENCE (R74, R75): a fence point covers the host's transactions issued before `point`; the failures it covers,
those that the next point will cover, and a read that waits. -/
structure HostFence where
  marked : Bool := false
  point : Nat := 0
  covered : HostFails := {}
  later : HostFails := {}
  reading : Bool := false
  deriving DecidableEq, Repr

/-- A fault message on its way to the collector (R434). -/
structure FaultMsg where
  src : SourceId
  kind : Byte
  flags : BitVec 6
  addr : FabricAddr
  sev : Severity
  /-- CORE cycle of detection, or of arrival for the power die. -/
  since : Nat
  /-- Low 48 bits of the record's fabric time in ns. -/
  time : BitVec 48
  deriving DecidableEq, Repr

/-- A record waiting for a COMET edge (R439); `warm`: the causes of a warm reset that waits for it, 0 none (R442). -/
structure MirrorEntry where
  words : List Word
  warm : Nat
  deriving DecidableEq, Repr

/-- An injection armed or carried out (R446). -/
structure Injection where
  target : Nat := 0
  sel : Nat := 0
  double : Bool := false
  armed : Bool := false
  done : Bool := false
  detected : Bool := false
  addr : Nat := 0
  deriving DecidableEq, Repr

/-- The fault collector's state beside its registers (R432 to R447). -/
structure FaultState where
  msgs : List FaultMsg := []
  /-- Records the power die holds while the die link is lost, at most 8 (R434). -/
  powerHeld : List FaultMsg := []
  powerLost : Nat := 0
  held : Bool := false
  heldSev : Severity := .note
  latched : Bool := false
  windowCount : Nat := 0
  windowFrom : Nat := 0
  /-- The CORE cycle in which the quiet timer was last restarted (R444, R447). -/
  quietFrom : Option Nat := none
  healthCleared : Bool := false
  mirrorWait : List MirrorEntry := []
  inject : Injection := {}
  deriving DecidableEq, Repr

/-- The die link as the logic die sees it (R25, R26). -/
structure DieLink where
  up : Bool := true
  /-- The power die is in the link-loss hold time (R26). -/
  holding : Bool := false
  deriving DecidableEq, Repr

/-- TIME_STATE.STATE (R87). -/
inductive TimeSync where
  | freeRun | acquiring | locked | holdover
  deriving DecidableEq, Repr

/-- The clock that LINE runs from (R89, R90). -/
inductive LineClock where
  | reference | east | west | hold
  deriving DecidableEq, Repr

/-- One timing input (R104, R105): consecutive good frames and the second the last one carried. -/
structure TinState where
  good : Nat := 0
  lastSecond : Nat := 0
  deriving DecidableEq, Repr

/-- One PTP port (R101, R102): a two-step Sync waiting for its Follow_Up (sequence and receive stamp), the peer delay
and the open peer-delay exchange (t1, t4, t2 and turnaround corrections), the sequence number of its messages. -/
structure PtpPort where
  syncSeq : Option (Half × Int) := none
  meanDelay : Int := 0
  pdelayT1 : Option (Half × Int) := none
  pdelayT4 : Option (Half × Int × Int) := none
  seq : Half := 0
  deriving DecidableEq, Repr

/-- The TIME block's state beside its registers (chapter 4). -/
structure TimeState where
  /-- OFFSET in 2^-16 ns (R81). -/
  offset : BitVec 80 := 0
  sync : TimeSync := .freeRun
  /-- The source that disciplines time, coded as SOURCE (R85). -/
  source : Nat := 0
  /-- RATE_F, the frequency term (R86), in 2^-40. -/
  rateF : Int := 0
  /-- A slew term is in RATE (R86). -/
  slewing : Bool := false
  /-- Consecutive measurements with |θ| below 100 ns (R87). -/
  good : Nat := 0
  /-- FRC and source time (2^-16 ns) of the last accepted measurements, newest first, at most 16 (R86). -/
  history : List (Nat × Int) := []
  /-- RATE of the latest time beacon (R91); 0 before the first one (log entry 136). -/
  rateRoot : Int := 0
  masterNode : Byte := 0
  /-- SEQ of the last beacon taken, and of the last one sent (R93, R94). -/
  seenSeq : Option Word := none
  beaconSeq : Word := 0
  /-- FRC when the primary was last heard, and consecutive beacons of the backup (R96). -/
  primaryAt : Nat := 0
  backupRun : Nat := 0
  backupTaken : Bool := false
  /-- The forwarded clock lanes are present (R188), and LINE's clock (R89, R90). -/
  laneEast : Bool := false
  laneWest : Bool := false
  lineClock : LineClock := .reference
  /-- CLOCK_ACTIVE_DIR: false EAST, true WEST. -/
  activeWest : Bool := false
  /-- A PPS_OUT pulse has risen and its WIDTH_MS not ended (R106). -/
  ppsHigh : Bool := false
  deriving DecidableEq, Repr

/-- ANGLE_STATE.STATE (R498). -/
inductive AngleSync where
  | freeRun | acquiring | locked | following
  deriving DecidableEq, Repr

/-- The words one initiator staged for ANGLE_SV_PUSH (R110). -/
structure SvStage where
  who : Initiator
  second : Word
  info : Word
  rate : Word
  deriving DecidableEq, Repr

/-- The angle tracker's state beside its registers (R108 to R116). Times are in 2^-16 ns. -/
structure AngleState where
  sync : AngleSync := .freeRun
  t0 : BitVec 80 := 0
  cycle : Word := 0
  freq : Word := 0
  lastCrossing : Option Int := none
  lastPeriod : Option Int := none
  /-- The run of qualifying crossings and the run of failing ones (R111). -/
  goodRun : Nat := 0
  badRun : Nat := 0
  /-- Time and value of the last sample used (R110). -/
  lastSample : Option (Int × Int) := none
  stages : List SvStage := []
  deriving DecidableEq, Repr

/-- The instance state of an Ephemeris entry (R118, R120): the index of its next instance, the ns by which changes of W3
have moved the instances of a type 3 entry (R133), whether a single instance is over, whether the next one is staged
(R127), and the CAUSE that makes it late, 0 none (R130, R132, R133). -/
structure EphEntry where
  k : Nat := 0
  shift : Int := 0
  ended : Bool := false
  staged : Bool := false
  late : Nat := 0
  /-- The fire time of the next instance when a recomputation in the cycle of that time is not used for it (R121). -/
  fixed : Option Int := none
  /-- Fire time and W0 of an instance that falls in the commit cycle of a W0 write and is still to execute (R118). -/
  old : Option (Int × Word) := none
  /-- The time of each write of W5 or W6 since the entry last executed, newest first, with W5 and W6 as they stood before
  it (R133). -/
  ops : List (Int × Word × Word) := []
  deriving DecidableEq, Repr

/-- A pulse in progress on a field pin (R123): the CORE cycle of its end and the level after it. -/
structure Pulse where
  pin : Nat
  stop : Nat
  level : Bool
  deriving DecidableEq, Repr

/-- The Ephemeris' state beside its table (chapter 5). -/
structure EphemState where
  entries : Store EphEntry := []
  pulses : List Pulse := []
  /-- EPHEMERIS_LATE was raised in this unlocked interval (R131). -/
  unlockTold : Bool := false
  /-- The F of the last pin effects, and how many share it (R125). -/
  crowdAt : Option Int := none
  crowd : Nat := 0
  deriving DecidableEq, Repr

/-- A field pin (R137 to R143): the synchronised and the filtered level without INV, the stamp of an edge being filtered,
the edges counted in an open chatter window, and suppression; the level set by the last Ephemeris pin action. -/
structure PinState where
  raw : Bool := false
  filt : Bool := false
  edge : Option Int := none
  edges : Nat := 0
  suppressed : Bool := false
  ephLevel : Bool := false
  deriving DecidableEq, Repr

/-- What the hub does at a ball: it drives a level, or it is at high impedance with a weak pull or none (R137, R138). -/
inductive PinBall where
  | driven (level : Bool)
  | pullDown | noPull | pullUp
  deriving DecidableEq, Repr

/-- A pin bank (R140, R144, R145): the next record's SEQ, the words of buffered records, and the supply state. VOK follows
the two events of R140 that tell the hub of its supply (log entry 142). -/
structure BankState where
  seq : Half := 0
  buffer : List (List (Word × Mark)) := []
  vok : Bool := false
  mismatch : Bool := false
  /-- Cluster event flags (R152), and the events set with the PIN ticks of their setting (R163). -/
  events : BitVec 8 := 0
  eventTicks : List (Nat × Nat) := []
  /-- Program words as they stood before a write, by address, with the PIN tick of the write (R162). -/
  progOld : List (Nat × Nat × Half) := []
  deriving DecidableEq, Repr

/-- ENG_STATUS.STATE (R147). -/
inductive EngSync where
  | stopped | running | stalled | faulted
  deriving DecidableEq, Repr

/-- A latched instruction (R147, R155, R160): its word, the bits it has moved, whether an automatic store is due, the
values a STAMP holds, its stall code, 0 for a shift that runs, and whether it was injected. A clocked shift also holds the
PHASE it began with, whether its first slice has been launched, and between its clocks L and T the clock pin and the idle
level of the step (R154). A WAIT for an edge holds whether one has come (R156). -/
structure Latched where
  word : Half
  done : Nat := 0
  storeDue : Bool := false
  values : List Word := []
  stall : Nat := 0
  injected : Bool := false
  phase : Option Bool := none
  begun : Bool := false
  half : Option (Nat × Bool) := none
  edge : Bool := false
  deriving DecidableEq, Repr

/-- A pin engine (R147 to R164). -/
structure EngineState where
  sync : EngSync := .stopped
  cause : Nat := 0
  pc : Byte := 0
  a : Word := 0
  b : Word := 0
  so : Word := 0
  si : Word := 0
  soBits : Nat := 0
  siBits : Nat := 0
  pindir : Word := 0
  /-- Output level for each cluster pin. -/
  level : Word := 0
  cur : Option Latched := none
  /-- The instruction that an injected one interrupted (R160). -/
  under : Option Latched := none
  slot : Option Half := none
  /-- FRC when the slot was written (R160), and the PIN tick of the last stop (R147). -/
  slotAt : Nat := 0
  stopTick : Option Nat := none
  tx : List Word := []
  rx : List Word := []
  /-- The last word taken from the TX FIFO (R158). -/
  lastTx : Word := 0
  /-- Stale pulls and discarded words since the last PIN_FIFO_STALE (R158). -/
  staleRun : Nat := 0
  /-- Words of the present RXQ packet (R159). -/
  pktWords : Nat := 0
  deriving DecidableEq, Repr


/-- CAN_STATUS.STATE (R168). -/
inductive CanSync where
  | init | integrating | errorActive | errorPassive | busOff | recovering | sleep
  deriving DecidableEq, Repr

/-- A frame in transmission: its buffer and the fabric time in ns of its start of frame (R175). -/
structure CanTx where
  buf : Nat
  sof : Nat
  deriving DecidableEq, Repr

/-- A CAN controller (R167 to R179). -/
structure CanState where
  sync : CanSync := .init
  txErr : Nat := 0
  rxErr : Nat := 0
  lec : Nat := 0
  wakeCause : Nat := 0
  timingBad : Bool := false
  pend : BitVec 16 := 0
  ok : BitVec 16 := 0
  cncl : BitVec 16 := 0
  sending : Option CanTx := none
  /-- The frame in transmission has been cancelled (R176). -/
  cancelled : Bool := false
  /-- The controller sent the frame in which the last error was met (R167). -/
  sentLast : Bool := false
  get : Nat := 0
  fill : Nat := 0
  lock : Option Initiator := none
  deriving DecidableEq, Repr

/-- The Comet wake-frame decoder of a CAN controller (R177, R178): the wake registers as copied. -/
structure CanWake where
  asleep : Bool := false
  frameMode : Bool := false
  errLimit : Nat := 0
  errs : Nat := 0
  wufId : Word := 0
  wufMask : Word := 0
  wufCtrl : Word := 0
  dataLo : Word := 0
  dataHi : Word := 0
  /-- Cause of a wake that the controller has not seen, its region being gated (R178). -/
  woke : Nat := 0
  deriving DecidableEq, Repr

/-- A UART (R180 to R185). -/
structure UartState where
  tx : List Half := []
  rx : List Word := []
  /-- A transmit frame is in progress, with the character being sent. -/
  active : Bool := false
  sending : Option Half := none
  de : Bool := false
  /-- DE falls after DE_LAG. -/
  lag : Bool := false
  /-- Characters sent whose echo has not been compared (R181). -/
  echoes : List Half := []
  collided : Bool := false
  /-- FRAME_GAP has not passed since a character was on the line (R181). -/
  lineBusy : Bool := false
  /-- Words up to the next LAST are discarded (R181). -/
  discarding : Bool := false
  /-- A receive frame is in progress; its last character waits until the frame goes on or ends (R183, R184). -/
  inFrame : Bool := false
  hold : Option Word := none
  gapViolation : Bool := false
  overrun : Bool := false
  framing : Bool := false
  deriving DecidableEq, Repr


/-- LINK_STATUS.STATE (R194). -/
inductive LinkSync where
  | disabled | clockLock | bitAlign | symbolLock | deskew | config | active | loopback | test
  deriving DecidableEq, Repr

/-- A class C frame held until it is acknowledged (R202). -/
structure ReplayEntry where
  lseq : BitVec 12
  frame : RingFrame
  replays : Nat
  deriving DecidableEq, Repr

/-- A link port (chapter 8). Stamps are in units of 2.5 ps. -/
structure LinkState where
  sync : LinkSync := .disabled
  /-- The port is in the 10 µs of silence after a training failure (R194). -/
  quiet : Bool := false
  clockOk : Bool := false
  seen : LinkIdentity := ⟨0, 0, 0⟩
  /-- The identity seen matches LINK_NEIGHBOUR (R195, R223). -/
  matched : Bool := false
  skew : Nat := 0
  replayOn : Bool := true
  txLseq : BitVec 12 := 0
  replay : List ReplayEntry := []
  waiting : List RingFrame := []
  next : BitVec 12 := 0
  /-- The next RP 1 frame sets NEXT (R205). -/
  takeNext : Bool := false
  /-- CORE cycle at which a NAK was sent, while no further NAK is due (R203). -/
  nakAt : Option Nat := none
  amSeq : Byte := 0
  amSent : List (Byte × Nat) := []
  /-- AM_SEQ and receive stamp of the neighbour's latest AM (R200). -/
  amSeen : Option (Byte × Nat) := none
  /-- The last valid delay results, newest first, at most 16 (R201). -/
  delays : List Int := []
  /-- Running disparity of each receiving lane, `true` positive (R189); a lane starts negative (log entry 147). -/
  rds : List Bool := []
  /-- The reference of each lane's pattern checker, newest bit first (R208). -/
  prbs : List (List Bool) := []
  deriving DecidableEq, Repr

/-- LINK_BYPASS_STATUS.STATE (R210). -/
inductive BypassSync where
  | bypassed | joining | inRing
  deriving DecidableEq, Repr

/-- The bypass state machine of LINK EAST (R210): `settled` once SETTLE has ended in JOINING. -/
structure Bypass where
  sync : BypassSync := .bypassed
  settled : Bool := false
  deriving DecidableEq, Repr

/-- RING_STATUS.STATE (R224). -/
inductive RingSync where
  | down | joining | member | transit
  deriving DecidableEq, Repr

/-- A duplicate window (R230). -/
structure Window where
  valid : Bool := false
  epoch : Byte := 0
  high : Half := 0
  hport : RingPort := .east
  seen : BitVec 256 := 0
  deriving DecidableEq, Repr

/-- A ring frame with the port it arrived on and the CORE cycle. -/
structure PortFrame where
  port : RingPort
  frame : RingFrame
  since : Nat
  deriving DecidableEq, Repr

/-- A record of a bridging hub (R241): the tag this hub gave, and the original source, initiator and TAG. -/
structure BridgeRecord where
  tag : Byte
  srcRing : BitVec 4
  srcNode : Byte
  who : BitVec 4
  origTag : Byte
  since : Nat
  deriving DecidableEq, Repr

/-- The ring engine's state beside its registers (chapter 9). -/
structure RingState where
  sync : RingSync := .down
  cause : Nat := 0
  epoch : Byte := 0
  seqs : List Half := [0, 0, 0, 0]
  aliasSeqs : List Half := [0, 0, 0, 0]
  aliasEpochs : List Byte := [0, 0, 0, 0]
  windows : Store Window := []
  /-- Frames passed into the switch cut-through whose EOF has not come (R229, R230), oldest first. -/
  cut : List PortFrame := []
  /-- Frames delivered and not yet taken by their unit, oldest first. -/
  inbox : List PortFrame := []
  expected : Store Byte := []
  expectedSet : List Nat := []
  held : List PortFrame := []
  /-- BREAK_EAST and BREAK_WEST (R233). -/
  breakEast : Bool := false
  breakWest : Bool := false
  /-- Broken spans, by the position in RING_ORDER of their western hub (R234). -/
  broken : List Nat := []
  leaving : Bool := false
  deriving DecidableEq, Repr

/-- The kinds of transaction (R243). -/
inductive TxnKind where
  | posted | write | read
  deriving DecidableEq, Repr

/-- What a posted write is to this hub: its own access, an M2 record (R361), or a STANDBY's copy of a paired command,
whose failure is only counted (R362). -/
inductive TxnRole where
  | own | m2 | twin
  deriving DecidableEq, Repr

/-- A transaction of this hub (R244, R249). -/
structure Txn where
  role : TxnRole
  /-- INITIATOR as the request carries it. -/
  code : Nat
  kind : TxnKind
  who : Initiator
  addr : FabricAddr
  count : Nat
  data : List Word
  cls : RingClass
  /-- Issue number, in the order of all issues of this hub, and the per-initiator issue sequence (R65). -/
  order : Nat
  iseq : Half
  /-- Alias SEQ and EPOCH of a paired command (R361). -/
  pairKey : Option (Half × Byte)
  reissues : Nat
  /-- Waiting for a response (else for RETRY_GAP). -/
  waiting : Bool
  first : Nat
  last : Nat
  /-- Copies sent by the last attempt, and copies that came back (R236). -/
  sent : Nat
  returned : Nat
  /-- Ephemeris entry of a FABRIC_WRITE (R76). -/
  entry : Nat
  /-- SEQ of the last attempt, which its copies carry (R227, R249). -/
  seq : Half := 0
  deriving DecidableEq, Repr

/-- The key of a fetch (R248). -/
structure FetchKey where
  ring : BitVec 4
  node : Byte
  who : BitVec 4
  tag : Byte
  addr : FabricAddr
  count : Nat
  deriving DecidableEq, Repr

/-- The state of a fetch (R248). -/
inductive FetchState where
  | running
  | ready (data : List Word)
  | failed
  deriving DecidableEq, Repr

/-- A fetch slot in use (R247): the request, and `answered` once it has been answered RETRY, so that the data waits for
the read that comes again. -/
structure Fetch where
  key : FetchKey
  state : FetchState
  frame : RingFrame
  answered : Bool
  deriving DecidableEq, Repr

/-- A request for an edge queue (R350) in the write buffer of the edge port, or waiting for room there (R245, R351): its
queue and words, the slot of a read, the request frame, and whether a write is acknowledged as this is accepted. -/
structure EdgeRequest where
  queue : Nat
  words : List Word
  slot : Option Nat
  frame : RingFrame
  ack : Bool
  deriving DecidableEq, Repr

/-- A write to the service RAM of core `port` - 1, or to DRAM as port 5, in the write buffer of its port or waiting for room
there (R245): its offset, its words with their numbers, and the request frame. -/
structure MemWrite where
  port : Nat
  off : Nat
  words : List (Nat × Word)
  frame : RingFrame
  deriving DecidableEq, Repr

/-- The newest write seen of one source and initiator to a word (R65): its ISEQ, and the CORE cycle of its arrival. -/
structure Newest where
  ring : BitVec 4
  node : Byte
  who : BitVec 4
  addr : FabricAddr
  iseq : Half
  since : Nat
  deriving DecidableEq, Repr

/-- The holder of a semaphore (R256). -/
structure SemOwner where
  node : Byte
  ring : BitVec 4
  who : BitVec 4
  since : Nat
  deriving DecidableEq, Repr

/-- A request that waits at the initiating hub: for a free TAG (R244) or behind a read of the same word (R246). -/
structure WaitingTxn where
  role : TxnRole
  kind : TxnKind
  who : Initiator
  addr : FabricAddr
  count : Nat
  data : List Word
  cls : RingClass
  /-- Alias SEQ and EPOCH of a paired command (R361). -/
  pairKey : Option (Half × Byte)
  entry : Nat
  order : Nat
  deriving DecidableEq, Repr

/-- A transaction that ended: CAUSE 0 is completion, others as R253; KIND is the destination's. -/
structure TxnDone where
  who : Initiator
  addr : FabricAddr
  cause : Nat
  kind : Nat
  data : List Word
  deriving DecidableEq, Repr

/-- The bridge's state beside its registers (chapter 10). -/
structure BridgeState where
  tags : Store (Option Txn) := []
  /-- TAGs not reusable before a CORE cycle (R244). -/
  quarantine : List (Nat × Nat) := []
  order : Nat := 0
  iseqs : List (Initiator × Half) := []
  waiting : List WaitingTxn := []
  /-- Transactions that ended and whose initiator has not taken the result. -/
  ended : List TxnDone := []
  fetches : Store (Option Fetch) := []
  /-- The write buffer of the edge port (R245) with the reads among its writes, and requests that wait behind it. -/
  edge : List EdgeRequest := []
  blocked : List EdgeRequest := []
  /-- The write buffers of the service RAM and DRAM ports (R245), and writes that wait for room in them, oldest first. -/
  mem : List MemWrite := []
  memBlocked : List MemWrite := []
  /-- Words of a reply packet taken so far (R350). -/
  reply : List Word := []
  /-- Requests to this hub's own spaces, and the responses to them, on their way within the hub (R60). -/
  loop : List RingFrame := []
  sems : Store (Option SemOwner) := []
  records : List BridgeRecord := []
  /-- Requests in the PAIR receive path that found no free record or tag (R241). -/
  pairWait : List RingFrame := []
  /-- The newest writes seen (R65). -/
  newest : List Newest := []
  deriving DecidableEq, Repr


/-- A frame in the switch buffer (R263): where it came from, what is stored, and which egress queues (8 × output + class)
still hold it. -/
structure SwFrame where
  input : Nat
  /-- KIND of the descriptor word (R339). -/
  kind : Nat
  bytes : List Byte
  cls : Nat
  yellow : Bool
  /-- Queue, or capture channel, of its delivery. -/
  queue : Nat
  /-- The ring frames it leaves as, one for each destination node (R238, R262). -/
  copies : List RingFrame
  outs : List Nat
  /-- Outputs that forward it cut-through (R266), and those that are sending it now. -/
  cut : List Nat
  started : List Nat
  cells : Nat
  /-- Its last cell has not been stored. -/
  opened : Bool
  bad : Bool
  /-- Its duplicate window discarded it at commit (R230). -/
  dup : Bool
  /-- Inverted check bits of an injection (R446). -/
  ecc : Nat
  /-- SeqNr of its RCT (R299). -/
  seqNr : Option Half
  /-- The ring frame it entered as, cut-through (R229, R230). -/
  origin : Option PortFrame
  deriving DecidableEq, Repr

/-- The switch core (R263 to R279): frames in the order of their first cells, AVG of each queue in 2^-16 cells, the
generator of each output (R269), the standing QMIN_OVER and BUF_LOW conditions, and a GAP due on a capture channel. -/
structure SwitchState where
  frames : List SwFrame := []
  avgs : Store Nat := []
  lfsrs : Store Half := []
  qminOver : Bool := false
  bufLow : Bool := false
  gaps : List Nat := []
  deriving DecidableEq, Repr

/-- A policer's buckets (R289), in 1/400,000 byte, and the CORE cycle of its last frame. -/
structure Policer where
  tc : Nat := 0
  tp : Nat := 0
  last : Nat := 0
  deriving DecidableEq, Repr

/-- A shaper (R291, R292): TOKENS in 1/400,000 byte at CORE cycle `last`, and, while it is on the calendar wheel, the
cycle at which its head frame becomes eligible, the cycle of its slot, and the frame's bytes. -/
structure Shaper where
  tokens : Int := 0
  last : Nat := 0
  due : Option (Nat × Nat × Nat) := none
  deriving DecidableEq, Repr

/-- An Ephemeris override of one class (R296): its state, and the time of its end in 2^-16 ns. -/
structure GateOverride where
  cls : Nat
  isOpen : Bool
  stop : Option Int
  deriving DecidableEq, Repr

/-- A station port (R295 to R306): the gate list's state, a change that waits, overrides; the class of the frame in
transmission with the time of its end in 1/10 of 2^-16 ns; and the MAC's link state. -/
structure StaState where
  gates : Byte := 0xFF
  entry : Nat := 0
  operValid : Bool := false
  pending : Bool := false
  overrides : List GateOverride := []
  sending : Option (Nat × Int) := none
  link : Bool := false
  sync : BitVec 4 := 0
  aligned : Bool := false
  localFault : Bool := false
  remoteFault : Bool := false
  deriving DecidableEq, Repr

/-- A PRP duplicate window (R300); LAST is a CORE cycle. -/
structure PrpWindow where
  valid : Bool := false
  high : Half := 0
  seen : BitVec 256 := 0
  last : Nat := 0
  deriving DecidableEq, Repr

/-- PRP (R299 to R301): windows, and the sequence number of supervision frames. -/
structure PrpState where
  windows : Store PrpWindow := []
  supSeq : Half := 0
  deriving DecidableEq, Repr


/-- SVC_STATUS.STATE (R326). -/
inductive CoreSync where
  | halted | running | stalled | waiting
  deriving DecidableEq, Repr

/-- A service core's state beside its registers, of which PC, g1 to g31 and the special registers are stored as words of
its control block (R307, R315, R322, R326). -/
structure CoreState where
  sync : CoreSync := .halted
  reason : Nat := 0
  stall : Nat := 0
  /-- The instruction that stalls. -/
  cur : Word := 0
  /-- The return stack, top first. -/
  rstack : List Word := []
  timerArmed : Bool := false
  /-- CYCLE up to CORE cycle `since`, and the CYCLE_HI that a read latched (R322). -/
  cycles : Nat := 0
  since : Nat := 0
  cycleHi : Word := 0
  /-- Posted stores to the register map that met a bus error (R311, R321). -/
  badStores : List Word := []
  /-- The next instruction is not matched against the breakpoints (R328). -/
  skipBp : Bool := false
  /-- STEP: halt after the next instruction; HALT waits for the present one (R327). -/
  stepping : Bool := false
  haltDue : Bool := false
  /-- CORE cycle of the watchdog's last restart (R329). -/
  kicked : Nat := 0
  deriving DecidableEq, Repr

/-- An entry of a queue: its word, its mark, and the check bits inverted by an injection (R332, R446). -/
structure QWord where
  v : Word
  mark : Mark
  ecc : Nat := 0
  deriving DecidableEq, Repr

/-- A queue's state beside its registers (R331 to R337). -/
structure QueueState where
  words : List QWord := []
  started : Bool := false
  dropping : Bool := false
  /-- The producer is within a packet. -/
  part : Bool := false
  popMarks : List (Initiator × Nat) := []
  /-- Host reads of Q_POP that stall (R335). -/
  popWait : Nat := 0
  deriving DecidableEq, Repr

/-- DRAM_STATUS.STATE (R344). -/
inductive DramSync where
  | absent | init | training | fill | ready | failed
  deriving DecidableEq, Repr

/-- The DRAM controller's state beside its registers (R344, R345): FAIL_STEP, and the words an injected error sits in. -/
structure DramState where
  sync : DramSync := .absent
  failStep : Nat := 0
  /-- DRAM_CFG as taken at the last unit reset or start (R347). -/
  cfg : Word := 0
  deriving DecidableEq, Repr


/-- PAIR_STATUS.ROLE (R357). -/
inductive PairRole where
  | off | seeking | syncing | standby | primary | held
  deriving DecidableEq, Repr

/-- A paired command that waits to be issued (R361): its place in the hub's issue order, and the CORE cycle at which its
M2 record was sent. -/
structure PairedCmd where
  who : Initiator
  addr : FabricAddr
  data : Word
  cls : RingClass
  entry : Nat
  order : Nat
  since : Nat := 0
  /-- Its alias SEQ and EPOCH, once taken. -/
  key : Option (Half × Byte) := none
  deriving DecidableEq, Repr

/-- The pair unit's state beside its registers (chapter 15). -/
structure PairState where
  role : PairRole := .off
  partnerRole : Nat := 0
  partnerTerm : Byte := 0
  partnerRank : Byte := 0
  partnerHealthy : Bool := false
  seenPair : Bool := false
  seenRing : Bool := false
  term : Byte := 0
  hbSeq : Word := 0
  /-- The last HBSEQ received, and the CORE cycle of the last heartbeat on any path. -/
  echo : Word := 0
  lastHeard : Nat := 0
  /-- Paired commands not yet issued, and those whose M2 record is not yet accepted, oldest first. -/
  cmds : List PairedCmd := []
  m2 : List PairedCmd := []
  /-- PAIR_LINK_LOST has been raised and PAIR has not been ACTIVE since (R371). -/
  linkLost : Bool := false
  /-- A handover is under way, and the TERM of the HANDOVER that was sent (R368). -/
  handover : Bool := false
  sentTerm : Option Byte := none
  /-- This STANDBY asks for a takeback (R370). -/
  ask : Bool := false
  /-- The partner has been heard as PRIMARY under an equal TERM, and PAIR_DUAL_ACTIVE raised for it. -/
  dualTold : Bool := false
  /-- M3 values last sent, by local address (R364). -/
  m3 : List (Nat × Word) := []
  /-- M3 and M4 words that wait for RING_RATE: the core of an M4 word, 4 for M3, and the CORE cycle of departure (R366). -/
  m4 : List (Nat × Nat) := []
  deriving DecidableEq, Repr

/-- FEED_STATUS.STATE (R394). -/
inductive FeedSync where
  | off | wait | ramp | on | blocked | uv
  deriving DecidableEq, Repr

/-- A card feed (R377 to R382): its voltage in 10 mV, and the CLOCK of its last FEED_REVERSE. -/
structure FeedState where
  sync : FeedSync := .off
  voltage : Nat := 0
  told : Option Nat := none
  deriving DecidableEq, Repr

/-- GRP_STATUS.STATE (R383). -/
inductive GroupSync where
  | off | ramp | on | limiting | tripped
  deriving DecidableEq, Repr

/-- An output group (R383 to R389). -/
structure GroupState where
  sync : GroupSync := .off
  cause : Nat := 0
  retries : Nat := 0
  /-- An OFF command came after the last ON command, or the trip fell into the link-loss hold (R388, R391). -/
  noRetry : Bool := false
  /-- The retry interval of a trip runs on after a unit reset (R383). -/
  interval : Bool := false
  /-- CLOCK at which the retry interval of the last trip ends (R389). -/
  ends : Option Nat := none
  /-- Commands on their way to the power die, oldest first: true ON (R384). -/
  cmds : List Bool := []
  deriving DecidableEq, Repr

/-- A thermal sensor (R392): temperature in 0.1 °C and its two comparisons. -/
structure Sensor where
  temp : Half := 0
  warn : Bool := false
  shut : Bool := false
  deriving DecidableEq, Repr

/-- The power die beside its registers (R374 to R396). -/
structure PowerState where
  /-- Level of the ENABLE ball, and whether it has been high for 1 ms (R377). -/
  enable : Bool := false
  qualified : Bool := false
  /-- LOGIC_EN (R499). -/
  logicEn : Bool := true
  feeds : Store FeedState := []
  /-- The feed that DEAD precedes (R379). -/
  dead : Option (Fin 2) := none
  groups : Store GroupState := []
  sensors : Store Sensor := []
  /-- The trip memory blocks: remaining 10 ms units, and the CLOCK at which they were read (R389). -/
  block : Option (Nat × Nat) := none
  /-- PRIO_SEL as sampled at the power-die reset (R376). -/
  prio : Bool := false
  /-- An overtemperature shutdown stands (R392). -/
  shutdown : Bool := false
  deriving DecidableEq, Repr

/-- COMET_STATE.STATE (R419). -/
inductive HubPower where
  | run | entering | hibernate | starting
  deriving DecidableEq, Repr

/-- Where the configuration of this start came from (R418). -/
inductive ImageSource where
  | none | mram | flash
  deriving DecidableEq, Repr

/-- Start-up (R400 to R410). -/
structure StartState where
  /-- The logic die is supplied and out of its power-on reset. -/
  logicUp : Bool := true
  phase : Nat := 0
  source : ImageSource := .none
  flashFail : Bool := false
  selftestFail : Bool := false
  crcRetry : Bool := false
  noImage : Bool := false
  pcieEarly : Bool := false
  startTime : Nat := 0
  /-- The release steps have run, so the access limits of R404 are over. -/
  released : Bool := false
  /-- The cause with which the node is to be released in Transit, 0 none. -/
  transitCause : Nat := 0
  bootMode : Nat := 0
  fuseFail : Bool := false
  /-- The Ephemeris waits for LOCKED (R407). -/
  waitLock : Bool := false
  /-- CORE cycle of reset release for PCIe, while PERST_N is high (R410). -/
  pcieFrom : Option Nat := some 0
  /-- Configuration requests complete normally (R410). -/
  configReady : Bool := false
  /-- Regions whose self-test raised a FATAL fault (R403). -/
  fatalRegions : List Nat := []
  /-- Banks drive their configured outputs, and groups and HEALTH follow GLOBAL_RELEASE (R407, R408). -/
  driven : Bool := false
  /-- A flash load is still to be written into the cache (R402). -/
  cacheWrite : Bool := false
  /-- The Ephemeris as the image enables it has not started (R407, R408). -/
  ephHold : Bool := false
  /-- Regions that kept their state in hibernate, as a mask, until the configuration is applied (R413, R416). -/
  retained : Nat := 0
  /-- CORE cycle of the last request to fence each region (R22). -/
  fenceAt : List (Option Nat) := [none, none, none, none]
  deriving DecidableEq, Repr

/-- Comet: keep-time, anchor and hibernate (R411 to R416). -/
structure CometState where
  power : HubPower := .run
  kt : BitVec 48 := 0
  ktValid : Bool := false
  xtalOk : Bool := false
  anchorValid : Bool := false
  /-- Digest of the configuration that retained regions hold (R414, R416). -/
  digest : Option Nat := none
  /-- KT's fraction, in 1/390,625 of a tick, and the crystal has stopped (R411). -/
  ktFrac : Nat := 0
  stopped : Bool := false
  /-- Levels of WAKE0 and WAKE1 (R415). -/
  wake0 : Bool := false
  wake1 : Bool := false
  /-- COMET edge of the last wake (R415), and the always-on supply is present (R482). -/
  wokeAt : Option Nat := none
  vaon : Bool := true
  deriving DecidableEq, Repr

/-- The MRAM's cache of the configuration (R401). -/
structure Cache where
  valid : Bool := false
  digest : Nat := 0
  rollback : Nat := 0
  words : List (Nat × Word) := []
  deriving DecidableEq, Repr

/-- The fuses (R3, R400, R429). -/
structure Fuses where
  pairCapable : Bool := true
  eui64 : Dword := 0
  rollback : Nat := 0
  ownerKey : Nat := 0
  slotLog2 : Nat := 2
  /-- Grade E (R418). -/
  gradeE : Bool := false
  deriving DecidableEq, Repr

/-- BOOT_STATUS.STATE (R431). -/
inductive BootSync where
  | idle | receiving | busy | staged | trial
  deriving DecidableEq, Repr

/-- The boot/update unit (chapter 18), of which slot states, trial state and settings formats lie in MRAM. -/
structure BootState where
  sync : BootSync := .idle
  /-- The BOOT_CMD in progress, and STATE when it ends. -/
  job : Nat := 0
  next : BootSync := .idle
  /-- STATE before it, and the CORE cycle in which it committed (R424). -/
  was : BootSync := .idle
  since : Nat := 0
  owner : Option Initiator := none
  result : Nat := 0
  running : Nat := 2
  /-- PREVIOUS may be used (R429). -/
  prevOk : Bool := true
  elapsed : Nat := 0
  curFormat : Half := 0
  priFormat : Half := 0
  /-- PRIOR holds settings and is read-only (R428). -/
  priorHeld : Bool := false
  /-- A fall-back is under way: its warm reset is due, and then its copy (R430). -/
  fallback : Bool := false
  /-- BOOT_SET_ADDR has passed the end of its bank (R427). -/
  past : Bool := false
  deriving DecidableEq, Repr

/-- A DMA channel (R457 to R461): HEAD, ERR_CAUSE, RUNNING, and words of a to-queue buffer that wait for room. -/
structure DmaState where
  head : Nat := 0
  cause : Nat := 0
  running : Bool := false
  /-- The descriptor in progress: its address and control word, and how many bytes have moved. -/
  desc : Option (Dword × Word) := none
  moved : Nat := 0
  /-- Words of a to-queue buffer not yet taken by the queue, with their marks. -/
  wait : List (Word × Mark) := []
  /-- The channel is within a to-queue packet. -/
  part : Bool := false
  deriving DecidableEq, Repr

/-- The host unit (chapter 20): PCIe link and function, PERST_N high, pending MSI-X vectors, and DMA channels. -/
structure HostState where
  up : Bool := false
  config : PcieConfig := ⟨0, 0, false, false, false⟩
  perst : Bool := true
  pba : BitVec 64 := 0
  dma : Store DmaState := []
  deriving DecidableEq, Repr

/-- The management port (R463 to R468). -/
structure MgmtState where
  /-- A LOGIC_RESTART holds LOGIC_EN low (R467). -/
  restart : Bool := false
  /-- Words of a PAIRED WRITE that are held, and whether one that has ended met a bus error (R464). -/
  pairLeft : Nat := 0
  pairErr : Bool := false
  deriving DecidableEq, Repr

/-- The device state of USB_STATUS (R479). -/
inductive UsbSync where
  | detached | default | addressed | configured
  deriving DecidableEq, Repr

/-- The state of a hub port (R471). -/
inductive PortSync where
  | powered | disabled | enabled | suspended
  deriving DecidableEq, Repr

/-- A hub port (R471): VBUS enable, reset or resume being driven, and the change bits. -/
structure UsbPort where
  sync : PortSync := .powered
  vbus : Bool := false
  resetting : Bool := false
  resuming : Bool := false
  cConnection : Bool := false
  cEnable : Bool := false
  cSuspend : Bool := false
  cOverCurrent : Bool := false
  cReset : Bool := false
  deriving DecidableEq, Repr

/-- A vendor command that waits (R473): header words and data. -/
structure UsbCmd where
  op : Nat
  tag : Byte
  len : Nat
  arg : Word
  data : List Word
  /-- Its header and data are as R473 gives them. -/
  ok : Bool
  /-- Words read so far. -/
  got : List Word
  deriving DecidableEq, Repr

/-- The USB unit (chapter 21). -/
structure UsbState where
  sync : UsbSync := .detached
  suspended : Bool := false
  address : BitVec 7 := 0
  config : Byte := 0
  ports : List UsbPort := [{}, {}, {}]
  /-- Next data toggle of endpoints 0x01 and 0x81 of the function and 0x81 of the hub, and which are halted (R472). -/
  toggleOut : Bool := false
  toggleIn : Bool := false
  toggleHub : Bool := false
  haltOut : Bool := false
  haltIn : Bool := false
  haltHub : Bool := false
  /-- Alternate setting of the streaming interface, and the rate fixed at SET_INTERFACE (R474). -/
  alt : Nat := 0
  nominal : Nat := 0
  remoteWake : Bool := false
  /-- CLOCK at which suspend began, and at which a requested wake drives K (R478). -/
  suspendAt : Nat := 0
  wakeAt : Option Nat := none
  /-- Vendor commands in progress, oldest first; the front one waits for BOOT/UPDATE or for a unit reset. -/
  cmds : List UsbCmd := []
  /-- The front command has committed its BOOT_CMD and waits while STATE is BUSY. -/
  bootWait : Bool := false
  /-- The reply of the front command is discarded (R477). -/
  mute : Nat := 0
  deriving DecidableEq, Repr

/-- How a station port ends a frame (R267): plainly, with /E/ in the lane of /T/ and /T/ in the next, or with /V/ for the
first code group of the end-of-packet delimiter. -/
inductive EthEnd where
  | plain | errorControl | violation
  deriving DecidableEq, Repr

/-- What leaves the hub (log entry 2). -/
inductive Out where
  /-- The answer to a register access (R39). -/
  | access (who : Initiator) (addr : Nat) (r : AccessResult)
  /-- The result word of a ring fence, or the end of a local one (R68, R71). -/
  | fenceEnd (who : Initiator) (w : Word)
  /-- A frame on a Fliar port (R191). -/
  | frame (l : Port) (rp : Bool) (lseq : BitVec 12) (f : RingFrame)
  /-- The control sets of a Fliar port (R190). -/
  | marker (l : Port) (m : Marker)
  | ack (l : Port) (lseq : BitVec 12)
  | nak (l : Port) (lseq : BitVec 12)
  | skp (l : Port)
  /-- A PTP message on a station port (R101). -/
  | ptp (p : Fin 2) (f : PtpFrame)
  /-- The end of a ring transaction at its initiator (R243, R253): CAUSE 0 is completion. -/
  | txnEnd (who : Initiator) (addr : FabricAddr) (cause : Nat) (data : List Word)
  /-- A slice that a pin engine shifts out to its group pins or directions (R153). -/
  | slice (engine : Nat) (width : Nat) (v : Word)
  /-- A CAN frame whose transmission starts, and a UART character that is sent with its parity and stop bits (R180). -/
  | can (n : Nat) (f : CanFrame)
  | uart (u : Nat) (c : BitVec 9) (parity : Option Bool) (twoStop : Bool)
  /-- A frame that leaves a station port: its bytes before the FCS, the FCS, and how it ends (R267). -/
  | eth (p : Nat) (bytes : List Byte) (fcs : Word) (ending : EthEnd)
  /-- A mirror record for the partner, over the ring or the PAIR link (R364). -/
  | mirror (ring : Bool) (r : MirrorRecord)
  /-- Bytes written to host memory, and an MSI-X message (R456, R460). -/
  | hostWrite (addr : Dword) (bytes : List Byte)
  | msix (vector : Nat)
  /-- The bytes that the management port answers after the filler (R464). -/
  | mgmt (bytes : List Byte)
  /-- The reply to a vendor command, a packet of the audio endpoint, and the feedback value (R473 to R476). -/
  | usbReply (words : List Word)
  | usbAudio (bytes : List Byte)
  | usbFeedback (fb : Word)
  deriving DecidableEq, Repr

/-- Why the machine stops with a fault: nothing in the spec stops the hub, so there is no such reason (safe). -/
inductive Fault
  deriving DecidableEq, Repr

/-- Why a command has no meaning. -/
inductive Refusal where
  /-- Raised by the dispatch for a command whose meaning is not written, by its mnemonic. Safe: nothing is claimed. -/
  | notModelled (mnemonic : String)
  deriving DecidableEq, Repr

/-- The state of the hub. -/
structure State where
  /-- FRC, the free-running CORE count (R80). -/
  frc : Dword := 0
  /-- CLOCK: periods of 2.5 ns since the model began, the time base of Comet and of the power die; no reset stops it. -/
  clock : Nat := 0
  /-- Register words by local address, canonical: a word equal to its reset value is not listed. -/
  regs : Store Word := []
  /-- The memories: service RAM at its local addresses, DRAM from 0x1_0000_0000, the settings banks and flash above. -/
  mem : Memory := []
  /-- Commands waiting, first in first out. -/
  pending : List Instr := []
  /-- What has left the hub, newest first: the model's own record (log entry 2). -/
  out : List Out := []
  /-- The model's own counter of free values (log entry 3). -/
  free : Nat := 0
  shadows : List Shadow := []
  staged : List Shadow := []
  guards : Store Guard := []
  busy : List BusyUnit := []
  held : List HeldAccess := []
  cfg : CfgScan := {}
  /-- Configuration words of the active image, as start-up applied them (R22, R403). -/
  image : List (Nat × Word) := []
  fences : List (Initiator × Fence) := []
  fenceCounts : List (Initiator × FenceCount) := []
  hostFence : HostFence := {}
  fault : FaultState := {}
  dieLink : DieLink := {}
  time : TimeState := {}
  tins : List TinState := [{}, {}]
  ptp : List PtpPort := [{}, {}]
  angle : AngleState := {}
  links : Store LinkState := []
  bypass : Bypass := {}
  ring : RingState := {}
  bridge : BridgeState := {}
  ephem : EphemState := {}
  pins : Store PinState := []
  banks : Store BankState := []
  engines : Store EngineState := []
  cans : Store CanState := []
  canWakes : Store CanWake := []
  uarts : Store UartState := []
  sw : SwitchState := {}
  policers : Store Policer := []
  shapers : Store Shaper := []
  stas : Store StaState := []
  prp : PrpState := {}
  cores : Store CoreState := []
  /-- Inverted check bits by local address (R446): 1 one bit, 2 two bits. -/
  ecc : Store Nat := []
  queues : Store QueueState := []
  dram : DramState := {}
  pair : PairState := {}
  /-- The alias EPOCH of each class as kept in MRAM (R357). -/
  mramEpochs : List Byte := [0, 0, 0, 0]
  power : PowerState := {}
  start : StartState := {}
  comet : CometState := {}
  cache : Cache := {}
  fuses : Fuses := {}
  boot : BootState := {}
  host : HostState := {}
  mgmt : MgmtState := {}
  usb : UsbState := {}
  deriving DecidableEq, Repr

/-- The hub right after a power-on reset of all its domains: every register at its reset value, nothing listed, and
start-up not begun (log entry 4). -/
def State.reset : State := {}

end Sys2Proof.Machine
end

