-- ==== Sys2Proof/Machine/Addr.lean ====
section
/-! DEFINITION. The local byte address of every register the spec's tables name (R58 and the offset tables of each
chapter); an indexed register is a function of its index. -/

namespace Sys2Proof.Machine.Addr

def globalRegionFence : Nat := 0x0000_0100
def globalRegionFenceG : Nat := 0x0000_0104
def globalRegionState : Nat := 0x0000_0108
def globalId : Nat := 0x0000_0000
def globalEui64Lo : Nat := 0x0000_0004
def globalEui64Hi : Nat := 0x0000_0008
def globalResetCause : Nat := 0x0000_0010
def globalStartStatus : Nat := 0x0000_0014
def globalStraps : Nat := 0x0000_0018
def globalResetCmd : Nat := 0x0000_0020
def globalResetCmdG : Nat := 0x0000_0024
def globalRelease : Nat := 0x0000_0028

def regifUnitCtrl : Nat := 0x0001_0000
def regifBerrStatus : Nat := 0x0001_0010
def regifBerrAddrLo : Nat := 0x0001_0014
def regifBerrAddrHi : Nat := 0x0001_0018
def regifBerrInfo : Nat := 0x0001_001C
def regifBerrCount : Nat := 0x0001_0020
def regifStaleClearCount : Nat := 0x0001_0030
def regifStaleClearAddr : Nat := 0x0001_0034
def regifGuardFailAddr : Nat := 0x0001_0038
def regifGuardFailCount : Nat := 0x0001_003C
def regifCfgCrcCtrl : Nat := 0x0001_0040
def regifCfgCrcStatus : Nat := 0x0001_0044
def regifCfgCrcLast : Nat := 0x0001_0048
def regifCfgCrcRef : Nat := 0x0001_0050
def regifCfgCrcRefG : Nat := 0x0001_0054

def faultEvents : Nat := 0x0002_0000
def faultState : Nat := 0x0002_0004
def faultCtrl : Nat := 0x0002_0008
def faultQuiet : Nat := 0x0002_000C
def faultWindow : Nat := 0x0002_0010
def faultRecoveryCount : Nat := 0x0002_0014
def faultDefaultActions : Nat := 0x0002_0018
def faultFirst (i : Nat) : Nat := 0x0002_0020 + i * 0x4
def faultHistHead : Nat := 0x0002_0030
def faultPowerLostCount : Nat := 0x0002_0034
def faultInject : Nat := 0x0002_0040
def faultInjectG : Nat := 0x0002_0044
def faultInjectStatus : Nat := 0x0002_0048
def faultInjectAddr : Nat := 0x0002_004C
def faultHist (i k : Nat) : Nat := 0x0002_0100 + i * 0x20 + k * 4
def faultHistNum (i : Nat) : Nat := 0x0002_0110 + i * 0x20
def faultReact0 (i : Nat) : Nat := 0x0002_0800 + i * 0x10
def faultReact1 (i : Nat) : Nat := 0x0002_0804 + i * 0x10
def faultReact2 (i : Nat) : Nat := 0x0002_0808 + i * 0x10
def faultKindCount (i : Nat) : Nat := 0x0002_0C00 + i * 0x4

def timeUnitCtrl : Nat := 0x0003_0000
def timeEvents : Nat := 0x0003_0010
def timeState : Nat := 0x0003_0014
def timeCtrl : Nat := 0x0003_0018
def timeMasters : Nat := 0x0003_001C
def timeServo : Nat := 0x0003_0020
def timeNowNsLo : Nat := 0x0003_0030
def timeNowNsHi : Nat := 0x0003_0034
def timeNowFrac : Nat := 0x0003_0038
def timeFrcLo : Nat := 0x0003_0040
def timeFrcHi : Nat := 0x0003_0044
def timeOffsetNsLo : Nat := 0x0003_0048
def timeOffsetNsHi : Nat := 0x0003_004C
def timeOffsetFrac : Nat := 0x0003_0050
def timeRate : Nat := 0x0003_0054
def timeStepNsLo : Nat := 0x0003_0058
def timeStepNsHi : Nat := 0x0003_005C
def timeStepCmd : Nat := 0x0003_0060
def timeStepCmdG : Nat := 0x0003_0064
def timeLastTheta : Nat := 0x0003_0068
def timeTaiUtc : Nat := 0x0003_006C
def timePtpSta0 : Nat := 0x0003_0070
def timePtpSta1 : Nat := 0x0003_0074
def timeTin0Ctrl : Nat := 0x0003_0078
def timeTin1Ctrl : Nat := 0x0003_007C
def timeTinYear : Nat := 0x0003_0080
def timePpsOut : Nat := 0x0003_0084
def timeCorrSta0Tx : Nat := 0x0003_0090
def timeCorrSta0Rx : Nat := 0x0003_0094
def timeCorrSta1Tx : Nat := 0x0003_0098
def timeCorrSta1Rx : Nat := 0x0003_009C
def timeCorrEastTx : Nat := 0x0003_00A0
def timeCorrEastRx : Nat := 0x0003_00A4
def timeCorrWestTx : Nat := 0x0003_00A8
def timeCorrWestRx : Nat := 0x0003_00AC
def timeLinkDelayEast : Nat := 0x0003_00B0
def timeLinkDelayWest : Nat := 0x0003_00B4

def angleUnitCtrl : Nat := 0x0004_0000
def angleEvents : Nat := 0x0004_0010
def angleState : Nat := 0x0004_0014
def angleCtrl : Nat := 0x0004_0018
def angleRefOffset : Nat := 0x0004_001C
def angleJumpLimit : Nat := 0x0004_0020
def angleNow : Nat := 0x0004_0030
def angleCycle : Nat := 0x0004_0034
def angleFreq : Nat := 0x0004_0038
def angleT0NsLo : Nat := 0x0004_003C
def angleT0NsHi : Nat := 0x0004_0040
def angleT0Frac : Nat := 0x0004_0044
def angleLastJump : Nat := 0x0004_0048
def angleUnlockCount : Nat := 0x0004_004C
def angleSvSecond : Nat := 0x0004_0050
def angleSvMeta : Nat := 0x0004_0054
def angleSvRate : Nat := 0x0004_0058
def angleSvPush : Nat := 0x0004_005C
def angleSvDropCount : Nat := 0x0004_0060

def ephemUnitCtrl : Nat := 0x0005_0000
def ephemEvents : Nat := 0x0005_0010
def ephemStatus : Nat := 0x0005_0014
def ephemCtrl : Nat := 0x0005_0018
def ephemLastLate : Nat := 0x0005_0020
def ephemLateBy : Nat := 0x0005_0024
def ephemLateCount : Nat := 0x0005_0028
def ephemMissCount : Nat := 0x0005_002C
def ephemTemplate (i : Nat) : Nat := 0x0005_8000 + i * 0x4

/-- Base of the bank block. -/
def bankBase (n : Nat) : Nat := 0x0010_0000 + n * 0x1_0000
def pinCfg (n : Nat) (i : Nat) : Nat := bankBase n + 0x100 + i * 0x4
def bankUnitCtrl (n : Nat) : Nat := bankBase n + 0x0
def bankEvents (n : Nat) : Nat := bankBase n + 0x10
def bankStatus (n : Nat) : Nat := bankBase n + 0x14
def bankLevel (n : Nat) : Nat := bankBase n + 0x18
def bankRaw (n : Nat) : Nat := bankBase n + 0x1C
def bankCtrl (n : Nat) : Nat := bankBase n + 0x20
def bankGpioOut (n : Nat) : Nat := bankBase n + 0x24
def bankChat (n : Nat) : Nat := bankBase n + 0x28
def bankEvtCtrl (n : Nat) : Nat := bankBase n + 0x2C
def bankEvtLostCount (n : Nat) : Nat := bankBase n + 0x30
def bankEngStart (n : Nat) : Nat := bankBase n + 0x40
def bankEngStop (n : Nat) : Nat := bankBase n + 0x44
def bankEngEvent (n : Nat) : Nat := bankBase n + 0x48
def prog (n : Nat) (i : Nat) : Nat := bankBase n + 0x2000 + i * 0x4

/-- Base of the engine block. -/
def engineBase (e : Nat) : Nat := 0x0010_1000 + (e / 8) * 0x1_0000 + (e % 8) * 0x100
def engUnitCtrl (e : Nat) : Nat := engineBase e + 0x0
def engEvents (e : Nat) : Nat := engineBase e + 0x10
def engStatus (e : Nat) : Nat := engineBase e + 0x14
def engShift (e : Nat) : Nat := engineBase e + 0x18
def engCtrl (e : Nat) : Nat := engineBase e + 0x20
def engPins (e : Nat) : Nat := engineBase e + 0x24
def engWindow (e : Nat) : Nat := engineBase e + 0x28
def engDiv (e : Nat) : Nat := engineBase e + 0x2C
def engPc (e : Nat) : Nat := engineBase e + 0x30
def engA (e : Nat) : Nat := engineBase e + 0x34
def engB (e : Nat) : Nat := engineBase e + 0x38
def engSo (e : Nat) : Nat := engineBase e + 0x3C
def engSi (e : Nat) : Nat := engineBase e + 0x40
def engInject (e : Nat) : Nat := engineBase e + 0x44
def engTxf (e : Nat) : Nat := engineBase e + 0x48
def engRxf (e : Nat) : Nat := engineBase e + 0x4C
def engFifoCtrl (e : Nat) : Nat := engineBase e + 0x50
def engQbind (e : Nat) : Nat := engineBase e + 0x54
def engStaleCount (e : Nat) : Nat := engineBase e + 0x58
def engDiscardCount (e : Nat) : Nat := engineBase e + 0x5C
def engPindir (e : Nat) : Nat := engineBase e + 0x60
def engSclk (e : Nat) : Nat := engineBase e + 0x64

/-- Base of the can block. -/
def canBase (n : Nat) : Nat := 0x0010_5000 + n * 0x1_0000
def canUnitCtrl (n : Nat) : Nat := canBase n + 0x0
def canEvents (n : Nat) : Nat := canBase n + 0x10
def canStatus (n : Nat) : Nat := canBase n + 0x14
def canCtrl (n : Nat) : Nat := canBase n + 0x18
def canPins (n : Nat) : Nat := canBase n + 0x1C
def canNbt (n : Nat) : Nat := canBase n + 0x20
def canDbt (n : Nat) : Nat := canBase n + 0x24
def canWake (n : Nat) : Nat := canBase n + 0x28
def canWufId (n : Nat) : Nat := canBase n + 0x2C
def canWufMask (n : Nat) : Nat := canBase n + 0x30
def canWufCtrl (n : Nat) : Nat := canBase n + 0x34
def canWufDataLo (n : Nat) : Nat := canBase n + 0x38
def canWufDataHi (n : Nat) : Nat := canBase n + 0x3C
def canTxadd (n : Nat) : Nat := canBase n + 0x40
def canTxcancel (n : Nat) : Nat := canBase n + 0x44
def canTxpend (n : Nat) : Nat := canBase n + 0x48
def canTxok (n : Nat) : Nat := canBase n + 0x4C
def canTxcncl (n : Nat) : Nat := canBase n + 0x50
def canRxf (n : Nat) : Nat := canBase n + 0x54
def canQbind (n : Nat) : Nat := canBase n + 0x58
def canFltCfg (n : Nat) : Nat := canBase n + 0x5C
def canTdcMeas (n : Nat) : Nat := canBase n + 0x60
def canRxLostCount (n : Nat) : Nat := canBase n + 0x64
def canErrCount (n : Nat) : Nat := canBase n + 0x68

/-- Base of the uart block. -/
def uartBase (u : Nat) : Nat := 0x0010_4000 + (u / 2) * 0x1_0000 + (u % 2) * 0x800
def uartUnitCtrl (u : Nat) : Nat := uartBase u + 0x0
def uartEvents (u : Nat) : Nat := uartBase u + 0x10
def uartStatus (u : Nat) : Nat := uartBase u + 0x14
def uartCtrl (u : Nat) : Nat := uartBase u + 0x18
def uartPins (u : Nat) : Nat := uartBase u + 0x1C
def uartDiv (u : Nat) : Nat := uartBase u + 0x20
def uartDe (u : Nat) : Nat := uartBase u + 0x24
def uartGap (u : Nat) : Nat := uartBase u + 0x28
def uartQbind (u : Nat) : Nat := uartBase u + 0x2C
def uartTxf (u : Nat) : Nat := uartBase u + 0x30
def uartRxf (u : Nat) : Nat := uartBase u + 0x34
def uartErrCount (u : Nat) : Nat := uartBase u + 0x38

/-- Base of the link block. -/
def linkBase (l : Nat) : Nat := 0x0020_0000 + l * 0x1_0000
def linkUnitCtrl (l : Nat) : Nat := linkBase l + 0x0
def linkEvents (l : Nat) : Nat := linkBase l + 0x10
def linkStatus (l : Nat) : Nat := linkBase l + 0x14
def linkCtrl (l : Nat) : Nat := linkBase l + 0x18
def linkNeighbour (l : Nat) : Nat := linkBase l + 0x1C
def linkReplayCtrl (l : Nat) : Nat := linkBase l + 0x20
def linkAmCtrl (l : Nat) : Nat := linkBase l + 0x24
def linkBerCtrl (l : Nat) : Nat := linkBase l + 0x28
def linkLoopback (l : Nat) : Nat := linkBase l + 0x2C
def linkTest (l : Nat) : Nat := linkBase l + 0x30
def linkCodeErr (l : Nat) (i : Nat) : Nat := linkBase l + 0x40 + i * 0x4
def linkCrcErrCount (l : Nat) : Nat := linkBase l + 0x50
def linkReplayCount (l : Nat) : Nat := linkBase l + 0x54
def linkNakCount (l : Nat) : Nat := linkBase l + 0x58
def linkTrainFailCount (l : Nat) : Nat := linkBase l + 0x5C
def linkSkipCount (l : Nat) : Nat := linkBase l + 0x60
def linkTestErrCount (l : Nat) : Nat := linkBase l + 0x64
def linkRtt (l : Nat) : Nat := linkBase l + 0x68
def linkBypassCtrl (l : Nat) : Nat := linkBase l + 0x100
def linkBypassStatus (l : Nat) : Nat := linkBase l + 0x104

def ringUnitCtrl : Nat := 0x0023_0000
def ringEvents : Nat := 0x0023_0010
def ringStatus : Nat := 0x0023_0014
def ringCtrl : Nat := 0x0023_0018
def ringCmd : Nat := 0x0023_001C
def ringCmdG : Nat := 0x0023_0020
def ringReorder : Nat := 0x0023_0024
def ringPair : Nat := 0x0023_0028
def ringBridge : Nat := 0x0023_002C
def ringRoute (i : Nat) : Nat := 0x0023_0040 + i * 0x4
def ringDupCount : Nat := 0x0023_0080
def ringDupOldCount : Nat := 0x0023_0084
def ringOverrunCount : Nat := 0x0023_0088
def ringReturnCount : Nat := 0x0023_008C
def ringOrphanCount : Nat := 0x0023_0090
def ringBreakDropCount : Nat := 0x0023_0094
def ringTransitDropCount : Nat := 0x0023_0098
def ringHdrErrCount : Nat := 0x0023_009C
def ringReorderGapCount : Nat := 0x0023_00A0
def ringPresent (i : Nat) : Nat := 0x0023_0100 + i * 0x4
def ringOrder (i : Nat) : Nat := 0x0023_0400 + i * 0x4

def bridgeUnitCtrl : Nat := 0x0024_0000
def bridgeEvents : Nat := 0x0024_0010
def bridgeStatus : Nat := 0x0024_0014
def bridgeTxnTimeout : Nat := 0x0024_0018
def bridgeDeadline : Nat := 0x0024_001C
def bridgeHostLimit : Nat := 0x0024_0020
def bridgeRetry : Nat := 0x0024_0024
def bridgeSemLease : Nat := 0x0024_0028
def bridgeTxnStatus : Nat := 0x0024_0030
def bridgeTxnAddrLo : Nat := 0x0024_0034
def bridgeTxnAddrHi : Nat := 0x0024_0038
def bridgeTxnInfo : Nat := 0x0024_003C
def bridgeTxnCount : Nat := 0x0024_0040
def bridgeRetrySentCount : Nat := 0x0024_0080
def bridgeReissueCount : Nat := 0x0024_0084
def bridgeHoldExpiredCount : Nat := 0x0024_0088
def bridgeLateDiscardCount : Nat := 0x0024_008C
def bridgeYieldCount : Nat := 0x0024_0090
def bridgeSemDenyCount : Nat := 0x0024_0094
def bridgeSem (i : Nat) : Nat := 0x0024_0300 + i * 0x4
def bridgePwfStatus : Nat := 0x0024_0200
def bridgePwfAddrLo : Nat := 0x0024_0204
def bridgePwfAddrHi : Nat := 0x0024_0208
def bridgePwfInfo : Nat := 0x0024_020C
def bridgePwfCount : Nat := 0x0024_0210

/-- Base of the sta block. -/
def staBase (p : Nat) : Nat := 0x0028_0000 + p * 0x1_0000
def staGateCtrl (p : Nat) : Nat := staBase p + 0x200
def staGateAdminBaseLo (p : Nat) : Nat := staBase p + 0x204
def staGateAdminBaseHi (p : Nat) : Nat := staBase p + 0x208
def staGateAdminCycle (p : Nat) : Nat := staBase p + 0x20C
def staGateAdminLen (p : Nat) : Nat := staBase p + 0x210
def staGateCmd (p : Nat) : Nat := staBase p + 0x214
def staGateCmdG (p : Nat) : Nat := staBase p + 0x218
def staGateEvents (p : Nat) : Nat := staBase p + 0x21C
def staGateStatus (p : Nat) : Nat := staBase p + 0x220
def staGateOperBaseLo (p : Nat) : Nat := staBase p + 0x224
def staGateOperBaseHi (p : Nat) : Nat := staBase p + 0x228
def staGateOperCycle (p : Nat) : Nat := staBase p + 0x22C
def staGateOperLen (p : Nat) : Nat := staBase p + 0x230
def staGateChangeTimeLo (p : Nat) : Nat := staBase p + 0x234
def staGateChangeTimeHi (p : Nat) : Nat := staBase p + 0x238
def staGateOverrunCount (p : Nat) : Nat := staBase p + 0x23C
def prpCtrl (p : Nat) : Nat := staBase p + 0x300
def prpEvents (p : Nat) : Nat := staBase p + 0x304
def prpMacLo (p : Nat) : Nat := staBase p + 0x308
def prpMacHi (p : Nat) : Nat := staBase p + 0x30C
def prpTxSeq (p : Nat) : Nat := staBase p + 0x310
def prpDupCount (p : Nat) : Nat := staBase p + 0x314
def prpWrongLanCount (p : Nat) : Nat := staBase p + 0x318
def prpUnknownCount (p : Nat) : Nat := staBase p + 0x31C
def prpRestartCount (p : Nat) : Nat := staBase p + 0x320
def staGclAdmin (p : Nat) (i : Nat) : Nat := staBase p + 0x1000 + i * 0x4
def staGclOper (p : Nat) (i : Nat) : Nat := staBase p + 0x2000 + i * 0x4
def staUnitCtrl (p : Nat) : Nat := staBase p + 0x0
def staEvents (p : Nat) : Nat := staBase p + 0x10
def staStatus (p : Nat) : Nat := staBase p + 0x14
def staCtrl (p : Nat) : Nat := staBase p + 0x18
def staRxFrames (p : Nat) : Nat := staBase p + 0x20
def staRxFcsErrCount (p : Nat) : Nat := staBase p + 0x24
def staRxRuntCount (p : Nat) : Nat := staBase p + 0x28
def staRxCtrlCount (p : Nat) : Nat := staBase p + 0x2C
def staRxCodeErrCount (p : Nat) : Nat := staBase p + 0x30
def staTxFrames (p : Nat) : Nat := staBase p + 0x34
def staTxDiscardCount (p : Nat) : Nat := staBase p + 0x38

def swUnitCtrl : Nat := 0x0030_0000
def swEvents : Nat := 0x0030_0010
def swStatus : Nat := 0x0030_0014
def swCtrl : Nat := 0x0030_0018
def swFreeCells : Nat := 0x0030_0020
def swUsedCells : Nat := 0x0030_0024
def swQcfg (i : Nat) : Nat := 0x0030_0100 + i * 0x4
def swRed (i k : Nat) : Nat := 0x0030_0400 + i * 0x10 + k * 4
def swPortRxFrames (i : Nat) : Nat := 0x0030_0800 + i * 0x40
def swPortTxFrames (i : Nat) : Nat := 0x0030_0804 + i * 0x40
def swPortTailMarked (i : Nat) : Nat := 0x0030_0808 + i * 0x40
def swPortTailDup (i : Nat) : Nat := 0x0030_080C + i * 0x40
def swPortDropLimit (i : Nat) : Nat := 0x0030_0810 + i * 0x40
def swPortDropBuffer (i : Nat) : Nat := 0x0030_0814 + i * 0x40
def swPortDropBad (i : Nat) : Nat := 0x0030_0818 + i * 0x40
def swQEnq (i : Nat) : Nat := 0x0030_1000 + i * 0x10
def swQDropGreen (i : Nat) : Nat := 0x0030_1004 + i * 0x10
def swQDropYellow (i : Nat) : Nat := 0x0030_1008 + i * 0x10
def swQDropRed (i : Nat) : Nat := 0x0030_100C + i * 0x10
def swQDepth (i : Nat) : Nat := 0x0030_1400 + i * 0x8
def swQAvg (i : Nat) : Nat := 0x0030_1404 + i * 0x8

/-- Base of the capture block. -/
def captureBase (c : Nat) : Nat := 0x0030_2000 + c * 0x40
def capCtrl (c : Nat) : Nat := captureBase c + 0x0
def capBaseLo (c : Nat) : Nat := captureBase c + 0x4
def capBaseHi (c : Nat) : Nat := captureBase c + 0x8
def capSize (c : Nat) : Nat := captureBase c + 0xC
def capWr (c : Nat) : Nat := captureBase c + 0x10
def capRd (c : Nat) : Nat := captureBase c + 0x14
def capEvents (c : Nat) : Nat := captureBase c + 0x18
def capDropCount (c : Nat) : Nat := captureBase c + 0x1C
def capOverwriteCount (c : Nat) : Nat := captureBase c + 0x20
def capCseq (c : Nat) : Nat := captureBase c + 0x24

def trfUnitCtrl : Nat := 0x0031_0000
def trfEvents : Nat := 0x0031_0010
def trfCtrl : Nat := 0x0031_0018
def trfQshaper (i : Nat) : Nat := 0x0031_0100 + i * 0x4
def trfShRate (i : Nat) : Nat := 0x0031_4000 + i * 0x10
def trfShBurst (i : Nat) : Nat := 0x0031_4004 + i * 0x10
def trfShCtrl (i : Nat) : Nat := 0x0031_4008 + i * 0x10
def trfShTokens (i : Nat) : Nat := 0x0031_400C + i * 0x10
def trfPolCir (i : Nat) : Nat := 0x0031_8000 + i * 0x20
def trfPolPir (i : Nat) : Nat := 0x0031_8004 + i * 0x20
def trfPolBurst (i : Nat) : Nat := 0x0031_8008 + i * 0x20
def trfPolCtrl (i : Nat) : Nat := 0x0031_800C + i * 0x20
def trfPolGreen (i : Nat) : Nat := 0x0031_8010 + i * 0x20
def trfPolYellow (i : Nat) : Nat := 0x0031_8014 + i * 0x20
def trfPolRed (i : Nat) : Nat := 0x0031_8018 + i * 0x20

def classUnitCtrl : Nat := 0x004A_0000
def classEvents : Nat := 0x004A_0010
def classPortCfg (i : Nat) : Nat := 0x004A_0020 + i * 0x4
def classZoneAllow (i : Nat) : Nat := 0x004A_0040 + i * 0x8
def classZoneAllowG (i : Nat) : Nat := 0x004A_0044 + i * 0x8
def classPcpMap : Nat := 0x004A_0080
def classNodelist (i k : Nat) : Nat := 0x004A_0400 + i * 0x10 + k * 4
def classFwDenyCount (i : Nat) : Nat := 0x004A_0200 + i * 0x4
def classMissCount (i : Nat) : Nat := 0x004A_0240 + i * 0x4
def classRingLongCount : Nat := 0x004A_0260
def classDupKeyCount : Nat := 0x004A_0264

/-- Base of the core block. -/
def coreBase (n : Nat) : Nat := 0x0050_0000 + n * 0x1000
def svcUnitCtrl (n : Nat) : Nat := coreBase n + 0x0
def svcEvents (n : Nat) : Nat := coreBase n + 0x10
def svcStatus (n : Nat) : Nat := coreBase n + 0x14
def svcCtrl (n : Nat) : Nat := coreBase n + 0x18
def svcCmd (n : Nat) : Nat := coreBase n + 0x1C
def svcResetPc (n : Nat) : Nat := coreBase n + 0x20
def svcPc (n : Nat) : Nat := coreBase n + 0x24
def svcWdog (n : Nat) : Nat := coreBase n + 0x28
def svcDoorbell (n : Nat) : Nat := coreBase n + 0x2C
def svcQmaskLo (n : Nat) : Nat := coreBase n + 0x30
def svcQmaskHi (n : Nat) : Nat := coreBase n + 0x34
def svcEsmask (n : Nat) : Nat := coreBase n + 0x38
def svcCycleLo (n : Nat) : Nat := coreBase n + 0x40
def svcCycleHi (n : Nat) : Nat := coreBase n + 0x44
def svcGreg (n : Nat) (i : Nat) : Nat := coreBase n + 0x100 + i * 0x4
def svcSreg (n : Nat) (i : Nat) : Nat := coreBase n + 0x180 + i * 0x4
def svcBpAddr (n : Nat) (i : Nat) : Nat := coreBase n + 0x200 + i * 0x8
def svcBpCtrl (n : Nat) (i : Nat) : Nat := coreBase n + 0x204 + i * 0x8

/-- Base of the queue block. -/
def queueBase (q : Nat) : Nat := 0x0080_0000 + q * 0x100
def qUnitCtrl (q : Nat) : Nat := queueBase q + 0x0
def qEvents (q : Nat) : Nat := queueBase q + 0x10
def qStatus (q : Nat) : Nat := queueBase q + 0x14
def qCfg (q : Nat) : Nat := queueBase q + 0x18
def qEnds (q : Nat) : Nat := queueBase q + 0x1C
def qCtrl (q : Nat) : Nat := queueBase q + 0x20
def qPush (q : Nat) : Nat := queueBase q + 0x24
def qPushEnd (q : Nat) : Nat := queueBase q + 0x28
def qPushAbort (q : Nat) : Nat := queueBase q + 0x2C
def qPop (q : Nat) : Nat := queueBase q + 0x30
def qPopmark (q : Nat) : Nat := queueBase q + 0x34
def qDroppkt (q : Nat) : Nat := queueBase q + 0x38
def qLevel (q : Nat) : Nat := queueBase q + 0x40
def qPkts (q : Nat) : Nat := queueBase q + 0x44
def qRefusedCount (q : Nat) : Nat := queueBase q + 0x50
def qFullDropCount (q : Nat) : Nat := queueBase q + 0x54
def qAbortCount (q : Nat) : Nat := queueBase q + 0x58
def qDroppedWords (q : Nat) : Nat := queueBase q + 0x5C
def qHostStallCount (q : Nat) : Nat := queueBase q + 0x60

def queueHostStall : Nat := 0x0080_4000
def queueSwitchWait : Nat := 0x0080_4004
def queueEpCtrl : Nat := 0x0080_4008

def pairUnitCtrl : Nat := 0x0090_0000
def pairEvents : Nat := 0x0090_0010
def pairStatus : Nat := 0x0090_0014
def pairCtrl : Nat := 0x0090_0018
def pairRank : Nat := 0x0090_001C
def pairTiming : Nat := 0x0090_0020
def pairHealth : Nat := 0x0090_0024
def pairCmdSel : Nat := 0x0090_0028
def pairMirrorCtrl : Nat := 0x0090_002C
def pairCmd : Nat := 0x0090_0030
def pairCmdG : Nat := 0x0090_0034
def pairAlias (i : Nat) : Nat := 0x0090_0040 + i * 0x4
def pairTakeoverCount : Nat := 0x0090_0060
def pairDualCount : Nat := 0x0090_0064
def pairSuppressCount : Nat := 0x0090_0068
def pairMirrorFailCount : Nat := 0x0090_006C
def pairM2WaitMax : Nat := 0x0090_0070
def pairM3List (i : Nat) : Nat := 0x0090_0400 + i * 0x4

/-- Base of the feed block. -/
def feedBase (f : Nat) : Nat := 0x00A0_0000 + f * 0x100
def feedUnitCtrl (f : Nat) : Nat := feedBase f + 0x0
def feedEvents (f : Nat) : Nat := feedBase f + 0x10
def feedStatus (f : Nat) : Nat := feedBase f + 0x14
def feedCtrl (f : Nat) : Nat := feedBase f + 0x18
def feedReverseCount (f : Nat) : Nat := feedBase f + 0x1C
def pwrFeedMode (f : Nat) : Nat := feedBase f + 0x40
def pwrLinkHold (f : Nat) : Nat := feedBase f + 0x44
def pwrHealth (f : Nat) : Nat := feedBase f + 0x48
def pwrTmem (f : Nat) : Nat := feedBase f + 0x4C
def pwrStatus (f : Nat) : Nat := feedBase f + 0x50

/-- Base of the group block. -/
def groupBase (g : Nat) : Nat := 0x00A0_1000 + g * 0x100
def grpUnitCtrl (g : Nat) : Nat := groupBase g + 0x0
def grpEvents (g : Nat) : Nat := groupBase g + 0x10
def grpStatus (g : Nat) : Nat := groupBase g + 0x14
def grpCmd (g : Nat) : Nat := groupBase g + 0x18
def grpCmdG (g : Nat) : Nat := groupBase g + 0x1C
def grpCfg (g : Nat) : Nat := groupBase g + 0x20
def grpLimit (g : Nat) : Nat := groupBase g + 0x24
def grpTimer (g : Nat) : Nat := groupBase g + 0x28
def grpEnergy (g : Nat) : Nat := groupBase g + 0x2C
def grpShunt (g : Nat) : Nat := groupBase g + 0x30
def grpMeas (g : Nat) : Nat := groupBase g + 0x40
def grpSupply (g : Nat) : Nat := groupBase g + 0x44
def grpPower (g : Nat) : Nat := groupBase g + 0x48
def grpEnergyTotalLo (g : Nat) : Nat := groupBase g + 0x4C
def grpEnergyTotalHi (g : Nat) : Nat := groupBase g + 0x50
def grpEpisodeEnergy (g : Nat) : Nat := groupBase g + 0x54
def grpRampEnergy (g : Nat) : Nat := groupBase g + 0x58
def grpTripCount (g : Nat) : Nat := groupBase g + 0x5C

/-- Base of the therm block. -/
def thermBase (k : Nat) : Nat := 0x00A0_0400 + k * 0x40
def thermUnitCtrl (k : Nat) : Nat := thermBase k + 0x0
def thermEvents (k : Nat) : Nat := thermBase k + 0x10
def thermStatus (k : Nat) : Nat := thermBase k + 0x14
def thermCtrl (k : Nat) : Nat := thermBase k + 0x18

def bootUnitCtrl : Nat := 0x00B0_0000
def bootEvents : Nat := 0x00B0_0010
def bootStatus : Nat := 0x00B0_0014
def bootCmd : Nat := 0x00B0_0018
def bootCmdG : Nat := 0x00B0_001C
def bootXferOffset : Nat := 0x00B0_0020
def bootXferLen : Nat := 0x00B0_0024
def bootMinV : Nat := 0x00B0_0028
def bootProtect : Nat := 0x00B0_002C
def bootLock : Nat := 0x00B0_0030
def bootLockG : Nat := 0x00B0_0034
def bootTrial : Nat := 0x00B0_0038
def bootTrialElapsed : Nat := 0x00B0_003C
def bootHealthConfirm : Nat := 0x00B0_0040
def bootHealthConfirmG : Nat := 0x00B0_0044
def bootActiveVersion : Nat := 0x00B0_0048
def bootPreviousVersion : Nat := 0x00B0_004C
def bootStagingVersion : Nat := 0x00B0_0050
def bootSettings : Nat := 0x00B0_0054
def bootSetAddr : Nat := 0x00B0_0058
def bootSetData : Nat := 0x00B0_005C
def bootXferBuf (i : Nat) : Nat := 0x00B0_1000 + i * 0x4

def hostUnitCtrl : Nat := 0x00B1_0000
def hostEvents : Nat := 0x00B1_0010
def hostStatus : Nat := 0x00B1_0014
def hostDoorbell : Nat := 0x00B1_0044
def hostXlatLo (i : Nat) : Nat := 0x00B1_0100 + i * 0x8
def hostXlatHi (i : Nat) : Nat := 0x00B1_0104 + i * 0x8
def hostDmaCtrl (i : Nat) : Nat := 0x00B1_0200 + i * 0x20
def hostDmaRingLo (i : Nat) : Nat := 0x00B1_0204 + i * 0x20
def hostDmaRingHi (i : Nat) : Nat := 0x00B1_0208 + i * 0x20
def hostDmaSize (i : Nat) : Nat := 0x00B1_020C + i * 0x20
def hostDmaHead (i : Nat) : Nat := 0x00B1_0210 + i * 0x20
def hostDmaTail (i : Nat) : Nat := 0x00B1_0214 + i * 0x20
def hostDmaStatus (i : Nat) : Nat := 0x00B1_0218 + i * 0x20
def hostIrqMap (i : Nat) : Nat := 0x00B1_0400 + i * 0x4
def hostFence : Nat := 0x00B1_0040

def usbUnitCtrl : Nat := 0x00B2_0000
def usbEvents : Nat := 0x00B2_0010
def usbStatus : Nat := 0x00B2_0014
def usbCtrl : Nat := 0x00B2_0018
def usbAudCtrl : Nat := 0x00B2_001C
def usbAudFb : Nat := 0x00B2_0020
def usbAudUnderrunCount : Nat := 0x00B2_0024
def usbCtrlAbortCount : Nat := 0x00B2_0028

def dramUnitCtrl : Nat := 0x00B3_0000
def dramEvents : Nat := 0x00B3_0010
def dramStatus : Nat := 0x00B3_0014
def dramCfg : Nat := 0x00B3_0018
def dramMr (i : Nat) : Nat := 0x00B3_0020 + i * 0x4
def dramTiming0 : Nat := 0x00B3_0040
def dramTiming1 : Nat := 0x00B3_0044
def dramTiming2 : Nat := 0x00B3_0048
def dramScrub : Nat := 0x00B3_0050
def dramEccAddrLo : Nat := 0x00B3_0054
def dramEccAddrHi : Nat := 0x00B3_0058
def dramCorrCount : Nat := 0x00B3_005C
def dramUncorrCount : Nat := 0x00B3_0060
def dramOvfBase (i : Nat) : Nat := 0x00B3_0080 + i * 0x8
def dramOvfSize (i : Nat) : Nat := 0x00B3_0084 + i * 0x8

def cometHibCtrl : Nat := 0x00C0_0400
def cometHibCmd : Nat := 0x00C0_0404
def cometHibCmdG : Nat := 0x00C0_0408
def cometWakeStatus : Nat := 0x00C0_040C
def cometWakeInfo : Nat := 0x00C0_0410
def cometState : Nat := 0x00C0_0414
def cometKtLo : Nat := 0x00C0_0418
def cometKtHi : Nat := 0x00C0_041C
def cometKtAlarmLo : Nat := 0x00C0_0420
def cometKtAlarmHi : Nat := 0x00C0_0424
def cometAnchorNsLo : Nat := 0x00C0_0428
def cometAnchorNsHi : Nat := 0x00C0_042C
def cometAnchorKtLo : Nat := 0x00C0_0430
def cometAnchorKtHi : Nat := 0x00C0_0434
def cometFault (i k : Nat) : Nat := 0x00C0_0600 + i * 0x20 + k * 4
def cometFaultNum (i : Nat) : Nat := 0x00C0_0610 + i * 0x20
def cometFaultHead : Nat := 0x00C0_0800
def cometFaultLost : Nat := 0x00C0_0804
def cometUnitCtrl : Nat := 0x00C0_0000
def cometMgmtEvents : Nat := 0x00C0_0010
def cometMgmtStatus : Nat := 0x00C0_0014
def cometMgmtAlertEn : Nat := 0x00C0_0018
def cometMgmtCmd : Nat := 0x00C0_001C
def cometMgmtCmdG : Nat := 0x00C0_0020
def cometMgmtPwr : Nat := 0x00C0_0024

/-- Word `w` of Ephemeris entry `e` (R117). -/
def ephemEntry (e w : Nat) : Nat := 0x0006_0000 + e * 32 + w * 4
/-- Word `w` of exact-match entry `e` (R284). -/
def classEntry (e w : Nat) : Nat := 0x0040_0000 + e * 32 + w * 4
/-- Word at offset `o` of wildcard rule `r` (R286). -/
def classRule (r o : Nat) : Nat := 0x0048_0000 + r * 0x80 + o
/-- Word `w` of endpoint entry `e` (R349). -/
def epEntry (e w : Nat) : Nat := 0x0080_8000 + e * 8 + w * 4
/-- Word `w` of filter entry `i` of list `l` of CAN controller `n` (R172). -/
def canFilter (n l i w : Nat) : Nat := canBase n + 0x400 + l * 0x100 + i * 8 + w * 4
/-- Word `w` of receive buffer `b` of CAN controller `n` (R171). -/
def canRx (n b w : Nat) : Nat := canBase n + 0x800 + b * 0x80 + w * 4
/-- Word `w` of transmit buffer `b` of CAN controller `n` (R171). -/
def canTx (n b w : Nat) : Nat := canBase n + 0x1000 + b * 0x80 + w * 4
/-- Word `w` of MSI-X vector `v` (R452). -/
def msix (v w : Nat) : Nat := 0x00B1_8000 + v * 16 + w * 4
/-- First byte of the memories of service core `n` (R58). -/
def coreRam (n : Nat) : Nat := 0x0060_0000 + n * 0x8_0000

end Sys2Proof.Machine.Addr
end

