-- ==== Sys2Proof/Machine/Bits.lean ====
section
/-! DEFINITION. Bit-field reads and writes, saturating counters and byte order, the helpers every block uses. -/

namespace Sys2Proof.Machine

/-- Bits `[lo + len - 1 : lo]` of `w` as a number. -/
def bits {n : Nat} (w : BitVec n) (lo len : Nat) : Nat := (w.toNat >>> lo) % 2 ^ len

/-- Bit `i` of `w`. -/
def bit {n : Nat} (w : BitVec n) (i : Nat) : Bool := w.toNat.testBit i

/-- `w` with bits `[lo + len - 1 : lo]` replaced by the low `len` bits of `v`. -/
def setBits {n : Nat} (w : BitVec n) (lo len v : Nat) : BitVec n :=
  BitVec.ofNat n (w.toNat - (bits w lo len) * 2 ^ lo + (v % 2 ^ len) * 2 ^ lo)

/-- `w` with bit `i` set to `b`. -/
def setBit {n : Nat} (w : BitVec n) (i : Nat) (b : Bool) : BitVec n := setBits w i 1 (if b then 1 else 0)

/-- 1 for true, 0 for false. -/
def ofBool (b : Bool) : Nat := if b then 1 else 0

/-- A counter that saturates at 0xFFFF_FFFF. -/
def satAdd (w : Word) (k : Nat) : Word := BitVec.ofNat 32 (min 0xFFFF_FFFF (w.toNat + k))

/-- `v` clamped to `lo … hi`. -/
def clamp (lo hi v : Nat) : Nat := max lo (min hi v)

/-- 0 acts as 1. -/
def atLeast1 (v : Nat) : Nat := if v = 0 then 1 else v

/-- The signed value of the low `n` bits of `v`. -/
def signed (n v : Nat) : Int := (BitVec.ofNat n v).toInt

/-- The word with value `v` modulo 2^32. -/
def word (v : Nat) : Word := BitVec.ofNat 32 v

/-- The word with the two's complement of `v`. -/
def wordInt (v : Int) : Word := BitVec.ofInt 32 v

/-- `v` saturated to the signed 32-bit range, as a word. -/
def wordSat (v : Int) : Word := BitVec.ofInt 32 (max (-2147483648) (min 2147483647 v))

/-- Floor division of an integer by a positive number. -/
def floorDiv (a : Int) (b : Nat) : Int := Int.fdiv a (Int.ofNat b)

/-- Round `a / b` to the nearest integer, halves upwards. -/
def roundDiv (a : Int) (b : Nat) : Int := Int.fdiv (2 * a + Int.ofNat b) (Int.ofNat (2 * b))

/-- `a / b` truncated towards zero. -/
def truncDiv (a : Int) (b : Nat) : Int := Int.tdiv a (Int.ofNat b)

/-- Byte `i` of a number, byte 0 the least significant. -/
def byteOf (v i : Nat) : Byte := BitVec.ofNat 8 (v >>> (8 * i))

/-- The number that `bs` spell, most significant byte first. -/
def beNat : List Byte → Nat
  | [] => 0
  | b :: r => b.toNat * 2 ^ (8 * r.length) + beNat r

/-- The number that `bs` spell, least significant byte first. -/
def leNat : List Byte → Nat
  | [] => 0
  | b :: r => b.toNat + 256 * leNat r

/-- The `n` low bytes of `v`, least significant first. -/
def leBytes : Nat → Nat → List Byte
  | 0, _ => []
  | n + 1, v => BitVec.ofNat 8 v :: leBytes n (v / 256)

/-- The `n` low bytes of `v`, most significant first. -/
def beBytes (n v : Nat) : List Byte := (leBytes n v).reverse

/-- The words that `bs` spell, first byte in bits [7:0], the last word padded with zero bytes. -/
def wordsOfBytes : List Byte → List Word
  | [] => []
  | [a] => [word a.toNat]
  | [a, b] => [word (a.toNat + 256 * b.toNat)]
  | [a, b, c] => [word (a.toNat + 256 * b.toNat + 65536 * c.toNat)]
  | a :: b :: c :: d :: r =>
    word (a.toNat + 256 * b.toNat + 65536 * c.toNat + 16777216 * d.toNat) :: wordsOfBytes r

/-- The bytes of `ws`, bits [7:0] of each word first. -/
def bytesOfWords (ws : List Word) : List Byte := ws.flatMap fun w => leBytes 4 w.toNat

/-- The words that `bs` spell, first byte in bits [31:24], the last word padded with zero bytes. -/
def wordsBE : List Byte → List Word
  | [] => []
  | [a] => [word (a.toNat * 16777216)]
  | [a, b] => [word (a.toNat * 16777216 + b.toNat * 65536)]
  | [a, b, c] => [word (a.toNat * 16777216 + b.toNat * 65536 + c.toNat * 256)]
  | a :: b :: c :: d :: r =>
    word (a.toNat * 16777216 + b.toNat * 65536 + c.toNat * 256 + d.toNat) :: wordsBE r

/-- The bytes of `ws`, bits [31:24] of each word first. -/
def bytesBE (ws : List Word) : List Byte := ws.flatMap fun w => beBytes 4 w.toNat

/-- The big-endian number in the `n` bytes at offset `i` of `bs`. -/
def beAt (bs : List Byte) (i n : Nat) : Nat := beNat ((bs.drop i).take n)

/-- The positions of the 1 bits of the low `n` bits of `v`, lowest first. -/
def onesOf (n v : Nat) : List Nat := (List.range n).filter fun i => v.testBit i

/-- `l` with element `i` replaced, unchanged when `i` is out of range. -/
def setAt {α : Type} (l : List α) (i : Nat) (v : α) : List α := l.set i v

end Sys2Proof.Machine
end

