-- ==== Sys2Proof/Machine/RegRows.lean ====
section
/-! DEFINITION. The register map: every register word that the spec's tables give, block by block, with its
access code (R5), the value its table gives for reset, the bits a write can change (the others are Reserved or
read-only, R6) and whether the configuration CRC scans it (R55). -/

namespace Sys2Proof.Machine

/-- Access codes of a register word (R5); `gword` is the complement word of a guarded pair (R50). -/
inductive Access where
  | ro | rw | wo | sq | gd | tb | gword
  deriving DecidableEq, Repr

/-- One row of a register table: `count` words `stride` bytes apart, the first at offset `off` of the block. -/
structure RegRow where
  off : Nat
  count : Nat
  stride : Nat
  acc : Access
  reset : Nat
  mask : Nat
  scan : Bool
  deriving DecidableEq, Repr

/-- The words of the global block (R20, R418). -/
def globalRows : List RegRow := [
  ⟨0x100, 1, 4, .gd, 0x0, 0xF, true⟩,  -- GLOBAL_REGION_FENCE
  ⟨0x104, 1, 4, .gword, 0x0, 0x0, false⟩,  -- GLOBAL_REGION_FENCE_G
  ⟨0x108, 1, 4, .ro, 0x0, 0x0, false⟩,  -- GLOBAL_REGION_STATE
  ⟨0x0, 1, 4, .ro, 0x0, 0x0, false⟩,  -- GLOBAL_ID
  ⟨0x4, 1, 4, .ro, 0x0, 0x0, false⟩,  -- GLOBAL_EUI64_LO
  ⟨0x8, 1, 4, .ro, 0x0, 0x0, false⟩,  -- GLOBAL_EUI64_HI
  ⟨0x10, 1, 4, .sq, 0x1, 0xFF00007F, false⟩,  -- GLOBAL_RESET_CAUSE
  ⟨0x14, 1, 4, .ro, 0x0, 0x0, false⟩,  -- GLOBAL_START_STATUS
  ⟨0x18, 1, 4, .ro, 0x0, 0x0, false⟩,  -- GLOBAL_STRAPS
  ⟨0x20, 1, 4, .gd, 0x0, 0x1, false⟩,  -- GLOBAL_RESET_CMD
  ⟨0x24, 1, 4, .gword, 0x0, 0x0, false⟩,  -- GLOBAL_RESET_CMD_G
  ⟨0x28, 1, 4, .rw, 0x200, 0x7FF, true⟩]  -- GLOBAL_RELEASE

/-- The words of the regif block (R41). -/
def regifRows : List RegRow := [
  ⟨0x0, 1, 4, .rw, 0x1, 0x1, true⟩,  -- REGIF_UNIT_CTRL
  ⟨0x10, 1, 4, .sq, 0x0, 0xFF000003, false⟩,  -- REGIF_BERR_STATUS
  ⟨0x14, 1, 4, .ro, 0x0, 0x0, false⟩,  -- REGIF_BERR_ADDR_LO
  ⟨0x18, 1, 4, .ro, 0x0, 0x0, false⟩,  -- REGIF_BERR_ADDR_HI
  ⟨0x1C, 1, 4, .ro, 0x0, 0x0, false⟩,  -- REGIF_BERR_INFO
  ⟨0x20, 1, 4, .ro, 0x0, 0x0, false⟩,  -- REGIF_BERR_COUNT
  ⟨0x30, 1, 4, .ro, 0x0, 0x0, false⟩,  -- REGIF_STALE_CLEAR_COUNT
  ⟨0x34, 1, 4, .ro, 0x0, 0x0, false⟩,  -- REGIF_STALE_CLEAR_ADDR
  ⟨0x38, 1, 4, .ro, 0x0, 0x0, false⟩,  -- REGIF_GUARD_FAIL_ADDR
  ⟨0x3C, 1, 4, .ro, 0x0, 0x0, false⟩,  -- REGIF_GUARD_FAIL_COUNT
  ⟨0x40, 1, 4, .rw, 0x0, 0x3, false⟩,  -- REGIF_CFG_CRC_CTRL
  ⟨0x44, 1, 4, .ro, 0x0, 0x0, false⟩,  -- REGIF_CFG_CRC_STATUS
  ⟨0x48, 1, 4, .ro, 0x0, 0x0, false⟩,  -- REGIF_CFG_CRC_LAST
  ⟨0x50, 1, 4, .gd, 0x0, 0xFFFFFFFF, false⟩,  -- REGIF_CFG_CRC_REF
  ⟨0x54, 1, 4, .gword, 0x0, 0x0, false⟩]  -- REGIF_CFG_CRC_REF_G

/-- The words of the fault block (R448). -/
def faultRows : List RegRow := [
  ⟨0x0, 1, 4, .sq, 0x0, 0xFF00007F, false⟩,  -- FAULT_EVENTS
  ⟨0x4, 1, 4, .ro, 0x0, 0x0, false⟩,  -- FAULT_STATE
  ⟨0x8, 1, 4, .rw, 0xA5, 0xFFFF, true⟩,  -- FAULT_CTRL
  ⟨0xC, 1, 4, .rw, 0x186A0, 0xFFFFFF, true⟩,  -- FAULT_QUIET
  ⟨0x10, 1, 4, .rw, 0x3C, 0xFFFF, true⟩,  -- FAULT_WINDOW
  ⟨0x14, 1, 4, .ro, 0x0, 0x0, false⟩,  -- FAULT_RECOVERY_COUNT
  ⟨0x18, 1, 4, .rw, 0x1, 0x7FF, true⟩,  -- FAULT_DEFAULT_ACTIONS
  ⟨0x20, 4, 4, .ro, 0x0, 0x0, false⟩,  -- FAULT_FIRST_k
  ⟨0x30, 1, 4, .ro, 0x0, 0x0, false⟩,  -- FAULT_HIST_HEAD
  ⟨0x34, 1, 4, .ro, 0x0, 0x0, false⟩,  -- FAULT_POWER_LOST_COUNT
  ⟨0x40, 1, 4, .gd, 0x0, 0x7F, false⟩,  -- FAULT_INJECT
  ⟨0x44, 1, 4, .gword, 0x0, 0x0, false⟩,  -- FAULT_INJECT_G
  ⟨0x48, 1, 4, .ro, 0x0, 0x0, false⟩,  -- FAULT_INJECT_STATUS
  ⟨0x4C, 1, 4, .ro, 0x0, 0x0, false⟩,  -- FAULT_INJECT_ADDR
  ⟨0x100, 32, 32, .ro, 0x0, 0x0, false⟩,  -- FAULT_HIST_i_k@0
  ⟨0x104, 32, 32, .ro, 0x0, 0x0, false⟩,  -- FAULT_HIST_i_k@1
  ⟨0x108, 32, 32, .ro, 0x0, 0x0, false⟩,  -- FAULT_HIST_i_k@2
  ⟨0x10C, 32, 32, .ro, 0x0, 0x0, false⟩,  -- FAULT_HIST_i_k@3
  ⟨0x110, 32, 32, .ro, 0xFFFFFFFF, 0x0, false⟩,  -- FAULT_HIST_i_NUM
  ⟨0x800, 64, 16, .tb, 0x0, 0x80000FFF, true⟩,  -- FAULT_REACT_r_0
  ⟨0x804, 64, 16, .tb, 0x0, 0xFFFFFFFF, true⟩,  -- FAULT_REACT_r_1
  ⟨0x808, 64, 16, .tb, 0x0, 0x7FF, true⟩,  -- FAULT_REACT_r_2
  ⟨0xC00, 256, 4, .ro, 0x0, 0x0, false⟩]  -- FAULT_KIND_COUNT_k

/-- The words of the time block (R107). -/
def timeRows : List RegRow := [
  ⟨0x0, 1, 4, .rw, 0x1, 0x1, true⟩,  -- TIME_UNIT_CTRL
  ⟨0x10, 1, 4, .sq, 0x0, 0xFF00007F, false⟩,  -- TIME_EVENTS
  ⟨0x14, 1, 4, .ro, 0x0, 0x0, false⟩,  -- TIME_STATE
  ⟨0x18, 1, 4, .rw, 0x300, 0xF77, true⟩,  -- TIME_CTRL
  ⟨0x1C, 1, 4, .rw, 0xFFFF, 0xFFFF, true⟩,  -- TIME_MASTERS
  ⟨0x20, 1, 4, .rw, 0x43203E8, 0xFFFFFFF, true⟩,  -- TIME_SERVO
  ⟨0x30, 1, 4, .ro, 0x0, 0x0, false⟩,  -- TIME_NOW_NS_LO
  ⟨0x34, 1, 4, .ro, 0x0, 0x0, false⟩,  -- TIME_NOW_NS_HI
  ⟨0x38, 1, 4, .ro, 0x0, 0x0, false⟩,  -- TIME_NOW_FRAC
  ⟨0x40, 1, 4, .ro, 0x0, 0x0, false⟩,  -- TIME_FRC_LO
  ⟨0x44, 1, 4, .ro, 0x0, 0x0, false⟩,  -- TIME_FRC_HI
  ⟨0x48, 1, 4, .ro, 0x0, 0x0, false⟩,  -- TIME_OFFSET_NS_LO
  ⟨0x4C, 1, 4, .ro, 0x0, 0x0, false⟩,  -- TIME_OFFSET_NS_HI
  ⟨0x50, 1, 4, .ro, 0x0, 0x0, false⟩,  -- TIME_OFFSET_FRAC
  ⟨0x54, 1, 4, .rw, 0x0, 0xFFFFFFFF, false⟩,  -- TIME_RATE
  ⟨0x58, 1, 4, .rw, 0x0, 0xFFFFFFFF, false⟩,  -- TIME_STEP_NS_LO
  ⟨0x5C, 1, 4, .rw, 0x0, 0xFFFFFFFF, false⟩,  -- TIME_STEP_NS_HI
  ⟨0x60, 1, 4, .gd, 0x0, 0x1, true⟩,  -- TIME_STEP_CMD
  ⟨0x64, 1, 4, .gword, 0x0, 0x0, false⟩,  -- TIME_STEP_CMD_G
  ⟨0x68, 1, 4, .ro, 0x0, 0x0, false⟩,  -- TIME_LAST_THETA
  ⟨0x6C, 1, 4, .rw, 0x25, 0x3FFFF, false⟩,  -- TIME_TAI_UTC
  ⟨0x70, 1, 4, .rw, 0x0, 0xFF03, true⟩,  -- TIME_PTP_STA0
  ⟨0x74, 1, 4, .rw, 0x0, 0xFF03, true⟩,  -- TIME_PTP_STA1
  ⟨0x78, 1, 4, .rw, 0x0, 0x7F, true⟩,  -- TIME_TIN0_CTRL
  ⟨0x7C, 1, 4, .rw, 0x0, 0x7F, true⟩,  -- TIME_TIN1_CTRL
  ⟨0x80, 1, 4, .rw, 0x0, 0xFFFF, true⟩,  -- TIME_TIN_YEAR
  ⟨0x84, 1, 4, .rw, 0x640, 0xFFF3, true⟩,  -- TIME_PPS_OUT
  ⟨0x90, 1, 4, .rw, 0x0, 0xFFFFFFFF, true⟩,  -- TIME_CORR_STA0_TX
  ⟨0x94, 1, 4, .rw, 0x0, 0xFFFFFFFF, true⟩,  -- TIME_CORR_STA0_RX
  ⟨0x98, 1, 4, .rw, 0x0, 0xFFFFFFFF, true⟩,  -- TIME_CORR_STA1_TX
  ⟨0x9C, 1, 4, .rw, 0x0, 0xFFFFFFFF, true⟩,  -- TIME_CORR_STA1_RX
  ⟨0xA0, 1, 4, .rw, 0x0, 0xFFFFFFFF, true⟩,  -- TIME_CORR_EAST_TX
  ⟨0xA4, 1, 4, .rw, 0x0, 0xFFFFFFFF, true⟩,  -- TIME_CORR_EAST_RX
  ⟨0xA8, 1, 4, .rw, 0x0, 0xFFFFFFFF, true⟩,  -- TIME_CORR_WEST_TX
  ⟨0xAC, 1, 4, .rw, 0x0, 0xFFFFFFFF, true⟩,  -- TIME_CORR_WEST_RX
  ⟨0xB0, 1, 4, .ro, 0x0, 0x0, false⟩,  -- TIME_LINK_DELAY_EAST
  ⟨0xB4, 1, 4, .ro, 0x0, 0x0, false⟩]  -- TIME_LINK_DELAY_WEST

/-- The words of the angle block (R116). -/
def angleRows : List RegRow := [
  ⟨0x0, 1, 4, .rw, 0x1, 0x1, true⟩,  -- ANGLE_UNIT_CTRL
  ⟨0x10, 1, 4, .sq, 0x0, 0xFF00000F, false⟩,  -- ANGLE_EVENTS
  ⟨0x14, 1, 4, .ro, 0x0, 0x0, false⟩,  -- ANGLE_STATE
  ⟨0x18, 1, 4, .rw, 0x0, 0xFFFFFF07, true⟩,  -- ANGLE_CTRL
  ⟨0x1C, 1, 4, .rw, 0x0, 0xFFFFFFFF, true⟩,  -- ANGLE_REF_OFFSET
  ⟨0x20, 1, 4, .rw, 0x123456, 0xFFFFFFFF, true⟩,  -- ANGLE_JUMP_LIMIT
  ⟨0x30, 1, 4, .ro, 0x0, 0x0, false⟩,  -- ANGLE_NOW
  ⟨0x34, 1, 4, .ro, 0x0, 0x0, false⟩,  -- ANGLE_CYCLE
  ⟨0x38, 1, 4, .ro, 0x0, 0x0, false⟩,  -- ANGLE_FREQ
  ⟨0x3C, 1, 4, .ro, 0x0, 0x0, false⟩,  -- ANGLE_T0_NS_LO
  ⟨0x40, 1, 4, .ro, 0x0, 0x0, false⟩,  -- ANGLE_T0_NS_HI
  ⟨0x44, 1, 4, .ro, 0x0, 0x0, false⟩,  -- ANGLE_T0_FRAC
  ⟨0x48, 1, 4, .ro, 0x0, 0x0, false⟩,  -- ANGLE_LAST_JUMP
  ⟨0x4C, 1, 4, .ro, 0x0, 0x0, false⟩,  -- ANGLE_UNLOCK_COUNT
  ⟨0x50, 1, 4, .rw, 0x0, 0xFFFFFFFF, false⟩,  -- ANGLE_SV_SECOND
  ⟨0x54, 1, 4, .rw, 0x0, 0xFFFFFF, false⟩,  -- ANGLE_SV_META
  ⟨0x58, 1, 4, .rw, 0xFA0, 0xFFFFFF, false⟩,  -- ANGLE_SV_RATE
  ⟨0x5C, 1, 4, .wo, 0x0, 0x0, false⟩,  -- ANGLE_SV_PUSH
  ⟨0x60, 1, 4, .ro, 0x0, 0x0, false⟩]  -- ANGLE_SV_DROP_COUNT

/-- The words of the ephem block (R135). -/
def ephemRows : List RegRow := [
  ⟨0x0, 1, 4, .rw, 0x0, 0x1, true⟩,  -- EPHEM_UNIT_CTRL
  ⟨0x10, 1, 4, .sq, 0x0, 0xFF00003F, false⟩,  -- EPHEM_EVENTS
  ⟨0x14, 1, 4, .ro, 0x0, 0x0, false⟩,  -- EPHEM_STATUS
  ⟨0x18, 1, 4, .rw, 0x140, 0xFFF3, true⟩,  -- EPHEM_CTRL
  ⟨0x20, 1, 4, .ro, 0x0, 0x0, false⟩,  -- EPHEM_LAST_LATE
  ⟨0x24, 1, 4, .ro, 0x0, 0x0, false⟩,  -- EPHEM_LATE_BY
  ⟨0x28, 1, 4, .ro, 0x0, 0x0, false⟩,  -- EPHEM_LATE_COUNT
  ⟨0x2C, 1, 4, .ro, 0x0, 0x0, false⟩,  -- EPHEM_MISS_COUNT
  ⟨0x8000, 8192, 4, .tb, 0x0, 0xFFFFFFFF, true⟩]  -- EPHEM_TEMPLATE_i

/-- The words of the bank block (R137, R146). -/
def bankRows : List RegRow := [
  ⟨0x100, 32, 4, .rw, 0x0, 0xFFFF3F7F, true⟩,  -- PIN_CFGp
  ⟨0x0, 1, 4, .rw, 0x0, 0x1, true⟩,  -- BANK_UNIT_CTRL
  ⟨0x10, 1, 4, .sq, 0x0, 0xFF000007, false⟩,  -- BANK_EVENTS
  ⟨0x14, 1, 4, .ro, 0x0, 0x0, false⟩,  -- BANK_STATUS
  ⟨0x18, 1, 4, .ro, 0x0, 0x0, false⟩,  -- BANK_LEVEL
  ⟨0x1C, 1, 4, .ro, 0x0, 0x0, false⟩,  -- BANK_RAW
  ⟨0x20, 1, 4, .rw, 0x1, 0x1, true⟩,  -- BANK_CTRL
  ⟨0x24, 1, 4, .rw, 0x0, 0xFFFFFFFF, true⟩,  -- BANK_GPIO_OUT
  ⟨0x28, 1, 4, .rw, 0x0, 0xFFFFFFFF, true⟩,  -- BANK_CHAT
  ⟨0x2C, 1, 4, .rw, 0x0, 0x7F, true⟩,  -- BANK_EVT_CTRL
  ⟨0x30, 1, 4, .ro, 0x0, 0x0, false⟩,  -- BANK_EVT_LOST_COUNT
  ⟨0x40, 1, 4, .wo, 0x0, 0x0, false⟩,  -- BANK_ENG_START
  ⟨0x44, 1, 4, .wo, 0x0, 0x0, false⟩,  -- BANK_ENG_STOP
  ⟨0x48, 1, 4, .ro, 0x0, 0x0, false⟩,  -- BANK_ENG_EVENT
  ⟨0x2000, 256, 4, .tb, 0x0, 0xFFFF, true⟩]  -- PROG_a

/-- The words of the engine block (R164). -/
def engineRows : List RegRow := [
  ⟨0x0, 1, 4, .rw, 0x0, 0x1, true⟩,  -- ENG_UNIT_CTRL
  ⟨0x10, 1, 4, .sq, 0x0, 0xFF00003F, false⟩,  -- ENG_EVENTS
  ⟨0x14, 1, 4, .ro, 0x0, 0x0, false⟩,  -- ENG_STATUS
  ⟨0x18, 1, 4, .ro, 0x0, 0x0, false⟩,  -- ENG_SHIFT
  ⟨0x20, 1, 4, .rw, 0x0, 0xFFFFFF, true⟩,  -- ENG_CTRL
  ⟨0x24, 1, 4, .rw, 0x100, 0x3F1F, true⟩,  -- ENG_PINS
  ⟨0x28, 1, 4, .rw, 0xFF00, 0xFFFF, true⟩,  -- ENG_WINDOW
  ⟨0x2C, 1, 4, .rw, 0x100, 0xFFFFFF, true⟩,  -- ENG_DIV
  ⟨0x30, 1, 4, .rw, 0x0, 0xFF, false⟩,  -- ENG_PC
  ⟨0x34, 1, 4, .rw, 0x0, 0xFFFFFFFF, false⟩,  -- ENG_A
  ⟨0x38, 1, 4, .rw, 0x0, 0xFFFFFFFF, false⟩,  -- ENG_B
  ⟨0x3C, 1, 4, .rw, 0x0, 0xFFFFFFFF, false⟩,  -- ENG_SO
  ⟨0x40, 1, 4, .rw, 0x0, 0xFFFFFFFF, false⟩,  -- ENG_SI
  ⟨0x44, 1, 4, .wo, 0x0, 0x0, false⟩,  -- ENG_INJECT
  ⟨0x48, 1, 4, .wo, 0x0, 0x0, false⟩,  -- ENG_TXF
  ⟨0x4C, 1, 4, .ro, 0x0, 0x0, false⟩,  -- ENG_RXF
  ⟨0x50, 1, 4, .rw, 0x0, 0xFFFF, true⟩,  -- ENG_FIFO_CTRL
  ⟨0x54, 1, 4, .rw, 0x0, 0xFF7F7F, true⟩,  -- ENG_QBIND
  ⟨0x58, 1, 4, .ro, 0x0, 0x0, false⟩,  -- ENG_STALE_COUNT
  ⟨0x5C, 1, 4, .ro, 0x0, 0x0, false⟩,  -- ENG_DISCARD_COUNT
  ⟨0x60, 1, 4, .rw, 0x0, 0xFFFFFFFF, false⟩,  -- ENG_PINDIR
  ⟨0x64, 1, 4, .rw, 0x0, 0x7F, true⟩]  -- ENG_SCLK

/-- The words of the can block (R179). -/
def canRows : List RegRow := [
  ⟨0x0, 1, 4, .rw, 0x0, 0x1, true⟩,  -- CAN_UNIT_CTRL
  ⟨0x10, 1, 4, .sq, 0x0, 0xFF0007FF, false⟩,  -- CAN_EVENTS
  ⟨0x14, 1, 4, .ro, 0x0, 0x0, false⟩,  -- CAN_STATUS
  ⟨0x18, 1, 4, .rw, 0x1, 0x3FF, true⟩,  -- CAN_CTRL
  ⟨0x1C, 1, 4, .rw, 0x100, 0x3F1F1F, true⟩,  -- CAN_PINS
  ⟨0x20, 1, 4, .rw, 0x0, 0xFFFFFF1F, true⟩,  -- CAN_NBT
  ⟨0x24, 1, 4, .rw, 0x0, 0x1F7FFFFF, true⟩,  -- CAN_DBT
  ⟨0x28, 1, 4, .rw, 0x1, 0xFF3F, true⟩,  -- CAN_WAKE
  ⟨0x2C, 1, 4, .rw, 0x0, 0x3FFFFFFF, true⟩,  -- CAN_WUF_ID
  ⟨0x30, 1, 4, .rw, 0x0, 0x1FFFFFFF, true⟩,  -- CAN_WUF_MASK
  ⟨0x34, 1, 4, .rw, 0x0, 0xFF1F, true⟩,  -- CAN_WUF_CTRL
  ⟨0x38, 1, 4, .rw, 0x0, 0xFFFFFFFF, true⟩,  -- CAN_WUF_DATA_LO
  ⟨0x3C, 1, 4, .rw, 0x0, 0xFFFFFFFF, true⟩,  -- CAN_WUF_DATA_HI
  ⟨0x40, 1, 4, .wo, 0x0, 0x0, false⟩,  -- CAN_TXADD
  ⟨0x44, 1, 4, .wo, 0x0, 0x0, false⟩,  -- CAN_TXCANCEL
  ⟨0x48, 1, 4, .ro, 0x0, 0x0, false⟩,  -- CAN_TXPEND
  ⟨0x4C, 1, 4, .ro, 0x0, 0x0, false⟩,  -- CAN_TXOK
  ⟨0x50, 1, 4, .ro, 0x0, 0x0, false⟩,  -- CAN_TXCNCL
  ⟨0x54, 1, 4, .ro, 0x0, 0x0, false⟩,  -- CAN_RXF
  ⟨0x58, 1, 4, .rw, 0x0, 0x7F, true⟩,  -- CAN_QBIND
  ⟨0x5C, 1, 4, .rw, 0x0, 0x3F3F3F, true⟩,  -- CAN_FLT_CFG
  ⟨0x60, 1, 4, .ro, 0x0, 0x0, false⟩,  -- CAN_TDC_MEAS
  ⟨0x64, 1, 4, .ro, 0x0, 0x0, false⟩,  -- CAN_RX_LOST_COUNT
  ⟨0x68, 1, 4, .ro, 0x0, 0x0, false⟩]  -- CAN_ERR_COUNT

/-- The words of the uart block (R185). -/
def uartRows : List RegRow := [
  ⟨0x0, 1, 4, .rw, 0x0, 0x1, true⟩,  -- UART_UNIT_CTRL
  ⟨0x10, 1, 4, .sq, 0x0, 0xFF0003FF, false⟩,  -- UART_EVENTS
  ⟨0x14, 1, 4, .ro, 0x0, 0x0, false⟩,  -- UART_STATUS
  ⟨0x18, 1, 4, .rw, 0xC, 0x7FF, true⟩,  -- UART_CTRL
  ⟨0x1C, 1, 4, .rw, 0x100, 0x3F3F1F1F, true⟩,  -- UART_PINS
  ⟨0x20, 1, 4, .rw, 0xA00, 0xFFFFF, true⟩,  -- UART_DIV
  ⟨0x24, 1, 4, .rw, 0x0, 0xFFFF, true⟩,  -- UART_DE
  ⟨0x28, 1, 4, .rw, 0x0, 0xFFFFFFFF, true⟩,  -- UART_GAP
  ⟨0x2C, 1, 4, .rw, 0x0, 0x7F7F, true⟩,  -- UART_QBIND
  ⟨0x30, 1, 4, .wo, 0x0, 0x0, false⟩,  -- UART_TXF
  ⟨0x34, 1, 4, .ro, 0x0, 0x0, false⟩,  -- UART_RXF
  ⟨0x38, 1, 4, .ro, 0x0, 0x0, false⟩]  -- UART_ERR_COUNT

/-- The words of the link block (R213). -/
def linkRows : List RegRow := [
  ⟨0x0, 1, 4, .rw, 0x0, 0x1, true⟩,  -- LINK_UNIT_CTRL
  ⟨0x10, 1, 4, .sq, 0x0, 0xFF0001FF, false⟩,  -- LINK_EVENTS
  ⟨0x14, 1, 4, .ro, 0x0, 0x0, false⟩,  -- LINK_STATUS
  ⟨0x18, 1, 4, .rw, 0x5, 0x37, true⟩,  -- LINK_CTRL
  ⟨0x1C, 1, 4, .rw, 0xFF, 0x3FFF, true⟩,  -- LINK_NEIGHBOUR
  ⟨0x20, 1, 4, .rw, 0x1F4, 0x3FF, true⟩,  -- LINK_REPLAY_CTRL
  ⟨0x24, 1, 4, .rw, 0x2, 0x7, true⟩,  -- LINK_AM_CTRL
  ⟨0x28, 1, 4, .rw, 0x64, 0xFFFF, true⟩,  -- LINK_BER_CTRL
  ⟨0x2C, 1, 4, .rw, 0x0, 0x3, true⟩,  -- LINK_LOOPBACK
  ⟨0x30, 1, 4, .rw, 0x0, 0x7, true⟩,  -- LINK_TEST
  ⟨0x40, 4, 4, .ro, 0x0, 0x0, false⟩,  -- LINK_CODE_ERR_l
  ⟨0x50, 1, 4, .ro, 0x0, 0x0, false⟩,  -- LINK_CRC_ERR_COUNT
  ⟨0x54, 1, 4, .ro, 0x0, 0x0, false⟩,  -- LINK_REPLAY_COUNT
  ⟨0x58, 1, 4, .ro, 0x0, 0x0, false⟩,  -- LINK_NAK_COUNT
  ⟨0x5C, 1, 4, .ro, 0x0, 0x0, false⟩,  -- LINK_TRAIN_FAIL_COUNT
  ⟨0x60, 1, 4, .ro, 0x0, 0x0, false⟩,  -- LINK_SKIP_COUNT
  ⟨0x64, 1, 4, .ro, 0x0, 0x0, false⟩,  -- LINK_TEST_ERR_COUNT
  ⟨0x68, 1, 4, .ro, 0x0, 0x0, false⟩,  -- LINK_RTT
  ⟨0x100, 1, 4, .rw, 0xA050A00, 0xFFFFFF03, true⟩,  -- LINK_BYPASS_CTRL
  ⟨0x104, 1, 4, .ro, 0x0, 0x0, false⟩]  -- LINK_BYPASS_STATUS

/-- The words of the ring block (R242). -/
def ringRows : List RegRow := [
  ⟨0x0, 1, 4, .rw, 0x0, 0x1, true⟩,  -- RING_UNIT_CTRL
  ⟨0x10, 1, 4, .sq, 0x0, 0xFF0003FF, false⟩,  -- RING_EVENTS
  ⟨0x14, 1, 4, .ro, 0x0, 0x0, false⟩,  -- RING_STATUS
  ⟨0x18, 1, 4, .rw, 0x10000FF, 0x3FF0FFF, true⟩,  -- RING_CTRL
  ⟨0x1C, 1, 4, .gd, 0x0, 0x3, true⟩,  -- RING_CMD
  ⟨0x20, 1, 4, .gword, 0x0, 0x0, false⟩,  -- RING_CMD_G
  ⟨0x24, 1, 4, .rw, 0x64, 0x3FF, true⟩,  -- RING_REORDER
  ⟨0x28, 1, 4, .rw, 0xFF, 0xFF, true⟩,  -- RING_PAIR
  ⟨0x2C, 1, 4, .rw, 0xFF00, 0xFFF1, true⟩,  -- RING_BRIDGE
  ⟨0x40, 16, 4, .rw, 0xFF, 0xFF, true⟩,  -- RING_ROUTE_r
  ⟨0x80, 1, 4, .ro, 0x0, 0x0, false⟩,  -- RING_DUP_COUNT
  ⟨0x84, 1, 4, .ro, 0x0, 0x0, false⟩,  -- RING_DUP_OLD_COUNT
  ⟨0x88, 1, 4, .ro, 0x0, 0x0, false⟩,  -- RING_OVERRUN_COUNT
  ⟨0x8C, 1, 4, .ro, 0x0, 0x0, false⟩,  -- RING_RETURN_COUNT
  ⟨0x90, 1, 4, .ro, 0x0, 0x0, false⟩,  -- RING_ORPHAN_COUNT
  ⟨0x94, 1, 4, .ro, 0x0, 0x0, false⟩,  -- RING_BREAK_DROP_COUNT
  ⟨0x98, 1, 4, .ro, 0x0, 0x0, false⟩,  -- RING_TRANSIT_DROP_COUNT
  ⟨0x9C, 1, 4, .ro, 0x0, 0x0, false⟩,  -- RING_HDR_ERR_COUNT
  ⟨0xA0, 1, 4, .ro, 0x0, 0x0, false⟩,  -- RING_REORDER_GAP_COUNT
  ⟨0x100, 8, 4, .ro, 0x0, 0x0, false⟩,  -- RING_PRESENT_i
  ⟨0x400, 254, 4, .tb, 0xFF, 0xFF, true⟩]  -- RING_ORDER_i

/-- The words of the bridge block (R259, R76). -/
def bridgeRows : List RegRow := [
  ⟨0x0, 1, 4, .rw, 0x0, 0x1, true⟩,  -- BRIDGE_UNIT_CTRL
  ⟨0x10, 1, 4, .sq, 0x0, 0xFF00003F, false⟩,  -- BRIDGE_EVENTS
  ⟨0x14, 1, 4, .ro, 0x100, 0x0, false⟩,  -- BRIDGE_STATUS
  ⟨0x18, 1, 4, .rw, 0x32, 0xFFFF, true⟩,  -- BRIDGE_TXN_TIMEOUT
  ⟨0x1C, 1, 4, .rw, 0x3E8, 0xFFFF, true⟩,  -- BRIDGE_DEADLINE
  ⟨0x20, 1, 4, .rw, 0x3E8, 0xFFFF, true⟩,  -- BRIDGE_HOST_LIMIT
  ⟨0x24, 1, 4, .rw, 0x640002, 0xFFFFFFFF, true⟩,  -- BRIDGE_RETRY
  ⟨0x28, 1, 4, .rw, 0xA, 0xFFFF, true⟩,  -- BRIDGE_SEM_LEASE
  ⟨0x30, 1, 4, .sq, 0x0, 0xFF000003, false⟩,  -- BRIDGE_TXN_STATUS
  ⟨0x34, 1, 4, .ro, 0x0, 0x0, false⟩,  -- BRIDGE_TXN_ADDR_LO
  ⟨0x38, 1, 4, .ro, 0x0, 0x0, false⟩,  -- BRIDGE_TXN_ADDR_HI
  ⟨0x3C, 1, 4, .ro, 0x0, 0x0, false⟩,  -- BRIDGE_TXN_INFO
  ⟨0x40, 1, 4, .ro, 0x0, 0x0, false⟩,  -- BRIDGE_TXN_COUNT
  ⟨0x80, 1, 4, .ro, 0x0, 0x0, false⟩,  -- BRIDGE_RETRY_SENT_COUNT
  ⟨0x84, 1, 4, .ro, 0x0, 0x0, false⟩,  -- BRIDGE_REISSUE_COUNT
  ⟨0x88, 1, 4, .ro, 0x0, 0x0, false⟩,  -- BRIDGE_HOLD_EXPIRED_COUNT
  ⟨0x8C, 1, 4, .ro, 0x0, 0x0, false⟩,  -- BRIDGE_LATE_DISCARD_COUNT
  ⟨0x90, 1, 4, .ro, 0x0, 0x0, false⟩,  -- BRIDGE_YIELD_COUNT
  ⟨0x94, 1, 4, .ro, 0x0, 0x0, false⟩,  -- BRIDGE_SEM_DENY_COUNT
  ⟨0x300, 32, 4, .rw, 0x0, 0xFFFFFFFF, false⟩,  -- BRIDGE_SEM_n
  ⟨0x200, 1, 4, .sq, 0x0, 0xFF000003, false⟩,  -- BRIDGE_PWF_STATUS
  ⟨0x204, 1, 4, .ro, 0x0, 0x0, false⟩,  -- BRIDGE_PWF_ADDR_LO
  ⟨0x208, 1, 4, .ro, 0x0, 0x0, false⟩,  -- BRIDGE_PWF_ADDR_HI
  ⟨0x20C, 1, 4, .ro, 0x0, 0x0, false⟩,  -- BRIDGE_PWF_INFO
  ⟨0x210, 1, 4, .ro, 0x0, 0x0, false⟩]  -- BRIDGE_PWF_COUNT

/-- The words of the sta block (R304, R306). -/
def staRows : List RegRow := [
  ⟨0x200, 1, 4, .rw, 0xFF00, 0xFF01, true⟩,  -- STA_GATE_CTRL
  ⟨0x204, 1, 4, .rw, 0x0, 0xFFFFFFFF, true⟩,  -- STA_GATE_ADMIN_BASE_LO
  ⟨0x208, 1, 4, .rw, 0x0, 0xFFFFFFFF, true⟩,  -- STA_GATE_ADMIN_BASE_HI
  ⟨0x20C, 1, 4, .rw, 0xF4240, 0xFFFFFFFF, true⟩,  -- STA_GATE_ADMIN_CYCLE
  ⟨0x210, 1, 4, .rw, 0x1, 0x7FF, true⟩,  -- STA_GATE_ADMIN_LEN
  ⟨0x214, 1, 4, .gd, 0x0, 0x1, true⟩,  -- STA_GATE_CMD
  ⟨0x218, 1, 4, .gword, 0x0, 0x0, false⟩,  -- STA_GATE_CMD_G
  ⟨0x21C, 1, 4, .sq, 0x0, 0xFF00000F, false⟩,  -- STA_GATE_EVENTS
  ⟨0x220, 1, 4, .ro, 0xFF, 0x0, false⟩,  -- STA_GATE_STATUS
  ⟨0x224, 1, 4, .ro, 0x0, 0x0, false⟩,  -- STA_GATE_OPER_BASE_LO
  ⟨0x228, 1, 4, .ro, 0x0, 0x0, false⟩,  -- STA_GATE_OPER_BASE_HI
  ⟨0x22C, 1, 4, .ro, 0x0, 0x0, false⟩,  -- STA_GATE_OPER_CYCLE
  ⟨0x230, 1, 4, .ro, 0x0, 0x0, false⟩,  -- STA_GATE_OPER_LEN
  ⟨0x234, 1, 4, .ro, 0x0, 0x0, false⟩,  -- STA_GATE_CHANGE_TIME_LO
  ⟨0x238, 1, 4, .ro, 0x0, 0x0, false⟩,  -- STA_GATE_CHANGE_TIME_HI
  ⟨0x23C, 1, 4, .ro, 0x0, 0x0, false⟩,  -- STA_GATE_OVERRUN_COUNT
  ⟨0x300, 1, 4, .rw, 0x1900000, 0xFFFF3F03, true⟩,  -- PRP_CTRL
  ⟨0x304, 1, 4, .sq, 0x0, 0xFF000007, false⟩,  -- PRP_EVENTS
  ⟨0x308, 1, 4, .rw, 0x0, 0xFFFFFFFF, true⟩,  -- PRP_MAC_LO
  ⟨0x30C, 1, 4, .rw, 0x0, 0xFFFFFF, true⟩,  -- PRP_MAC_HI
  ⟨0x310, 1, 4, .ro, 0x0, 0x0, false⟩,  -- PRP_TX_SEQ
  ⟨0x314, 1, 4, .ro, 0x0, 0x0, false⟩,  -- PRP_DUP_COUNT
  ⟨0x318, 1, 4, .ro, 0x0, 0x0, false⟩,  -- PRP_WRONG_LAN_COUNT
  ⟨0x31C, 1, 4, .ro, 0x0, 0x0, false⟩,  -- PRP_UNKNOWN_COUNT
  ⟨0x320, 1, 4, .ro, 0x0, 0x0, false⟩,  -- PRP_RESTART_COUNT
  ⟨0x1000, 1024, 4, .tb, 0x0, 0xFFFFFFFF, true⟩,  -- STA_GCL_ADMIN_i
  ⟨0x2000, 1024, 4, .ro, 0x0, 0x0, false⟩,  -- STA_GCL_OPER_i
  ⟨0x0, 1, 4, .rw, 0x0, 0x1, true⟩,  -- STA_UNIT_CTRL
  ⟨0x10, 1, 4, .sq, 0x0, 0xFF00000F, false⟩,  -- STA_EVENTS
  ⟨0x14, 1, 4, .ro, 0x0, 0x0, false⟩,  -- STA_STATUS
  ⟨0x18, 1, 4, .rw, 0x0, 0x1, true⟩,  -- STA_CTRL
  ⟨0x20, 1, 4, .ro, 0x0, 0x0, false⟩,  -- STA_RX_FRAMES
  ⟨0x24, 1, 4, .ro, 0x0, 0x0, false⟩,  -- STA_RX_FCS_ERR_COUNT
  ⟨0x28, 1, 4, .ro, 0x0, 0x0, false⟩,  -- STA_RX_RUNT_COUNT
  ⟨0x2C, 1, 4, .ro, 0x0, 0x0, false⟩,  -- STA_RX_CTRL_COUNT
  ⟨0x30, 1, 4, .ro, 0x0, 0x0, false⟩,  -- STA_RX_CODE_ERR_COUNT
  ⟨0x34, 1, 4, .ro, 0x0, 0x0, false⟩,  -- STA_TX_FRAMES
  ⟨0x38, 1, 4, .ro, 0x0, 0x0, false⟩]  -- STA_TX_DISCARD_COUNT

/-- The words of the switch block (R275). -/
def switchRows : List RegRow := [
  ⟨0x0, 1, 4, .rw, 0x0, 0x1, true⟩,  -- SW_UNIT_CTRL
  ⟨0x10, 1, 4, .sq, 0x0, 0xFF00000F, false⟩,  -- SW_EVENTS
  ⟨0x14, 1, 4, .ro, 0x0, 0x0, false⟩,  -- SW_STATUS
  ⟨0x18, 1, 4, .rw, 0x90000F, 0x1FF00FF, true⟩,  -- SW_CTRL
  ⟨0x20, 1, 4, .ro, 0x14000, 0x0, false⟩,  -- SW_FREE_CELLS
  ⟨0x24, 1, 4, .ro, 0x0, 0x0, false⟩,  -- SW_USED_CELLS
  ⟨0x100, 64, 4, .rw, 0x930100, 0xF7FFFF, true⟩,  -- SW_QCFG_q
  ⟨0x400, 64, 16, .rw, 0xFFFFFF, 0xFFFFFFFF, true⟩,  -- SW_RED_q_k@0
  ⟨0x404, 64, 16, .rw, 0xFFFFFF, 0xFFFFFFFF, true⟩,  -- SW_RED_q_k@1
  ⟨0x408, 64, 16, .rw, 0xFFFFFF, 0xFFFFFFFF, true⟩,  -- SW_RED_q_k@2
  ⟨0x800, 8, 64, .ro, 0x0, 0x0, false⟩,  -- SW_PORT_RX_FRAMES_p
  ⟨0x804, 8, 64, .ro, 0x0, 0x0, false⟩,  -- SW_PORT_TX_FRAMES_p
  ⟨0x808, 8, 64, .ro, 0x0, 0x0, false⟩,  -- SW_PORT_TAIL_MARKED_p
  ⟨0x80C, 8, 64, .ro, 0x0, 0x0, false⟩,  -- SW_PORT_TAIL_DUP_p
  ⟨0x810, 8, 64, .ro, 0x0, 0x0, false⟩,  -- SW_PORT_DROP_LIMIT_p
  ⟨0x814, 8, 64, .ro, 0x0, 0x0, false⟩,  -- SW_PORT_DROP_BUFFER_p
  ⟨0x818, 8, 64, .ro, 0x0, 0x0, false⟩,  -- SW_PORT_DROP_BAD_p
  ⟨0x1000, 64, 16, .ro, 0x0, 0x0, false⟩,  -- SW_Q_ENQ_q
  ⟨0x1004, 64, 16, .ro, 0x0, 0x0, false⟩,  -- SW_Q_DROP_GREEN_q
  ⟨0x1008, 64, 16, .ro, 0x0, 0x0, false⟩,  -- SW_Q_DROP_YELLOW_q
  ⟨0x100C, 64, 16, .ro, 0x0, 0x0, false⟩,  -- SW_Q_DROP_RED_q
  ⟨0x1400, 64, 8, .ro, 0x0, 0x0, false⟩,  -- SW_Q_DEPTH_q
  ⟨0x1404, 64, 8, .ro, 0x0, 0x0, false⟩]  -- SW_Q_AVG_q

/-- The words of the capture block (R279). -/
def captureRows : List RegRow := [
  ⟨0x0, 1, 4, .rw, 0x0, 0xFFFF, true⟩,  -- CAP_CTRL_c
  ⟨0x4, 1, 4, .rw, 0x0, 0xFFFF0000, true⟩,  -- CAP_BASE_LO_c
  ⟨0x8, 1, 4, .rw, 0x0, 0x3, true⟩,  -- CAP_BASE_HI_c
  ⟨0xC, 1, 4, .rw, 0x1, 0x3FFFF, true⟩,  -- CAP_SIZE_c
  ⟨0x10, 1, 4, .ro, 0x0, 0x0, false⟩,  -- CAP_WR_c
  ⟨0x14, 1, 4, .rw, 0x0, 0xFFFFFFFF, false⟩,  -- CAP_RD_c
  ⟨0x18, 1, 4, .sq, 0x0, 0xFF00000F, false⟩,  -- CAP_EVENTS_c
  ⟨0x1C, 1, 4, .ro, 0x0, 0x0, false⟩,  -- CAP_DROP_COUNT_c
  ⟨0x20, 1, 4, .ro, 0x0, 0x0, false⟩,  -- CAP_OVERWRITE_COUNT_c
  ⟨0x24, 1, 4, .ro, 0x0, 0x0, false⟩]  -- CAP_CSEQ_c

/-- The words of the traffic block (R303). -/
def trafficRows : List RegRow := [
  ⟨0x0, 1, 4, .rw, 0x0, 0x1, true⟩,  -- TRF_UNIT_CTRL
  ⟨0x10, 1, 4, .sq, 0x0, 0xFF000003, false⟩,  -- TRF_EVENTS
  ⟨0x18, 1, 4, .rw, 0x0, 0x1, true⟩,  -- TRF_CTRL
  ⟨0x100, 64, 4, .rw, 0x0, 0x3FF, true⟩,  -- TRF_QSHAPER_q
  ⟨0x4000, 512, 16, .rw, 0x0, 0xFFFFFF, true⟩,  -- TRF_SH_RATE_s
  ⟨0x4004, 512, 16, .rw, 0x0, 0xFFFFFF, true⟩,  -- TRF_SH_BURST_s
  ⟨0x4008, 512, 16, .rw, 0x0, 0x1, true⟩,  -- TRF_SH_CTRL_s
  ⟨0x400C, 512, 16, .ro, 0x0, 0x0, false⟩,  -- TRF_SH_TOKENS_s
  ⟨0x8000, 1024, 32, .rw, 0x0, 0xFFFFFF, true⟩,  -- TRF_POL_CIR_p
  ⟨0x8004, 1024, 32, .rw, 0x0, 0xFFFFFF, true⟩,  -- TRF_POL_PIR_p
  ⟨0x8008, 1024, 32, .rw, 0x0, 0xFFFFFFFF, true⟩,  -- TRF_POL_BURST_p
  ⟨0x800C, 1024, 32, .rw, 0x0, 0x1, true⟩,  -- TRF_POL_CTRL_p
  ⟨0x8010, 1024, 32, .ro, 0x0, 0x0, false⟩,  -- TRF_POL_GREEN_p
  ⟨0x8014, 1024, 32, .ro, 0x0, 0x0, false⟩,  -- TRF_POL_YELLOW_p
  ⟨0x8018, 1024, 32, .ro, 0x0, 0x0, false⟩]  -- TRF_POL_RED_p

/-- The words of the classify block (R302). -/
def classifyRows : List RegRow := [
  ⟨0x0, 1, 4, .rw, 0x0, 0x1, true⟩,  -- CLASS_UNIT_CTRL
  ⟨0x10, 1, 4, .sq, 0x0, 0xFF00000F, false⟩,  -- CLASS_EVENTS
  ⟨0x20, 7, 4, .rw, 0x1, 0x7FFFFF, true⟩,  -- CLASS_PORT_CFG_p
  ⟨0x40, 8, 8, .gd, 0x0, 0xFF, true⟩,  -- CLASS_ZONE_ALLOW_z
  ⟨0x44, 8, 8, .gword, 0x0, 0x0, false⟩,  -- CLASS_ZONE_ALLOW_z_G
  ⟨0x80, 1, 4, .rw, 0xFAC688, 0xFFFFFF, true⟩,  -- CLASS_PCP_MAP
  ⟨0x400, 64, 16, .rw, 0xFFFFFFFF, 0xFFFFFFFF, true⟩,  -- CLASS_NODELIST_i_k@0
  ⟨0x404, 64, 16, .rw, 0xFFFFFFFF, 0xFFFFFFFF, true⟩,  -- CLASS_NODELIST_i_k@1
  ⟨0x408, 64, 16, .rw, 0xFFFFFFFF, 0xFFFFFFFF, true⟩,  -- CLASS_NODELIST_i_k@2
  ⟨0x40C, 64, 16, .rw, 0xFFFFFFFF, 0xFFFFFFFF, true⟩,  -- CLASS_NODELIST_i_k@3
  ⟨0x200, 8, 4, .ro, 0x0, 0x0, false⟩,  -- CLASS_FW_DENY_COUNT_z
  ⟨0x240, 8, 4, .ro, 0x0, 0x0, false⟩,  -- CLASS_MISS_COUNT_p
  ⟨0x260, 1, 4, .ro, 0x0, 0x0, false⟩,  -- CLASS_RING_LONG_COUNT
  ⟨0x264, 1, 4, .ro, 0x0, 0x0, false⟩]  -- CLASS_DUP_KEY_COUNT

/-- The words of the core block (R330). -/
def coreRows : List RegRow := [
  ⟨0x0, 1, 4, .rw, 0x0, 0x1, true⟩,  -- SVC_UNIT_CTRL
  ⟨0x10, 1, 4, .sq, 0x0, 0xFF00000F, false⟩,  -- SVC_EVENTS
  ⟨0x14, 1, 4, .ro, 0x0, 0x0, false⟩,  -- SVC_STATUS
  ⟨0x18, 1, 4, .rw, 0x0, 0x3, true⟩,  -- SVC_CTRL
  ⟨0x1C, 1, 4, .wo, 0x0, 0x0, false⟩,  -- SVC_CMD
  ⟨0x20, 1, 4, .rw, 0x0, 0xFFFFFFFF, true⟩,  -- SVC_RESET_PC
  ⟨0x24, 1, 4, .rw, 0x0, 0xFFFFFFFF, false⟩,  -- SVC_PC
  ⟨0x28, 1, 4, .rw, 0x0, 0xFFFF, true⟩,  -- SVC_WDOG
  ⟨0x2C, 1, 4, .rw, 0x0, 0xFFFFFFFF, false⟩,  -- SVC_DOORBELL
  ⟨0x30, 1, 4, .rw, 0x0, 0xFFFFFFFF, true⟩,  -- SVC_QMASK_LO
  ⟨0x34, 1, 4, .rw, 0x0, 0xFFFFFFFF, true⟩,  -- SVC_QMASK_HI
  ⟨0x38, 1, 4, .rw, 0x0, 0xFFFFFFFF, true⟩,  -- SVC_ESMASK
  ⟨0x40, 1, 4, .ro, 0x0, 0x0, false⟩,  -- SVC_CYCLE_LO
  ⟨0x44, 1, 4, .ro, 0x0, 0x0, false⟩,  -- SVC_CYCLE_HI
  ⟨0x100, 32, 4, .rw, 0x0, 0xFFFFFFFF, false⟩,  -- SVC_GREG_i
  ⟨0x180, 12, 4, .rw, 0x0, 0xFFFFFFFF, false⟩,  -- SVC_SREG_0 to 11
  ⟨0x1B0, 1, 4, .rw, 0xA001, 0xFFFFFFFF, false⟩,  -- SVC_SREG_12, CRC16POLY
  ⟨0x1B4, 5, 4, .rw, 0x0, 0xFFFFFFFF, false⟩,  -- SVC_SREG_13 to 17
  ⟨0x200, 4, 8, .rw, 0x0, 0xFFFFFFFF, true⟩,  -- SVC_BP_ADDR_b
  ⟨0x204, 4, 8, .rw, 0x0, 0x1, true⟩]  -- SVC_BP_CTRL_b

/-- The words of the queue block (R341). -/
def queueRows : List RegRow := [
  ⟨0x0, 1, 4, .rw, 0x0, 0x1, true⟩,  -- Q_UNIT_CTRL
  ⟨0x10, 1, 4, .sq, 0x0, 0xFF00001F, false⟩,  -- Q_EVENTS
  ⟨0x14, 1, 4, .ro, 0x0, 0x0, false⟩,  -- Q_STATUS
  ⟨0x18, 1, 4, .rw, 0x0, 0xFFFFFF, true⟩,  -- Q_CFG
  ⟨0x1C, 1, 4, .rw, 0x0, 0xFFFFFFFF, true⟩,  -- Q_ENDS
  ⟨0x20, 1, 4, .rw, 0x0, 0x1FF, true⟩,  -- Q_CTRL
  ⟨0x24, 1, 4, .wo, 0x0, 0x0, false⟩,  -- Q_PUSH
  ⟨0x28, 1, 4, .wo, 0x0, 0x0, false⟩,  -- Q_PUSH_END
  ⟨0x2C, 1, 4, .wo, 0x0, 0x0, false⟩,  -- Q_PUSH_ABORT
  ⟨0x30, 1, 4, .ro, 0x0, 0x0, false⟩,  -- Q_POP
  ⟨0x34, 1, 4, .ro, 0x3, 0x0, false⟩,  -- Q_POPMARK
  ⟨0x38, 1, 4, .wo, 0x0, 0x0, false⟩,  -- Q_DROPPKT
  ⟨0x40, 1, 4, .ro, 0x0, 0x0, false⟩,  -- Q_LEVEL
  ⟨0x44, 1, 4, .ro, 0x0, 0x0, false⟩,  -- Q_PKTS
  ⟨0x50, 1, 4, .ro, 0x0, 0x0, false⟩,  -- Q_REFUSED_COUNT
  ⟨0x54, 1, 4, .ro, 0x0, 0x0, false⟩,  -- Q_FULL_DROP_COUNT
  ⟨0x58, 1, 4, .ro, 0x0, 0x0, false⟩,  -- Q_ABORT_COUNT
  ⟨0x5C, 1, 4, .ro, 0x0, 0x0, false⟩,  -- Q_DROPPED_WORDS
  ⟨0x60, 1, 4, .ro, 0x0, 0x0, false⟩]  -- Q_HOST_STALL_COUNT

/-- The words of the queueCommon block (R342). -/
def queueCommonRows : List RegRow := [
  ⟨0x4000, 1, 4, .rw, 0x8, 0x3F, true⟩,  -- QUEUE_HOST_STALL
  ⟨0x4004, 1, 4, .rw, 0x64, 0x3FF, true⟩,  -- QUEUE_SWITCH_WAIT
  ⟨0x4008, 1, 4, .rw, 0x9C3F, 0xFFFF, true⟩]  -- QUEUE_EP_CTRL

/-- The words of the pair block (R373). -/
def pairRows : List RegRow := [
  ⟨0x0, 1, 4, .rw, 0x0, 0x1, true⟩,  -- PAIR_UNIT_CTRL
  ⟨0x10, 1, 4, .sq, 0x0, 0xFF0000FF, false⟩,  -- PAIR_EVENTS
  ⟨0x14, 1, 4, .ro, 0x0, 0x0, false⟩,  -- PAIR_STATUS
  ⟨0x18, 1, 4, .rw, 0xFF02, 0xFF07, true⟩,  -- PAIR_CTRL
  ⟨0x1C, 1, 4, .rw, 0x0, 0xFF, true⟩,  -- PAIR_RANK
  ⟨0x20, 1, 4, .rw, 0x140A, 0xFFFF, true⟩,  -- PAIR_TIMING
  ⟨0x24, 1, 4, .rw, 0x0, 0x3F, true⟩,  -- PAIR_HEALTH
  ⟨0x28, 1, 4, .rw, 0x0, 0x1F, true⟩,  -- PAIR_CMD_SEL
  ⟨0x2C, 1, 4, .rw, 0x640A00, 0xFFFFFF3F, true⟩,  -- PAIR_MIRROR_CTRL
  ⟨0x30, 1, 4, .gd, 0x0, 0x3, true⟩,  -- PAIR_CMD
  ⟨0x34, 1, 4, .gword, 0x0, 0x0, false⟩,  -- PAIR_CMD_G
  ⟨0x40, 4, 4, .ro, 0x0, 0x0, false⟩,  -- PAIR_ALIAS_c
  ⟨0x60, 1, 4, .ro, 0x0, 0x0, false⟩,  -- PAIR_TAKEOVER_COUNT
  ⟨0x64, 1, 4, .ro, 0x0, 0x0, false⟩,  -- PAIR_DUAL_COUNT
  ⟨0x68, 1, 4, .ro, 0x0, 0x0, false⟩,  -- PAIR_SUPPRESS_COUNT
  ⟨0x6C, 1, 4, .ro, 0x0, 0x0, false⟩,  -- PAIR_MIRROR_FAIL_COUNT
  ⟨0x70, 1, 4, .ro, 0x0, 0x0, false⟩,  -- PAIR_M2_WAIT_MAX
  ⟨0x400, 256, 4, .tb, 0x0, 0x80FFFFFF, true⟩]  -- PAIR_M3_LIST_i

/-- The words of the feed block (R394). -/
def feedRows : List RegRow := [
  ⟨0x0, 1, 4, .rw, 0x1, 0x1, true⟩,  -- FEED_UNIT_CTRL
  ⟨0x10, 1, 4, .sq, 0x0, 0xFF00003F, false⟩,  -- FEED_EVENTS
  ⟨0x14, 1, 4, .ro, 0x0, 0x0, false⟩,  -- FEED_STATUS
  ⟨0x18, 1, 4, .rw, 0x2004, 0xFF3F, true⟩,  -- FEED_CTRL
  ⟨0x1C, 1, 4, .ro, 0x0, 0x0, false⟩,  -- FEED_REVERSE_COUNT
  ⟨0x40, 1, 4, .rw, 0x640A00, 0xFFFFFF03, true⟩,  -- PWR_FEED_MODE
  ⟨0x44, 1, 4, .rw, 0x32, 0x7FF, true⟩,  -- PWR_LINK_HOLD
  ⟨0x48, 1, 4, .rw, 0x0, 0x1, true⟩,  -- PWR_HEALTH
  ⟨0x4C, 1, 4, .ro, 0x0, 0x0, false⟩,  -- PWR_TMEM
  ⟨0x50, 1, 4, .ro, 0x0, 0x0, false⟩]  -- PWR_STATUS

/-- The words of the group block (R395). -/
def groupRows : List RegRow := [
  ⟨0x0, 1, 4, .rw, 0x0, 0x1, true⟩,  -- GRP_UNIT_CTRL
  ⟨0x10, 1, 4, .sq, 0x0, 0xFF0000FF, false⟩,  -- GRP_EVENTS
  ⟨0x14, 1, 4, .ro, 0x0, 0x0, false⟩,  -- GRP_STATUS
  ⟨0x18, 1, 4, .gd, 0x0, 0x3, true⟩,  -- GRP_CMD
  ⟨0x1C, 1, 4, .gword, 0x0, 0x0, false⟩,  -- GRP_CMD_G
  ⟨0x20, 1, 4, .rw, 0x40600, 0x3F1FF3, true⟩,  -- GRP_CFG
  ⟨0x24, 1, 4, .rw, 0xFA03E8, 0xFFFFFF, true⟩,  -- GRP_LIMIT
  ⟨0x28, 1, 4, .rw, 0xA02710, 0x3FF1FFFF, true⟩,  -- GRP_TIMER
  ⟨0x2C, 1, 4, .rw, 0x7D003E8, 0xFFFFFFFF, true⟩,  -- GRP_ENERGY
  ⟨0x30, 1, 4, .rw, 0x2710, 0xFFFFF, true⟩,  -- GRP_SHUNT
  ⟨0x40, 1, 4, .ro, 0x0, 0x0, false⟩,  -- GRP_MEAS
  ⟨0x44, 1, 4, .ro, 0x0, 0x0, false⟩,  -- GRP_SUPPLY
  ⟨0x48, 1, 4, .ro, 0x0, 0x0, false⟩,  -- GRP_POWER
  ⟨0x4C, 1, 4, .ro, 0x0, 0x0, false⟩,  -- GRP_ENERGY_TOTAL_LO
  ⟨0x50, 1, 4, .ro, 0x0, 0x0, false⟩,  -- GRP_ENERGY_TOTAL_HI
  ⟨0x54, 1, 4, .ro, 0x0, 0x0, false⟩,  -- GRP_EPISODE_ENERGY
  ⟨0x58, 1, 4, .ro, 0x0, 0x0, false⟩,  -- GRP_RAMP_ENERGY
  ⟨0x5C, 1, 4, .ro, 0x0, 0x0, false⟩]  -- GRP_TRIP_COUNT

/-- The words of the therm block (R396). -/
def thermRows : List RegRow := [
  ⟨0x0, 1, 4, .rw, 0x1, 0x1, true⟩,  -- THERM_UNIT_CTRL
  ⟨0x10, 1, 4, .sq, 0x0, 0xFF000007, false⟩,  -- THERM_EVENTS
  ⟨0x14, 1, 4, .ro, 0x0, 0x0, false⟩,  -- THERM_STATUS
  ⟨0x18, 1, 4, .rw, 0x8773, 0xFFFF, true⟩]  -- THERM_CTRL

/-- The words of the boot block (R431). -/
def bootRows : List RegRow := [
  ⟨0x0, 1, 4, .rw, 0x1, 0x1, true⟩,  -- BOOT_UNIT_CTRL
  ⟨0x10, 1, 4, .sq, 0x0, 0xFF00007F, false⟩,  -- BOOT_EVENTS
  ⟨0x14, 1, 4, .ro, 0x0, 0x0, false⟩,  -- BOOT_STATUS
  ⟨0x18, 1, 4, .gd, 0x0, 0x7, true⟩,  -- BOOT_CMD
  ⟨0x1C, 1, 4, .gword, 0x0, 0x0, false⟩,  -- BOOT_CMD_G
  ⟨0x20, 1, 4, .rw, 0x0, 0x7FFFFFF, false⟩,  -- BOOT_XFER_OFFSET
  ⟨0x24, 1, 4, .rw, 0x1000, 0x1FFF, false⟩,  -- BOOT_XFER_LEN
  ⟨0x28, 1, 4, .rw, 0x7D0, 0xFFFF, true⟩,  -- BOOT_MIN_V
  ⟨0x2C, 1, 4, .rw, 0x0, 0x1, false⟩,  -- BOOT_PROTECT
  ⟨0x30, 1, 4, .gd, 0x0, 0x1, true⟩,  -- BOOT_LOCK
  ⟨0x34, 1, 4, .gword, 0x0, 0x0, false⟩,  -- BOOT_LOCK_G
  ⟨0x38, 1, 4, .rw, 0x258, 0x1FFFF, true⟩,  -- BOOT_TRIAL
  ⟨0x3C, 1, 4, .ro, 0x0, 0x0, false⟩,  -- BOOT_TRIAL_ELAPSED
  ⟨0x40, 1, 4, .gd, 0x0, 0x1, true⟩,  -- BOOT_HEALTH_CONFIRM
  ⟨0x44, 1, 4, .gword, 0x0, 0x0, false⟩,  -- BOOT_HEALTH_CONFIRM_G
  ⟨0x48, 1, 4, .ro, 0x0, 0x0, false⟩,  -- BOOT_ACTIVE_VERSION
  ⟨0x4C, 1, 4, .ro, 0x0, 0x0, false⟩,  -- BOOT_PREVIOUS_VERSION
  ⟨0x50, 1, 4, .ro, 0x0, 0x0, false⟩,  -- BOOT_STAGING_VERSION
  ⟨0x54, 1, 4, .ro, 0x0, 0x0, false⟩,  -- BOOT_SETTINGS
  ⟨0x58, 1, 4, .rw, 0x0, 0x7FFFF, false⟩,  -- BOOT_SET_ADDR
  ⟨0x5C, 1, 4, .rw, 0x0, 0xFFFFFFFF, false⟩,  -- BOOT_SET_DATA
  ⟨0x1000, 1024, 4, .rw, 0x0, 0xFFFFFFFF, false⟩]  -- BOOT_XFER_BUF_i

/-- The words of the host block (R462, R74). -/
def hostRows : List RegRow := [
  ⟨0x0, 1, 4, .rw, 0x1, 0x1, false⟩,  -- HOST_UNIT_CTRL
  ⟨0x10, 1, 4, .sq, 0x0, 0xFF00000F, false⟩,  -- HOST_EVENTS
  ⟨0x14, 1, 4, .ro, 0x0, 0x0, false⟩,  -- HOST_STATUS
  ⟨0x44, 1, 4, .rw, 0x0, 0xFFFFFFFF, false⟩,  -- HOST_DOORBELL
  ⟨0x100, 16, 8, .rw, 0x0, 0xFF000001, true⟩,  -- HOST_XLAT_LO_w
  ⟨0x104, 16, 8, .rw, 0x0, 0xFFFF, true⟩,  -- HOST_XLAT_HI_w
  ⟨0x200, 8, 32, .rw, 0x0, 0x1FF, true⟩,  -- HOST_DMA_CTRL_c
  ⟨0x204, 8, 32, .rw, 0x0, 0xFFFFFFFF, true⟩,  -- HOST_DMA_RING_LO_c
  ⟨0x208, 8, 32, .rw, 0x0, 0xFFFFFFFF, true⟩,  -- HOST_DMA_RING_HI_c
  ⟨0x20C, 8, 32, .rw, 0x4, 0xF, false⟩,  -- HOST_DMA_SIZE_c
  ⟨0x210, 8, 32, .ro, 0x0, 0x0, false⟩,  -- HOST_DMA_HEAD_c
  ⟨0x214, 8, 32, .rw, 0x0, 0xFFF, false⟩,  -- HOST_DMA_TAIL_c
  ⟨0x218, 8, 32, .sq, 0x0, 0xFF000007, false⟩,  -- HOST_DMA_STATUS_c
  ⟨0x400, 96, 4, .rw, 0x0, 0xBF, true⟩,  -- HOST_IRQ_MAP_s
  ⟨0x40, 1, 4, .rw, 0x0, 0xFF000F, false⟩]  -- HOST_FENCE

/-- The words of the usb block (R479). -/
def usbRows : List RegRow := [
  ⟨0x0, 1, 4, .rw, 0x1, 0x1, false⟩,  -- USB_UNIT_CTRL
  ⟨0x10, 1, 4, .sq, 0x0, 0xFF0000FF, false⟩,  -- USB_EVENTS
  ⟨0x14, 1, 4, .ro, 0x0, 0x0, false⟩,  -- USB_STATUS
  ⟨0x18, 1, 4, .rw, 0x1, 0x1F, true⟩,  -- USB_CTRL
  ⟨0x1C, 1, 4, .rw, 0x1007C0, 0x7FFF7FF, true⟩,  -- USB_AUD_CTRL
  ⟨0x20, 1, 4, .ro, 0x0, 0x0, false⟩,  -- USB_AUD_FB
  ⟨0x24, 1, 4, .ro, 0x0, 0x0, false⟩,  -- USB_AUD_UNDERRUN_COUNT
  ⟨0x28, 1, 4, .ro, 0x0, 0x0, false⟩]  -- USB_CTRL_ABORT_COUNT

/-- The words of the dram block (R347). -/
def dramRows : List RegRow := [
  ⟨0x0, 1, 4, .rw, 0x0, 0x1, false⟩,  -- DRAM_UNIT_CTRL
  ⟨0x10, 1, 4, .sq, 0x0, 0xFF00000F, false⟩,  -- DRAM_EVENTS
  ⟨0x14, 1, 4, .ro, 0x0, 0x0, false⟩,  -- DRAM_STATUS
  ⟨0x18, 1, 4, .rw, 0x0, 0xF7, true⟩,  -- DRAM_CFG
  ⟨0x20, 7, 4, .rw, 0x0, 0x3FFFF, true⟩,  -- DRAM_MR_k
  ⟨0x40, 1, 4, .rw, 0x10100C10, 0xFFFFFFFF, true⟩,  -- DRAM_TIMING_0
  ⟨0x44, 1, 4, .rw, 0x1A41227, 0xFFFFFFFF, true⟩,  -- DRAM_TIMING_1
  ⟨0x48, 1, 4, .rw, 0x61A2490, 0xFFFFFFFF, true⟩,  -- DRAM_TIMING_2
  ⟨0x50, 1, 4, .rw, 0x3C, 0xFFFF, true⟩,  -- DRAM_SCRUB
  ⟨0x54, 1, 4, .ro, 0x0, 0x0, false⟩,  -- DRAM_ECC_ADDR_LO
  ⟨0x58, 1, 4, .ro, 0x0, 0x0, false⟩,  -- DRAM_ECC_ADDR_HI
  ⟨0x5C, 1, 4, .ro, 0x0, 0x0, false⟩,  -- DRAM_CORR_COUNT
  ⟨0x60, 1, 4, .ro, 0x0, 0x0, false⟩,  -- DRAM_UNCORR_COUNT
  ⟨0x80, 4, 8, .rw, 0x0, 0xFFFF0000, true⟩,  -- DRAM_OVF_BASE_n
  ⟨0x84, 4, 8, .rw, 0x0, 0xFFFF, true⟩]  -- DRAM_OVF_SIZE_n

/-- The words of the comet block (R419, R449, R469). -/
def cometRows : List RegRow := [
  ⟨0x400, 1, 4, .rw, 0x0, 0xFF3FF1, true⟩,  -- COMET_HIB_CTRL
  ⟨0x404, 1, 4, .gd, 0x0, 0x1, false⟩,  -- COMET_HIB_CMD
  ⟨0x408, 1, 4, .gword, 0x0, 0x0, false⟩,  -- COMET_HIB_CMD_G
  ⟨0x40C, 1, 4, .sq, 0x0, 0xFF0000FF, false⟩,  -- COMET_WAKE_STATUS
  ⟨0x410, 1, 4, .ro, 0x0, 0x0, false⟩,  -- COMET_WAKE_INFO
  ⟨0x414, 1, 4, .ro, 0x0, 0x0, false⟩,  -- COMET_STATE
  ⟨0x418, 1, 4, .ro, 0x0, 0x0, false⟩,  -- COMET_KT_LO
  ⟨0x41C, 1, 4, .ro, 0x0, 0x0, false⟩,  -- COMET_KT_HI
  ⟨0x420, 1, 4, .rw, 0x0, 0xFFFFFFFF, false⟩,  -- COMET_KT_ALARM_LO
  ⟨0x424, 1, 4, .rw, 0x0, 0xFFFF, false⟩,  -- COMET_KT_ALARM_HI
  ⟨0x428, 1, 4, .ro, 0x0, 0x0, false⟩,  -- COMET_ANCHOR_NS_LO
  ⟨0x42C, 1, 4, .ro, 0x0, 0x0, false⟩,  -- COMET_ANCHOR_NS_HI
  ⟨0x430, 1, 4, .ro, 0x0, 0x0, false⟩,  -- COMET_ANCHOR_KT_LO
  ⟨0x434, 1, 4, .ro, 0x0, 0x0, false⟩,  -- COMET_ANCHOR_KT_HI
  ⟨0x600, 16, 32, .ro, 0x0, 0x0, false⟩,  -- COMET_FAULT_j_k@0
  ⟨0x604, 16, 32, .ro, 0x0, 0x0, false⟩,  -- COMET_FAULT_j_k@1
  ⟨0x608, 16, 32, .ro, 0x0, 0x0, false⟩,  -- COMET_FAULT_j_k@2
  ⟨0x60C, 16, 32, .ro, 0x0, 0x0, false⟩,  -- COMET_FAULT_j_k@3
  ⟨0x610, 16, 32, .ro, 0xFFFFFFFF, 0x0, false⟩,  -- COMET_FAULT_j_NUM
  ⟨0x800, 1, 4, .ro, 0x0, 0x0, false⟩,  -- COMET_FAULT_HEAD
  ⟨0x804, 1, 4, .ro, 0x0, 0x0, false⟩,  -- COMET_FAULT_LOST
  ⟨0x0, 1, 4, .rw, 0x1, 0x1, false⟩,  -- COMET_UNIT_CTRL
  ⟨0x10, 1, 4, .sq, 0x4, 0xFF00007F, false⟩,  -- COMET_MGMT_EVENTS
  ⟨0x14, 1, 4, .ro, 0x0, 0x0, false⟩,  -- COMET_MGMT_STATUS
  ⟨0x18, 1, 4, .rw, 0x5, 0x7F, true⟩,  -- COMET_MGMT_ALERT_EN
  ⟨0x1C, 1, 4, .gd, 0x0, 0x1, false⟩,  -- COMET_MGMT_CMD
  ⟨0x20, 1, 4, .gword, 0x0, 0x0, false⟩,  -- COMET_MGMT_CMD_G
  ⟨0x24, 1, 4, .ro, 0x0, 0x0, false⟩]  -- COMET_MGMT_PWR

/-- The words of the ephemEntry block (R117). -/
def ephemEntryRows : List RegRow := [
  ⟨0x0, 1, 4, .tb, 0x0, 0xFCFFFFFF, true⟩,  -- W0
  ⟨0x4, 6, 4, .tb, 0x0, 0xFFFFFFFF, true⟩,  -- W1–W6
  ⟨0x1C, 1, 4, .ro, 0x0, 0x0, false⟩]  -- W7

/-- The words of the classEntry block (R284). -/
def classEntryRows : List RegRow := [
  ⟨0x0, 1, 4, .tb, 0x0, 0x800000FF, true⟩,  -- W0
  ⟨0x4, 2, 4, .tb, 0x0, 0xFFFFFFFF, true⟩,  -- W1–W2
  ⟨0xC, 1, 4, .tb, 0x0, 0x1FFFFFF, true⟩,  -- W3
  ⟨0x10, 1, 4, .tb, 0x0, 0x3F3F07FF, true⟩,  -- W4
  ⟨0x14, 1, 4, .ro, 0x0, 0x0, false⟩,  -- W5
  ⟨0x18, 2, 4, .rw, 0x0, 0x0, false⟩]  -- W6–W7

/-- The words of the classRule block (R286). -/
def classRuleRows : List RegRow := [
  ⟨0x0, 16, 4, .tb, 0x0, 0xFFFFFFFF, true⟩,  -- VALUE, MASK
  ⟨0x40, 1, 4, .tb, 0x0, 0xFFFFFFFF, true⟩,  -- RANGE
  ⟨0x44, 1, 4, .tb, 0x0, 0xE0000007, true⟩,  -- RCTRL
  ⟨0x48, 1, 4, .tb, 0x0, 0x1FFFFFD, true⟩,  -- A0
  ⟨0x4C, 1, 4, .tb, 0x0, 0x3F3F07FF, true⟩,  -- A1
  ⟨0x50, 1, 4, .ro, 0x0, 0x0, false⟩]  -- HITS

/-- The words of the canFilter block (R172). -/
def canFilterRows : List RegRow := [
  ⟨0x0, 96, 8, .tb, 0x0, 0xFFFFFFFF, true⟩,  -- word 0 of the three lists
  ⟨0x4, 96, 8, .tb, 0x0, 0x1FFFFFFF, true⟩]  -- word 1

/-- The words of the canRx block (R171). -/
def canRxRows : List RegRow := [
  ⟨0x0, 20, 4, .ro, 0x0, 0x0, false⟩]  -- receive buffer words

/-- The words of the canTx block (R171). -/
def canTxRows : List RegRow := [
  ⟨0x0, 1, 4, .rw, 0x0, 0x7FFFFFFF, false⟩,  -- word 0
  ⟨0x4, 1, 4, .rw, 0x0, 0x3F, false⟩,  -- word 1
  ⟨0x8, 16, 4, .rw, 0x0, 0xFFFFFFFF, false⟩,  -- words 2–17
  ⟨0x48, 2, 4, .ro, 0x0, 0x0, false⟩]  -- words 18–19

/-- The words of the epEntry block (R349). -/
def epEntryRows : List RegRow := [
  ⟨0x0, 1, 4, .tb, 0x0, 0x8003FFFF, true⟩,  -- W0
  ⟨0x4, 1, 4, .tb, 0x0, 0x7F3F, true⟩]  -- W1

/-- The words of the msix block (R452). -/
def msixRows : List RegRow := [
  ⟨0x0, 3, 4, .rw, 0x0, 0xFFFFFFFF, false⟩,  -- address, upper address, data
  ⟨0xC, 1, 4, .rw, 0x1, 0x1, false⟩]  -- vector control

/-- The words of the pba block (R452). -/
def pbaRows : List RegRow := [
  ⟨0x0, 2, 4, .ro, 0x0, 0x0, false⟩]  -- pending bits

/-- The words of the coreRam block (R309). -/
def coreRamRows : List RegRow := [
  ⟨0x0, 98304, 4, .rw, 0x0, 0xFFFFFFFF, false⟩]  -- IMEM and DMEM words

end Sys2Proof.Machine
end

