-- ==== Sys2Proof/Machine/RegMap.lean ====
section
/-! DEFINITION. The local address map (R58): which block and which row of its table an address names. -/

namespace Sys2Proof.Machine

/-- The blocks of the local address map (R58), with the index of a replicated block. -/
inductive Block where
  | global | regif | fault | time | angle | ephem
  | ephemEntry (e : Nat)
  | bank (n : Nat) | engine (e : Nat) | uart (u : Nat) | can (n : Nat)
  | canFilter (n : Nat) | canRx (n b : Nat) | canTx (n b : Nat)
  | link (l : Nat) | ring | bridge | sta (p : Nat) | switch | capture (c : Nat) | traffic
  | classEntry (e : Nat) | classRule (r : Nat) | classify
  | core (n : Nat) | coreRam (n : Nat)
  | queue (q : Nat) | queueCommon | epEntry (e : Nat)
  | pair | feed (f : Nat) | group (g : Nat) | therm (k : Nat)
  | boot | host | msix (v : Nat) | pba | usb | dram | comet
  deriving DecidableEq, Repr

/-- The block and offset of a location of a cluster (R136). -/
def locateCluster (n o : Nat) : Option (Block × Nat) :=
  if o < 0x400 then some (.bank n, o)
  else if o < 0x1000 then none
  else if o < 0x1800 then some (.engine (8 * n + (o - 0x1000) / 0x100), (o - 0x1000) % 0x100)
  else if o < 0x2000 then none
  else if o < 0x2400 then some (.bank n, o)
  else if o < 0x4000 then none
  else if o < 0x5000 then some (.uart (2 * n + (o - 0x4000) / 0x800), (o - 0x4000) % 0x800)
  else if o < 0x5100 then some (.can n, o - 0x5000)
  else if o < 0x5400 then none
  else if o < 0x5700 then some (.canFilter n, o - 0x5400)
  else if o < 0x5800 then none
  else if o < 0x6000 then some (.canRx n ((o - 0x5800) / 0x80), (o - 0x5800) % 0x80)
  else if o < 0x6800 then some (.canTx n ((o - 0x6000) / 0x80), (o - 0x6000) % 0x80)
  else none

/-- The block and offset of a location of the POWER block (R374). -/
def locatePower (o : Nat) : Option (Block × Nat) :=
  if o < 0x200 then some (.feed (o / 0x100), o % 0x100)
  else if o < 0x400 then none
  else if o < 0x500 then some (.therm ((o - 0x400) / 0x40), (o - 0x400) % 0x40)
  else if o < 0x1000 then none
  else if o < 0x1800 then some (.group ((o - 0x1000) / 0x100), (o - 0x1000) % 0x100)
  else none

/-- The block and offset that a local address names, if any (R58). -/
def locate (a : Nat) : Option (Block × Nat) :=
  if a < 0x1_0000 then some (.global, a)
  else if a < 0x2_0000 then some (.regif, a - 0x1_0000)
  else if a < 0x3_0000 then some (.fault, a - 0x2_0000)
  else if a < 0x4_0000 then some (.time, a - 0x3_0000)
  else if a < 0x5_0000 then some (.angle, a - 0x4_0000)
  else if a < 0x6_0000 then some (.ephem, a - 0x5_0000)
  else if a < 0x8_0000 then some (.ephemEntry ((a - 0x6_0000) / 32), (a - 0x6_0000) % 32)
  else if a < 0x10_0000 then none
  else if a < 0x18_0000 then locateCluster ((a - 0x10_0000) / 0x1_0000) ((a - 0x10_0000) % 0x1_0000)
  else if a < 0x20_0000 then none
  else if a < 0x23_0000 then some (.link ((a - 0x20_0000) / 0x1_0000), (a - 0x20_0000) % 0x1_0000)
  else if a < 0x24_0000 then some (.ring, a - 0x23_0000)
  else if a < 0x25_0000 then some (.bridge, a - 0x24_0000)
  else if a < 0x28_0000 then none
  else if a < 0x2A_0000 then some (.sta ((a - 0x28_0000) / 0x1_0000), (a - 0x28_0000) % 0x1_0000)
  else if a < 0x30_0000 then none
  else if a < 0x30_2000 then some (.switch, a - 0x30_0000)
  else if a < 0x30_2400 then some (.capture ((a - 0x30_2000) / 0x40), (a - 0x30_2000) % 0x40)
  else if a < 0x31_0000 then none
  else if a < 0x32_0000 then some (.traffic, a - 0x31_0000)
  else if a < 0x40_0000 then none
  else if a < 0x48_0000 then some (.classEntry ((a - 0x40_0000) / 32), (a - 0x40_0000) % 32)
  else if a < 0x4A_0000 then some (.classRule ((a - 0x48_0000) / 0x80), (a - 0x48_0000) % 0x80)
  else if a < 0x4B_0000 then some (.classify, a - 0x4A_0000)
  else if a < 0x50_0000 then none
  else if a < 0x50_4000 then some (.core ((a - 0x50_0000) / 0x1000), (a - 0x50_0000) % 0x1000)
  else if a < 0x60_0000 then none
  else if a < 0x80_0000 then some (.coreRam ((a - 0x60_0000) / 0x8_0000), (a - 0x60_0000) % 0x8_0000)
  else if a < 0x80_4000 then some (.queue ((a - 0x80_0000) / 0x100), (a - 0x80_0000) % 0x100)
  else if a < 0x80_8000 then some (.queueCommon, a - 0x80_0000)
  else if a < 0x81_0000 then some (.epEntry ((a - 0x80_8000) / 8), (a - 0x80_8000) % 8)
  else if a < 0x90_0000 then none
  else if a < 0x91_0000 then some (.pair, a - 0x90_0000)
  else if a < 0xA0_0000 then none
  else if a < 0xA1_0000 then locatePower (a - 0xA0_0000)
  else if a < 0xB0_0000 then none
  else if a < 0xB1_0000 then some (.boot, a - 0xB0_0000)
  else if a < 0xB1_8000 then some (.host, a - 0xB1_0000)
  else if a < 0xB1_8400 then some (.msix ((a - 0xB1_8000) / 16), (a - 0xB1_8000) % 16)
  else if a < 0xB1_9000 then none
  else if a < 0xB1_9008 then some (.pba, a - 0xB1_9000)
  else if a < 0xB2_0000 then none
  else if a < 0xB3_0000 then some (.usb, a - 0xB2_0000)
  else if a < 0xB4_0000 then some (.dram, a - 0xB3_0000)
  else if a < 0xC0_0000 then none
  else if a < 0xC1_0000 then some (.comet, a - 0xC0_0000)
  else none

/-- The rows of a block's table. -/
def blockRows : Block → List RegRow
  | .global => globalRows | .regif => regifRows | .fault => faultRows | .time => timeRows | .angle => angleRows
  | .ephem => ephemRows | .ephemEntry _ => ephemEntryRows | .bank _ => bankRows | .engine _ => engineRows
  | .uart _ => uartRows | .can _ => canRows | .canFilter _ => canFilterRows | .canRx _ _ => canRxRows
  | .canTx _ _ => canTxRows | .link _ => linkRows | .ring => ringRows | .bridge => bridgeRows | .sta _ => staRows
  | .switch => switchRows | .capture _ => captureRows | .traffic => trafficRows | .classEntry _ => classEntryRows
  | .classRule _ => classRuleRows | .classify => classifyRows | .core _ => coreRows | .coreRam _ => coreRamRows
  | .queue _ => queueRows | .queueCommon => queueCommonRows | .epEntry _ => epEntryRows | .pair => pairRows
  | .feed _ => feedRows | .group _ => groupRows | .therm _ => thermRows | .boot => bootRows | .host => hostRows
  | .msix _ => msixRows | .pba => pbaRows | .usb => usbRows | .dram => dramRows | .comet => cometRows

/-- The row of a table that holds offset `o`. -/
def findRow (o : Nat) : List RegRow → Option RegRow
  | [] => none
  | r :: rs =>
    if decide (r.off ≤ o) && decide ((o - r.off) % r.stride = 0) && decide ((o - r.off) / r.stride < r.count) then some r
    else findRow o rs

/-- Locations that a table lists and one copy of the block lacks: lane counters 1–3 of the PAIR link and the bypass
registers outside EAST (R213), the PRP group of STA1 (R304), the common power registers of feed B (R394). -/
def absentCopy (b : Block) (o : Nat) : Bool :=
  match b with
  | .link l => (l == 2 && decide (0x44 ≤ o ∧ o < 0x50)) || (l != 0 && decide (0x100 ≤ o))
  | .sta p => p == 1 && decide (0x300 ≤ o ∧ o < 0x1000)
  | .feed f => f == 1 && decide (0x40 ≤ o)
  | _ => false

/-- The table row of a local address; `none` is an unimplemented location (R58). -/
def regRow (a : Nat) : Option RegRow :=
  match locate a with
  | none => none
  | some (b, o) => if absentCopy b o then none else findRow o (blockRows b)

/-- The value that a register's table gives for reset, 0 for a location with no row. -/
def regReset (a : Nat) : Word :=
  match regRow a with
  | none => 0
  | some r => BitVec.ofNat 32 r.reset

end Sys2Proof.Machine
end

