-- ==== Sys2Proof/Machine/Units.lean ====
section
/-! DEFINITION. The units of the hub: their source IDs (R30 to R32), their unit control registers (R11) and which unit
owns a register word (R10). -/

namespace Sys2Proof.Machine

/-- A source ID from its fields (R30). -/
def sourceOf (die region cluster typ index : Nat) : SourceId :=
  BitVec.ofNat 16 (die * 32768 + region * 8192 + cluster * 4096 + typ * 64 + index)

/-- Source ID of a unit inside cluster `n` (R32). -/
def clusterSource (n typ index : Nat) : SourceId := sourceOf 0 (n / 2) (n % 2) typ index

/-- The source ID of a unit (R30 to R32). -/
def sourceId : HubUnit → SourceId
  | .engine e => clusterSource (e.val / 8) 0x01 (e.val % 8)
  | .bank n => clusterSource n.val 0x02 0
  | .uart u => clusterSource (u.val / 2) 0x03 (u.val % 2)
  | .can n => clusterSource n.val 0x04 0
  | .core n => sourceOf 0 n.val 0 0x05 n.val
  | .queue q => sourceOf 0 0 0 0x06 q.val
  | .link l => sourceOf 0 0 0 0x08 l.val
  | .ring => sourceOf 0 0 0 0x09 0
  | .bridge => sourceOf 0 0 0 0x0A 0
  | .switch => sourceOf 0 0 0 0x0B 0
  | .traffic => sourceOf 0 0 0 0x0C 0
  | .classify => sourceOf 0 0 0 0x0D 0
  | .sta p => sourceOf 0 0 0 0x0E p.val
  | .time => sourceOf 0 0 0 0x10 0
  | .angle => sourceOf 0 0 0 0x11 0
  | .ephem => sourceOf 0 0 0 0x12 0
  | .dram => sourceOf 0 0 0 0x14 0
  | .host => sourceOf 0 0 0 0x15 0
  | .usb => sourceOf 0 0 0 0x16 0
  | .mgmt => sourceOf 0 0 0 0x17 0
  | .boot => sourceOf 0 0 0 0x18 0
  | .regif => sourceOf 0 0 0 0x19 0
  | .pair => sourceOf 0 0 0 0x1A 0
  | .feed f => sourceOf 1 0 0 0x20 f.val
  | .group g => sourceOf 1 0 0 0x21 g.val
  | .therm k => sourceOf 1 0 0 0x22 k.val

/-- Source ID of the die link as the logic die, and as the power die, reports it (R25). -/
def dieLinkSource (power : Bool) : SourceId := if power then 0x8203 else 0x0203

/-- Local address of a unit's UNIT_CTRL (R11, R58). -/
def unitCtrl : HubUnit → Nat
  | .regif => Addr.regifUnitCtrl
  | .time => Addr.timeUnitCtrl
  | .angle => Addr.angleUnitCtrl
  | .ephem => Addr.ephemUnitCtrl
  | .bank n => Addr.bankUnitCtrl n.val
  | .engine e => Addr.engUnitCtrl e.val
  | .uart u => Addr.uartUnitCtrl u.val
  | .can n => Addr.canUnitCtrl n.val
  | .link l => Addr.linkUnitCtrl l.val
  | .ring => Addr.ringUnitCtrl
  | .bridge => Addr.bridgeUnitCtrl
  | .sta p => Addr.staUnitCtrl p.val
  | .switch => Addr.swUnitCtrl
  | .traffic => Addr.trfUnitCtrl
  | .classify => Addr.classUnitCtrl
  | .core n => Addr.svcUnitCtrl n.val
  | .queue q => Addr.qUnitCtrl q.val
  | .dram => Addr.dramUnitCtrl
  | .pair => Addr.pairUnitCtrl
  | .feed f => Addr.feedUnitCtrl f.val
  | .group g => Addr.grpUnitCtrl g.val
  | .therm k => Addr.thermUnitCtrl k.val
  | .boot => Addr.bootUnitCtrl
  | .host => Addr.hostUnitCtrl
  | .usb => Addr.usbUnitCtrl
  | .mgmt => Addr.cometUnitCtrl

/-- `n` as an index below `k + 1`, reduced modulo `k + 1`. -/
def fin (k n : Nat) : Fin (k + 1) := Fin.ofNat (k + 1) n

/-- The unit that owns a block (R10, R136, R342, R349, R374, R419); GLOBAL and FAULT belong to none (R418, R432). -/
def blockOwner : Block → Option HubUnit
  | .global => none
  | .fault => none
  | .regif => some .regif
  | .time => some .time
  | .angle => some .angle
  | .ephem => some .ephem
  | .ephemEntry _ => some .ephem
  | .bank n => some (.bank (fin 7 n))
  | .engine e => some (.engine (fin 63 e))
  | .uart u => some (.uart (fin 15 u))
  | .can n => some (.can (fin 7 n))
  | .canFilter n => some (.can (fin 7 n))
  | .canRx n _ => some (.can (fin 7 n))
  | .canTx n _ => some (.can (fin 7 n))
  | .link l => some (.link (fin 2 l))
  | .ring => some .ring
  | .bridge => some .bridge
  | .sta p => some (.sta (fin 1 p))
  | .switch => some .switch
  | .capture _ => some .switch
  | .traffic => some .traffic
  | .classEntry _ => some .classify
  | .classRule _ => some .classify
  | .classify => some .classify
  | .core n => some (.core (fin 3 n))
  | .coreRam n => some (.core (fin 3 n))
  | .queue q => some (.queue (fin 63 q))
  | .queueCommon => some .host
  | .epEntry _ => some .bridge
  | .pair => some .pair
  | .feed f => some (.feed (fin 1 f))
  | .group g => some (.group (fin 7 g))
  | .therm k => some (.therm (fin 3 k))
  | .boot => some .boot
  | .host => some .host
  | .msix _ => some .host
  | .pba => some .host
  | .usb => some .usb
  | .dram => some .dram
  | .comet => some .mgmt

/-- The unit that owns the register word at a local address. -/
def ownerOf (a : Nat) : Option HubUnit :=
  match locate a with
  | none => none
  | some (b, _) => blockOwner b

/-- The region of a unit inside a cluster or of a service core (R19, R441). -/
def regionOf : HubUnit → Option Nat
  | .bank n => some (n.val / 2)
  | .engine e => some (e.val / 16)
  | .uart u => some (u.val / 4)
  | .can n => some (n.val / 2)
  | .core n => some n.val
  | _ => none

/-- The units of a region (R19). -/
def regionUnits (r : Nat) : List HubUnit :=
  [.core (fin 3 r), .bank (fin 7 (2 * r)), .bank (fin 7 (2 * r + 1)), .can (fin 7 (2 * r)), .can (fin 7 (2 * r + 1))]
    ++ (List.range 4).map (fun u => .uart (fin 15 (4 * r + u)))
    ++ (List.range 16).map (fun e => .engine (fin 63 (16 * r + e)))

/-- The kind of die that reports under a source ID: true for the power die (R30). -/
def powerSource (src : SourceId) : Bool := bit src 15

end Sys2Proof.Machine
end

