-- ==== Sys2Proof/Machine/Ops.lean ====
section
/-! DEFINITION. The named operations every block is built from: reading and writing register words, status events,
fabric time, raising a fault, and what leaves the hub. -/

namespace Sys2Proof.Machine

/-- The stored word at local address `a`; read-only status words are shown by `viewReg`. -/
def State.reg (s : State) (a : Nat) : Word := Store.get (regReset a) s.regs a

/-- The state with the stored word at `a` set. -/
def State.setReg (s : State) (a : Nat) (v : Word) : State := { s with regs := Store.put (regReset a) s.regs a v }

/-- Bits `[lo + len - 1 : lo]` of the stored word at `a`. -/
def State.field (s : State) (a lo len : Nat) : Nat := bits (s.reg a) lo len

/-- Bit `i` of the stored word at `a`. -/
def State.flag (s : State) (a i : Nat) : Bool := bit (s.reg a) i

/-- The state with a field of the stored word at `a` set. -/
def State.setField (s : State) (a lo len v : Nat) : State := s.setReg a (setBits (s.reg a) lo len v)

/-- The state with a bit of the stored word at `a` set or cleared. -/
def State.setFlag (s : State) (a i : Nat) (b : Bool) : State := s.setReg a (setBit (s.reg a) i b)

/-- A saturating counter raised by `k`. -/
def State.addTo (s : State) (a k : Nat) : State := s.setReg a (satAdd (s.reg a) k)

/-- A saturating counter raised by 1. -/
def State.inc (s : State) (a : Nat) : State := s.addTo a 1

/-- A hardware event on a sequence-cleared status register: SEQ moves on by 1 and the flags of `mask` are set (R46). -/
def State.events (s : State) (a mask : Nat) : State :=
  s.setReg a (setBits (word ((s.reg a).toNat ||| mask)) 24 8 (bits (s.reg a) 24 8 + 1))

/-- The event that sets flag `i` of the status register at `a`. -/
def State.event (s : State) (a i : Nat) : State := s.events a (2 ^ i)

/-- Something leaves the hub. -/
def State.emit (s : State) (o : Out) : State := { s with out := o :: s.out }

/-- The present CORE cycle. -/
def State.now (s : State) : Nat := s.frc.toNat

/-- CORE cycles in `n` microseconds (R7). -/
def cyclesUs (n : Nat) : Nat := 400 * n

/-- At least `n` CORE cycles have passed since cycle `t`. -/
def State.elapsed (s : State) (t n : Nat) : Bool := decide (t + n ≤ s.now)

/-- Fetch a fresh free value's index. -/
def State.nextFree (s : State) : State := { s with free := s.free + 1 }

/-- This hub's node and ring (R242). -/
def State.node (s : State) : Byte := BitVec.ofNat 8 (s.field Addr.ringCtrl 0 8)
def State.ringNo (s : State) : BitVec 4 := BitVec.ofNat 4 (s.field Addr.ringCtrl 8 4)

/-- A fabric address from its fields (R59). -/
def fabricAddr (ring node space off : Nat) : FabricAddr :=
  BitVec.ofNat 48 (ring % 16 * 2 ^ 44 + node % 256 * 2 ^ 36 + space % 16 * 2 ^ 32 + off % 2 ^ 32)

/-- The fabric address of local address `a` of this hub (R433). -/
def State.hubAddr (s : State) (a : Nat) : FabricAddr := fabricAddr s.ringNo.toNat s.node.toNat 0 a

/-- RATE as a signed number of 2^-40 (R81). -/
def State.rate (s : State) : Int := (s.reg Addr.timeRate).toInt

/-- FRC × 2.5 ns × (1 + RATE × 2^-40), truncated to 2^-16 ns, at CORE cycle `c` (R81). -/
def runTime (c : Nat) (rate : Int) : Int := floorDiv (Int.ofNat c * 5 * (2 ^ 40 + rate)) (2 ^ 25)

/-- Fabric time in 2^-16 ns (R81). -/
def State.time16 (s : State) : Int :=
  (Int.ofNat s.time.offset.toNat + runTime s.now s.rate) % (2 ^ 80)

/-- Fabric time in whole ns (R81). -/
def State.timeNs (s : State) : Nat := (s.time16 / 65536).toNat

/-- EN of a unit (R11). -/
def State.enabled (s : State) (u : HubUnit) : Bool := s.flag (unitCtrl u) 0

/-- A unit reset of `u` is in progress (R12). -/
def State.isBusy (s : State) (u : HubUnit) : Bool := s.busy.any fun b => b.u == u

/-- Region `r` is fenced (R20). -/
def State.fenced (s : State) (r : Nat) : Bool := s.flag Addr.globalRegionState r

/-- The unit lies in a fenced region (R21). -/
def State.unitFenced (s : State) (u : HubUnit) : Bool :=
  match regionOf u with
  | none => false
  | some r => s.fenced r

/-- Set a latched bit of IPEND of core `n` (R323); a fenced core is held in reset (R21). -/
def State.pend (s : State) (n b : Nat) : State := if s.fenced n then s else s.setFlag (Addr.svcSreg n 7) b true

/-- The codes of the fault kinds (R435). -/
def kindCode : FaultKind → Nat
  | .eccCorr => 0x01 | .eccUncorr => 0x02 | .parity => 0x03 | .cfgDrift => 0x08 | .guardFail => 0x09
  | .linkDown => 0x20 | .linkDeskew => 0x21 | .linkReplayExhausted => 0x22 | .ringBreak => 0x23
  | .ringTopologyMismatch => 0x24 | .clockLaneLoss => 0x25 | .dupWindowOverrun => 0x26
  | .timeSourceLost => 0x40 | .timeStep => 0x41 | .angleUnlock => 0x42 | .ephemerisLate => 0x43
  | .txnTimeout => 0x60 | .postedWriteFail => 0x61 | .bridgeRetryExhausted => 0x62 | .semaphoreBroken => 0x63
  | .busErrorAccess => 0x64
  | .pinFifoStale => 0x80 | .engineFault => 0x81 | .canBusOff => 0x82 | .canErrorPassive => 0x83
  | .uartFraming => 0x84
  | .feedUv => 0xA0 | .feedReverse => 0xA1 | .groupFastTrip => 0xA2 | .groupSlowTrip => 0xA3
  | .groupEnergyLimit => 0xA4 | .shortDuringRamp => 0xA5 | .overtemp => 0xA6
  | .imageAuthFail => 0xC0 | .imageRollbackRefused => 0xC1 | .updateRefusedState => 0xC2 | .trialFallback => 0xC3
  | .pairLinkLost => 0xE0 | .pairDualActive => 0xE1 | .pairTakeover => 0xE2 | .watchdog => 0xE3

/-- The default severities (R435); FEED_UV and OVERTEMP are raised with the severity their chapter gives. -/
def kindSeverity : FaultKind → Severity
  | .eccCorr | .guardFail | .timeStep | .busErrorAccess | .pinFifoStale | .canErrorPassive | .uartFraming
  | .feedReverse | .updateRefusedState => .note
  | .eccUncorr | .cfgDrift | .ringTopologyMismatch | .groupFastTrip | .groupSlowTrip | .groupEnergyLimit
  | .shortDuringRamp | .imageAuthFail | .trialFallback | .pairDualActive | .watchdog => .major
  | .parity | .linkDown | .linkDeskew | .linkReplayExhausted | .ringBreak | .clockLaneLoss | .dupWindowOverrun
  | .timeSourceLost | .angleUnlock | .ephemerisLate | .txnTimeout | .postedWriteFail | .bridgeRetryExhausted
  | .semaphoreBroken | .engineFault | .canBusOff | .feedUv | .overtemp | .imageRollbackRefused
  | .pairLinkLost | .pairTakeover => .degraded

/-- Severity as its code (R433). -/
def sevCode : Severity → Nat
  | .note => 0 | .degraded => 1 | .major => 2 | .fatal => 3

/-- A severity from its code. -/
def sevOfCode (n : Nat) : Severity :=
  if n = 0 then .note else if n = 1 then .degraded else if n = 2 then .major else .fatal

/-- A fault message enters the collector's input. A power-die message waits at the power die while the die link is
lost, at most 8 of them (R434). -/
def State.report (s : State) (m : FaultMsg) : State :=
  if powerSource m.src && !s.dieLink.up then
    if s.fault.powerHeld.length < 8 then { s with fault := { s.fault with powerHeld := s.fault.powerHeld ++ [m] } }
    else { s with fault := { s.fault with powerLost := s.fault.powerLost + 1 } }
  else { s with fault := { s.fault with msgs := s.fault.msgs ++ [m] } }

/-- The message of source `src` for kind `k`, with the time of this cycle (R433, R434). -/
def State.message (s : State) (src : SourceId) (k : FaultKind) (sev : Severity) (flags : Nat) (a : FabricAddr) :
    FaultMsg :=
  ⟨src, BitVec.ofNat 8 (kindCode k), BitVec.ofNat 6 flags, a, sev, s.now, BitVec.ofNat 48 s.timeNs⟩

/-- Units whose chapter lets them report while disabled (R41), and the kinds that every unit reports (R14). -/
def mayRaise (s : State) (u : HubUnit) (k : FaultKind) : Bool :=
  s.enabled u || u == .regif || k == .eccCorr || k == .eccUncorr || k == .parity

/-- Unit `u` raises kind `k` with a severity, flags and the address concerned, if the kind has one (R433). -/
def State.raiseAs (s : State) (u : HubUnit) (k : FaultKind) (sev : Severity) (flags : Nat) (a : Option FabricAddr) :
    State :=
  if mayRaise s u k then s.report (s.message (sourceId u) k sev flags (a.getD (s.hubAddr (unitCtrl u)))) else s

/-- Unit `u` raises kind `k` at its default severity. -/
def State.raise (s : State) (u : HubUnit) (k : FaultKind) (flags : Nat := 0) (a : Option FabricAddr := none) : State :=
  s.raiseAs u k (kindSeverity k) flags a

/-- The codes of the initiators (R41). -/
def initCode : Initiator → Nat
  | .host => 0 | .mgmt => 1 | .usb => 2 | .core n => 4 + n.val | .ephem => 8 | .remote _ _ => 9 | .boot => 0xC

/-- The list with the entries of `k` replaced by one of value `v`. -/
def assocSet {κ α : Type} [DecidableEq κ] (l : List (κ × α)) (k : κ) (v : α) : List (κ × α) :=
  (k, v) :: l.filter fun e => e.1 ≠ k

/-- The value listed for `k`. -/
def assocGet {κ α : Type} [DecidableEq κ] (l : List (κ × α)) (k : κ) : Option α :=
  match l with
  | [] => none
  | (a, v) :: r => if a = k then some v else assocGet r k

/-- The list without the entries of `k`. -/
def assocDel {κ α : Type} [DecidableEq κ] (l : List (κ × α)) (k : κ) : List (κ × α) := l.filter fun e => e.1 ≠ k

/-- The state after `f` of each element in order. -/
def State.each {α : Type} (s : State) (l : List α) (f : State → α → State) : State := l.foldl f s

/-- The state after `f` when `c` holds. -/
def State.when (s : State) (c : Bool) (f : State → State) : State := if c then f s else s

/-- The condition of host interrupt source `src` has become true: its vector is pending if EN is 1 (R455, R456). -/
def State.irq (s : State) (src : Nat) : State :=
  let m := s.reg (Addr.hostIrqMap src)
  if bit m 7 then { s with host := { s.host with pba := setBit s.host.pba (bits m 0 6) true } } else s

/-- An event whose flags of `cond` are the condition of host interrupt source `src` (R455). -/
def State.eventIrq (s : State) (src cond a i : Nat) : State :=
  let t := s.event a i
  if (s.reg a).toNat &&& cond = 0 then t.irq src else t

/-- The answer of a register access leaves for its initiator. -/
def State.answer (s : State) (i : Initiator) (a : Nat) (r : AccessResult) : State :=
  match r with
  | .wait => s
  | r => s.emit (.access i a r)

end Sys2Proof.Machine
end

