-- ==== Sys2Proof/Machine/RegIf.lean ====
section
/-! DEFINITION. The register interface below the blocks (chapter 2): the access check, the bus-error log, 64-bit
staging and shadows, sequence-cleared writes and guarded pairs. -/

namespace Sys2Proof.Machine

/-- Blocks that the host, the USB service function, the management port and remote hubs reach before release (R404). -/
def earlyBlock : Block → Bool
  | .global | .regif | .fault | .boot | .host | .msix _ | .pba | .usb | .comet => true
  | _ => false

/-- Initiators limited by R404. -/
def limitedInitiator : Initiator → Bool
  | .host | .usb | .mgmt | .remote _ _ => true
  | _ => false

/-- Blocks reached over the die link (R58, R375). -/
def powerBlock : Block → Bool
  | .feed _ | .group _ | .therm _ => true
  | _ => false

/-- The location is unimplemented for this initiator now: no row, before release (R404), the die link lost (R375), the
MSI-X table for any initiator but the host (R452). -/
def State.unimplemented (s : State) (i : Initiator) (b : Block) : Bool :=
  (!s.start.released && limitedInitiator i && !earlyBlock b) || (!s.dieLink.up && powerBlock b)
    || (match b with | .msix _ | .pba => i != .host | _ => false)

/-- The KIND of the bus error that an access raises, the lowest code first (R38, R40, R41); `none` for a valid access.
`size` is the access width in bytes. -/
def State.accessKind (s : State) (i : Initiator) (a size : Nat) (isWrite : Bool) : Option Nat :=
  if size < 4 then some 1
  else if size > 4 then some 2
  else if a % 4 ≠ 0 then some 3
  else
    match locate a, regRow a with
    | some (b, _), some r =>
      if s.unimplemented i b then some 4
      else if isWrite && r.acc == .ro then some 5
      else if !isWrite && r.acc == .wo then some 6
      else
        match blockOwner b with
        | some u => if s.unitFenced u then some 7 else none
        | none => none
    | _, _ => some 4

/-- Ring, node and INITIATOR of an access as REGIF_BERR_INFO holds them (R41). -/
def initInfo : Initiator → Nat
  | .remote r n => n.toNat * 2 ^ 16 + r.toNat * 2 ^ 12 + 9 * 2 ^ 8
  | i => initCode i * 2 ^ 8

/-- A bus error: logged if the log is free, counted, and raised (R40). -/
def State.busError (s : State) (i : Initiator) (fa : FabricAddr) (isWrite : Bool) (kind : Nat) : State :=
  let s := s.inc Addr.regifBerrCount
  let s :=
    if s.flag Addr.regifBerrStatus 0 then s.event Addr.regifBerrStatus 1
    else
      ((((s.setReg Addr.regifBerrAddrLo (word fa.toNat)).setReg Addr.regifBerrAddrHi (word (bits fa 32 16))).setReg
        Addr.regifBerrInfo (word (initInfo i + (if isWrite then 2 ^ 7 else 0) + kind))).event Addr.regifBerrStatus 0)
  s.raise .regif .busErrorAccess kind (some fa)

/-- The fabric address under which a local access is logged: node 255, space 0 (R60). -/
def localFabric (a : Nat) : FabricAddr := fabricAddr 0 255 0 a

/-- The word `who` has staged at `a` (R43). -/
def State.stagedAt (s : State) (who : Initiator) (a : Nat) : Option Word :=
  (s.staged.find? fun e => e.who == who && e.addr == a).map (·.value)

/-- The word latched for `who` at `a` (R42). -/
def State.shadowAt (s : State) (who : Initiator) (a : Nat) : Option Word :=
  (s.shadows.find? fun e => e.who == who && e.addr == a).map (·.value)

/-- Latch `v` at `a` for `who` (R42). -/
def State.latch (s : State) (who : Initiator) (a : Nat) (v : Word) : State :=
  { s with shadows := ⟨who, a, v⟩ :: s.shadows.filter fun e => !(e.who == who && e.addr == a) }

/-- Stage `v` at `a` for `who` (R43); a second write replaces the first. -/
def State.stage (s : State) (who : Initiator) (a : Nat) (v : Word) : State :=
  { s with staged := ⟨who, a, v⟩ :: s.staged.filter fun e => !(e.who == who && e.addr == a) }

/-- Drop what `who` has staged at `a`. -/
def State.unstage (s : State) (who : Initiator) (a : Nat) : State :=
  { s with staged := s.staged.filter fun e => !(e.who == who && e.addr == a) }

/-- The word at `a` has access code `c`. -/
def hasAccess (a : Nat) (c : Access) : Bool :=
  match regRow a with
  | none => false
  | some r => r.acc == c

/-- The low words of the 64-bit values that a read latches (R42). -/
def lowWordRead (a : Nat) : Bool :=
  a == Addr.timeFrcLo || a == Addr.timeOffsetNsLo || a == Addr.timeStepNsLo || a == Addr.globalEui64Lo
    || a == Addr.cometKtLo || a == Addr.cometKtAlarmLo || a == Addr.cometAnchorNsLo || a == Addr.cometAnchorKtLo
    || (List.range 4).any (fun n => a == Addr.svcCycleLo n)
    || (List.range 2).any (fun p => a == Addr.staGateAdminBaseLo p || a == Addr.staGateOperBaseLo p
          || a == Addr.staGateChangeTimeLo p)
    || (List.range 8).any (fun k => a == Addr.grpEnergyTotalLo k || a == Addr.hostDmaRingLo k)
    || a == Addr.angleT0NsLo

/-- The low words of the 64-bit values that a write stages (R43). -/
def lowWordWrite (a : Nat) : Bool :=
  a == Addr.timeStepNsLo || a == Addr.cometKtAlarmLo
    || (List.range 2).any (fun p => a == Addr.staGateAdminBaseLo p)
    || (List.range 8).any (fun k => a == Addr.hostDmaRingLo k)

/-- A write of an ordinary word: the writable bits change, a value in Reserved bits is ignored (R6). -/
def State.plainWrite (s : State) (a : Nat) (v : Word) : State :=
  match regRow a with
  | none => s
  | some r => s.setReg a (v &&& BitVec.ofNat 32 r.mask)

/-- A write of the low word of a 64-bit value stages it (R43). -/
def State.stageLow (s : State) (i : Initiator) (a : Nat) (v : Word) : State := s.stage i a v

/-- A write of the high word at `a` commits both halves, or the high half alone with nothing staged (R43). -/
def State.commitHigh (s : State) (i : Initiator) (a : Nat) (v : Word) : State :=
  match s.stagedAt i (a - 4) with
  | none => s.plainWrite a v
  | some lo => ((s.plainWrite (a - 4) lo).plainWrite a v).unstage i (a - 4)

/-- A write to a sequence-cleared register (R47). -/
def State.sqWrite (s : State) (a : Nat) (v : Word) : State :=
  if bits v 0 24 = 0 then s
  else if bits v 24 8 = s.field a 24 8 then
    s.setReg a (s.reg a &&& ~~~ BitVec.ofNat 32 (bits v 0 24))
  else (s.inc Addr.regifStaleClearCount).setReg Addr.regifStaleClearAddr (word a)

/-- The guard state of the pair whose value word is at `x`. -/
def State.guard (s : State) (x : Nat) : Guard := Store.get {} s.guards x
def State.setGuard (s : State) (x : Nat) (g : Guard) : State := { s with guards := Store.put {} s.guards x g }

/-- A guarded pair fails with a code of R51: it is disarmed, logged, counted and raised under the owning unit, or under
REGIF for a word that belongs to no unit. -/
def State.guardFail (s : State) (x code : Nat) : State :=
  let s := s.setGuard x { s.guard x with failCode := code, armed := none }
  let s := (s.setReg Addr.regifGuardFailAddr (word x)).inc Addr.regifGuardFailCount
  s.raise ((ownerOf x).getD .regif) .guardFail code (some (s.hubAddr x))

/-- The 256 cycles of an armed pair have passed (R50, R51 code 1). -/
def State.guardExpired (s : State) (x : Nat) : Bool :=
  match (s.guard x).armed with
  | none => false
  | some a => decide (a.since + 256 < s.now)

/-- An armed pair whose time has passed fails with code 1. -/
def State.guardExpire (s : State) (x : Nat) : State := if s.guardExpired x then s.guardFail x 1 else s

/-- A write to the value word of a guarded pair (R50, R51 code 3). -/
def State.guardValue (s : State) (i : Initiator) (x : Nat) (v : Word) : State :=
  let s := s.guardExpire x
  match (s.guard x).armed with
  | some _ => s.guardFail x 3
  | none => s.setGuard x { s.guard x with armed := some ⟨i, v, s.now⟩ }

/-- A write to the complement word of the pair at `x`: the committed value, if the pair commits (R50, R51). -/
def State.guardCompl (s : State) (x : Nat) (c : Word) : Option Word × State :=
  let s := s.guardExpire x
  match (s.guard x).armed with
  | none => (none, s.guardFail x 4)
  | some a =>
    if c = ~~~ a.value then
      let g := s.guard x
      (some a.value, (s.setGuard x { g with commits := (g.commits + 1) % 256, armed := none }).plainWrite x a.value)
    else (none, s.guardFail x 2)

/-- The word that a read of the complement word returns (R52). INITIATOR is that of the armed value; while none is armed the
spec states no value for the field, and the model shows 0 (DESIGN CHOICE, log entry 121). -/
def Guard.word (g : Guard) : Word :=
  match g.armed with
  | none => Sys2Proof.Machine.word (g.commits % 256 * 2 ^ 16 + g.failCode % 16 * 2 ^ 4)
  | some a => Sys2Proof.Machine.word
      (g.commits % 256 * 2 ^ 16 + initCode a.who % 16 * 2 ^ 12 + g.failCode % 16 * 2 ^ 4 + 1)

/-- Comparison of the configuration scan is suspended (R56). -/
def State.scanSuspended (s : State) : Bool :=
  s.flag Addr.regifCfgCrcCtrl 1 || s.field Addr.globalRegionState 0 8 != 0 || s.field Addr.globalRegionState 12 4 != 0

/-- The state with the scan in progress marked when a suspension began or ended between `s` and `t` (R56). -/
def State.noteSuspend (s t : State) : State :=
  if s.scanSuspended == t.scanSuspended then t else { t with cfg := { t.cfg with tainted := true } }

end Sys2Proof.Machine
end

