-- ==== Sys2Proof/Machine/GateBase.lean ====
section
/-! DEFINITION. The gate lists of the station ports as fabric time moves them: the list state, overrides, the guard and the
change of the list (R295 to R298). -/

namespace Sys2Proof.Machine

def State.sta (s : State) (p : Nat) : StaState := Store.get {} s.stas p
def State.setSta (s : State) (p : Nat) (x : StaState) : State := { s with stas := Store.put {} s.stas p x }

/-- A stretch of the cycle: its start in ns, its gates and its entry. -/
structure GateSpan where
  start : Nat
  gates : Byte
  entry : Nat
  deriving DecidableEq, Repr

/-- The spans of entries `i` onwards, `n` of them, of the list at `at_`, from running sum `sum` within a cycle (R295): entries
of no length never govern, but the last entry holds to the end of the cycle. -/
def State.gateSpans (s : State) (at_ : Nat → Nat) (cycle : Nat) : Nat → Nat → Nat → List GateSpan
  | 0, _, _ => []
  | n + 1, i, sum =>
    let w := s.reg (at_ i)
    let d := bits w 8 24
    let rest := State.gateSpans s at_ cycle n (i + 1) (sum + d)
    if sum < cycle ∧ (d ≠ 0 ∨ n = 0) then ⟨sum, BitVec.ofNat 8 (bits w 0 8), i⟩ :: rest else rest

/-- OPER_BASE in ns. -/
def State.operBase (s : State) (p : Nat) : Nat :=
  (s.reg (Addr.staGateOperBaseLo p)).toNat + (s.reg (Addr.staGateOperBaseHi p)).toNat * 2 ^ 32
def State.operCycle (s : State) (p : Nat) : Nat := atLeast1 (s.reg (Addr.staGateOperCycle p)).toNat

/-- The operating list's spans. -/
def State.operSpans (s : State) (p : Nat) : List GateSpan :=
  s.gateSpans (Addr.staGclOper p) (s.operCycle p) (s.reg (Addr.staGateOperLen p)).toNat 0 0

/-- The operating list governs (R295). -/
def State.listRuns (s : State) (p : Nat) : Bool := (s.sta p).operValid && decide (s.operBase p ≤ s.timeNs)

/-- The last span that starts at or before `x`. -/
def spanAtTime (x : Nat) : List GateSpan → Option GateSpan
  | [] => none
  | g :: r => if g.start ≤ x then some ((spanAtTime x r).getD g) else none

/-- The list state of the gates and the entry that governs, at fabric time `t` in ns (R295). -/
def State.listAt (s : State) (p t : Nat) : Byte × Nat :=
  if !s.flag (Addr.staGateCtrl p) 0 then (0xFF, 0)
  else if (s.sta p).operValid && decide (s.operBase p ≤ t) then
    match spanAtTime ((t - s.operBase p) % s.operCycle p) (s.operSpans p) with
    | none => (BitVec.ofNat 8 (s.field (Addr.staGateCtrl p) 8 8), 0)
    | some g => (g.gates, g.entry)
  else (BitVec.ofNat 8 (s.field (Addr.staGateCtrl p) 8 8), 0)

/-- The override of class `c`. -/
def StaState.overOf (x : StaState) (c : Nat) : Option GateOverride := x.overrides.find? fun o => o.cls == c

/-- The effective gate of class `c` (R296). -/
def State.gateOpen (s : State) (p c : Nat) : Bool :=
  match (s.sta p).overOf c with
  | some o => o.isOpen
  | none => bit (s.sta p).gates c

/-- The effective gates of a port. -/
def State.effGates (s : State) (p : Nat) : Nat := ((List.range 8).map fun c => ofBool (s.gateOpen p c) * 2 ^ c).sum

/-- A gate has closed on the frame in transmission between `s` and `t`: the frame is completed and counted (R297). -/
def State.gateOverrun (s t : State) (p : Nat) : State :=
  match t.sta p |>.sending with
  | none => t
  | some (c, stop) =>
    if s.gateOpen p c && !t.gateOpen p c && decide (10 * t.time16 < stop) then
      (t.inc (Addr.staGateOverrunCount p)).event (Addr.staGateEvents p) 2
    else t

/-- The list state of the present time takes effect (R295). -/
def State.gateRefresh (s : State) (p : Nat) : State :=
  let g := s.listAt p s.timeNs
  s.setSta p { s.sta p with gates := g.1, entry := g.2 }

/-- Start of the next span that closes class `c` after `x`, in this cycle or the next. -/
def nextCloseIn (cycle x c : Nat) (l : List GateSpan) : Option Nat :=
  match l.find? fun g => decide (x < g.start) && !bit g.gates c with
  | some g => some g.start
  | none => (l.find? fun g => !bit g.gates c).map fun g => cycle + g.start

/-- The first time after `t` (ns) at which a list closes class `c`. -/
def closeAfter (base cycle : Nat) (l : List GateSpan) (t c : Nat) : Option Nat :=
  let x := (t - base) % cycle
  (nextCloseIn cycle x c l).map fun d => t - x + d

/-- The admin list, and the time at which it takes over, in ns (R298). -/
def State.adminBase (s : State) (p : Nat) : Nat :=
  (s.reg (Addr.staGateAdminBaseLo p)).toNat + (s.reg (Addr.staGateAdminBaseHi p)).toNat * 2 ^ 32
def State.adminCycle (s : State) (p : Nat) : Nat := atLeast1 (s.reg (Addr.staGateAdminCycle p)).toNat
def State.adminSpans (s : State) (p : Nat) : List GateSpan :=
  s.gateSpans (Addr.staGclAdmin p) (s.adminCycle p) (min 1024 (s.field (Addr.staGateAdminLen p) 0 11)) 0 0
def State.changeAt (s : State) (p : Nat) : Nat :=
  (s.reg (Addr.staGateChangeTimeLo p)).toNat + (s.reg (Addr.staGateChangeTimeHi p)).toNat * 2 ^ 32

/-- The time at which the change to the admin list closes class `c`, or the list does after it (R297). -/
def State.changeCloses (s : State) (p c : Nat) : Option Nat :=
  let t := s.changeAt p
  match spanAtTime ((t - s.adminBase p) % s.adminCycle p) (s.adminSpans p) with
  | some g => if bit g.gates c then closeAfter (s.adminBase p) (s.adminCycle p) (s.adminSpans p) t c else some t
  | none => if bit (BitVec.ofNat 8 (s.field (Addr.staGateCtrl p) 8 8)) c then none else some t

/-- The next list transition that closes class `c`, in ns: of the list in operation, unless a pending change comes first
(R297). -/
def State.listCloses (s : State) (p c : Nat) : Option Nat :=
  let here :=
    if s.listRuns p then closeAfter (s.operBase p) (s.operCycle p) (s.operSpans p) s.timeNs c else none
  if (s.sta p).pending then
    match here with
    | some t => if t < s.changeAt p then some t else s.changeCloses p c
    | none => s.changeCloses p c
  else here

/-- The time in 2^-16 ns at which the gate of class `c` closes, as the guard sees it (R297). -/
def State.gateCloses (s : State) (p c : Nat) : Option Int :=
  match (s.sta p).overOf c with
  | some o =>
    match o.stop with
    | none => none
    | some t => if bit (s.listAt p (t / 65536).toNat).1 c then none else some t
  | none =>
    if s.flag (Addr.staGateCtrl p) 0 then (s.listCloses p c).map fun t => Int.ofNat (t * 65536) else none

/-- Time on the wire of a frame of `b` bytes with its 20 bytes of overhead, in 1/10 of 2^-16 ns (R297): 0.8 ns a byte at
10 Gb/s, 8 ns at 1 Gb/s. -/
def State.wireTime (s : State) (p b : Nat) : Int :=
  Int.ofNat ((b + 20) * 8 * 65536 * (if s.flag (Addr.staCtrl p) 0 then 10 else 1))

/-- A frame of `b` bytes of class `c` may start on station port `p` (R294, R297). -/
def State.gateReady (s : State) (p c b : Nat) : Bool :=
  s.gateOpen p c &&
    match s.gateCloses p c with
    | none => true
    | some t => decide (10 * s.time16 + s.wireTime p b ≤ 10 * t)

/-- A GATE_WRITE (R123, R296): the classes of `mask` take the states of `gates`; HOLD 0 releases them, 0xFFFF holds. -/
def State.gateWrite (s : State) (p mask gates hold : Nat) : State :=
  let x := s.sta p
  let others := x.overrides.filter fun o => !mask.testBit o.cls
  let stop : Option Int := if hold = 0xFFFF then none else some (s.time16 + Int.ofNat (hold * 65536000))
  let new := if hold = 0 then [] else (onesOf 8 mask).map fun c => (⟨c, gates.testBit c, stop⟩ : GateOverride)
  let t := s.setSta p { x with overrides := others ++ new }
  let t := if hold = 0 then t else t.event (Addr.staGateEvents p) 3
  s.gateOverrun t p


/-- The admin list becomes the operating list (R298). -/
def State.gateApply (s : State) (p : Nat) : State :=
  if !(s.sta p).pending then s
  else
    let len := s.field (Addr.staGateAdminLen p) 0 11
    let t := s.each (List.range (min 1024 len)) fun t i => t.setReg (Addr.staGclOper p i) (s.reg (Addr.staGclAdmin p i))
    let t := t.setReg (Addr.staGateOperBaseLo p) (s.reg (Addr.staGateAdminBaseLo p))
    let t := t.setReg (Addr.staGateOperBaseHi p) (s.reg (Addr.staGateAdminBaseHi p))
    let t := t.setReg (Addr.staGateOperCycle p) (s.reg (Addr.staGateAdminCycle p))
    let t := t.setReg (Addr.staGateOperLen p) (word len)
    let t := t.setSta p { t.sta p with pending := false, operValid := true }
    s.gateOverrun ((t.gateRefresh p).event (Addr.staGateEvents p) 0) p

/-- Fabric time has been stepped by `d` (2^-16 ns): a frame in transmission and a HOLD end after the time they still have, a
change whose time has passed is applied, and the lists take their new position (R295, R298). -/
def State.gateStepped (s : State) (d : Int) : State :=
  s.each [0, 1] fun s p =>
    let s := s.setSta p { s.sta p with
      sending := (s.sta p).sending.map fun e => (e.1, e.2 + 10 * d)
      overrides := (s.sta p).overrides.map fun o => { o with stop := o.stop.map (· + d) } }
    let s := if (s.sta p).pending && decide (s.changeAt p ≤ s.timeNs) then s.gateApply p else s
    s.gateRefresh p

end Sys2Proof.Machine
end

