-- ==== Sys2Proof/Machine/EphemTable.lean ====
section
/-! DEFINITION. The Ephemeris table (chapter 5): entries, fire times, the check of an entry, and what makes an
instance late. -/

namespace Sys2Proof.Machine

/-- Word `w` of entry `e` (R117). -/
def State.eph (s : State) (e w : Nat) : Word := s.reg (Addr.ephemEntry e w)

/-- The instance state of entry `e`. -/
def State.ephInst (s : State) (e : Nat) : EphEntry := Store.get {} s.ephem.entries e
def State.setEphInst (s : State) (e : Nat) (x : EphEntry) : State :=
  { s with ephem := { s.ephem with entries := Store.put {} s.ephem.entries e x } }

/-- Fields of W0 (R117). -/
def ephType (w0 : Word) : Nat := bits w0 30 2
def ephLate (w0 : Word) : Nat := bits w0 28 2
def ephEn (w0 : Word) : Bool := bit w0 27
def ephChain (w0 : Word) : Bool := bit w0 26
def ephAction (w0 : Word) : Nat := bits w0 16 8
def ephTarget (w0 : Word) : Nat := bits w0 0 16

/-- The action codes of R122. -/
def ephActionKnown (a : Nat) : Bool :=
  [0x01, 0x02, 0x03, 0x04, 0x10, 0x11, 0x12, 0x20, 0x30, 0x31, 0x40, 0x50, 0x51, 0x60].contains a

/-- The entry cannot fire (R119). -/
def State.ephInvalid (s : State) (e : Nat) : Bool :=
  let w0 := s.eph e 0
  !ephActionKnown (ephAction w0)
    || (ephType w0 == 3 && decide ((s.eph e 3).toNat < 1000))
    || (ephType w0 == 2 && bits (s.eph e 3) 0 16 == 0)
    || (ephChain w0 && (ephAction w0 == 0x04 || ephAction w0 == 0x60))
    || (ephAction w0 == 0x60 && decide (4 ≤ bits w0 0 4))

/-- The entry is valid and enabled, and has an instance left (R118, R120). -/
def State.ephLive (s : State) (e : Nat) : Bool :=
  ephEn (s.eph e 0) && !bit (s.eph e 7) 7 && !(s.ephInst e).ended

/-- The entries whose W0 is listed, in table order. -/
def State.ephListed (s : State) : List Nat :=
  s.regs.filterMap fun p =>
    if decide (0x6_0000 ≤ p.1 ∧ p.1 < 0x8_0000 ∧ (p.1 - 0x6_0000) % 32 = 0) then some ((p.1 - 0x6_0000) / 32) else none

/-- The fabric time of ANGLE `a` in cycle `n`, in 2^-16 ns (R114); `none` while FREQ is 0. A cycle is past, modulo 2^32,
when it is less than 2^31 cycles back (R120). -/
def State.angleTime (s : State) (n a : Nat) : Option Int :=
  let f := s.angle.freq.toNat
  if f = 0 then none
  else
    let past := (s.angle.cycle.toNat + 2 ^ 32 - n % 2 ^ 32) % 2 ^ 32
    let d : Int := if past < 2 ^ 31 then -Int.ofNat past else Int.ofNat (2 ^ 32 - past)
    some (Int.ofNat s.angle.t0.toNat + floorDiv ((d * 2 ^ 32 + Int.ofNat a) * 1000000000 * 2 ^ 8) f)

/-- The fire time of instance `k` of entry `e`, in 2^-16 ns (R120); those of type 3 are moved by changes of W3 (R133). -/
def State.fireTime (s : State) (e k : Nat) : Option Int :=
  let w0 := s.eph e 0
  let lead : Int := (s.eph e 4).toInt * 65536
  let base : Int := Int.ofNat ((s.eph e 1).toNat + (s.eph e 2).toNat * 2 ^ 32) * 65536
  match ephType w0 with
  | 0 => some (base - lead)
  | 3 => some (base + (Int.ofNat (k * (s.eph e 3).toNat) + (s.ephInst e).shift) * 65536 - lead)
  | 1 => (s.angleTime (s.eph e 2).toNat (s.eph e 1).toNat).map (· - lead)
  | _ => (s.angleTime ((s.eph e 2).toNat + k * bits (s.eph e 3) 0 16) (s.eph e 1).toNat).map (· - lead)

/-- The fire time of the entry's next instance. -/
def State.nextFire (s : State) (e : Nat) : Option Int :=
  match (s.ephInst e).fixed with
  | some f => some f
  | none => s.fireTime e (s.ephInst e).k

/-- Lateness in 2^-16 ns of a fire time `f`, from the first CORE edge at or after it (R127). -/
def State.lateness (s : State) (f : Int) : Nat :=
  let d := (s.time16 - f).toNat
  d - d % 163840

/-- The next instance of entry `e` is due: its fire time is not after the present time. -/
def State.ephDue (s : State) (e : Nat) : Bool :=
  match s.nextFire e with
  | none => false
  | some f => s.ephLive e && decide (f ≤ s.time16)

/-- An angle-type entry (R120). -/
def State.ephAngle (s : State) (e : Nat) : Bool := ephType (s.eph e 0) == 1 || ephType (s.eph e 0) == 2

/-- The instance of entry `e` is late with `cause` if it became due between `s` and `t`; one that lies ahead again is no
longer late. `u` is the state that takes the mark. -/
def State.ephMarkOne (s t u : State) (cause e : Nat) : State :=
  if t.ephDue e && !s.ephDue e then u.setEphInst e { u.ephInst e with late := cause }
  else if !t.ephDue e && (t.ephInst e).late != 0 then u.setEphInst e { u.ephInst e with late := 0 }
  else u

/-- The instances that became due between `s` and `t`, of the entries that `p` admits, are late with `cause`. -/
def State.ephMark (s t : State) (cause : Nat) (p : Nat → Bool) : State :=
  t.each t.ephListed fun u e => if p e then s.ephMarkOne t u cause e else u

/-- The fire time of the next instance of entry `e` falls in the present cycle. -/
def State.ephNow (s : State) (e : Nat) : Bool :=
  match s.nextFire e with
  | some f => s.ephDue e && s.lateness f == 0
  | none => false

/-- T0, CYCLE or FREQ changed from `s` to `t` (R121, R130): the instances that this makes due are late with cause 3. One
whose fire time falls in this very cycle keeps it. -/
def State.ephAngleMoved (s t : State) : State :=
  t.each (t.ephListed.filter t.ephAngle) fun u e =>
    if s.ephNow e then u.setEphInst e { u.ephInst e with fixed := s.nextFire e }
    else
      let u := u.setEphInst e { u.ephInst e with fixed := none }
      s.ephMarkOne u u 3 e

/-- Every due instance is late with cause 1: the Ephemeris was enabled or released (R132). -/
def State.ephMarkAll (s : State) : State :=
  s.each s.ephListed fun u e =>
    if s.ephDue e && (s.ephInst e).late == 0 then u.setEphInst e { u.ephInst e with late := 1 } else u

/-- The hub acts: it is in no pair or is PRIMARY (R358), and is not entering hibernate (R414). -/
def State.acts (s : State) : Bool :=
  (s.pair.role == .off || s.pair.role == .primary) && s.comet.power != .entering

/-- The Ephemeris may execute: enabled, started (R407) and not held (R132, R358, R414). -/
def State.ephRuns (s : State) : Bool :=
  s.enabled .ephem && !s.start.ephHold && !s.flag Addr.ephemCtrl 1 && s.acts

/-- The check of R119 on entry `e`: INVALID follows it, and its event is set when the entry is found invalid. -/
def State.ephCheck (s : State) (e : Nat) : State :=
  if s.ephInvalid e then (s.setFlag (Addr.ephemEntry e 7) 7 true).event Addr.ephemEvents 1
  else s.setFlag (Addr.ephemEntry e 7) 7 false

/-- A write of W0 commits: W7 is cleared, the instance state restarts and the entry is checked (R118, R119). An instance
whose fire time falls in the commit cycle is still to execute, under the old W0. -/
def State.ephWriteW0 (s : State) (e : Nat) (v : Word) : State :=
  let old := if s.ephRuns && s.ephNow e then (s.nextFire e).map fun f => (f, s.eph e 0) else none
  let t := ((s.plainWrite (Addr.ephemEntry e 0) v).setReg (Addr.ephemEntry e 7) 0).setEphInst e
    { old := old, ops := (s.ephInst e).ops }
  let t := t.ephCheck e
  if t.ephDue e then t.setEphInst e { t.ephInst e with late := 1 } else t

/-- A write of W3 leaves the next instance of an enabled type 3 entry where it is: the change takes effect from the
instance after it (R133). -/
def State.ephKeepNext (s t : State) (e : Nat) : State :=
  if ephEn (t.eph e 0) && ephType (t.eph e 0) == 3 then
    let x := t.ephInst e
    t.setEphInst e { x with
      shift := x.shift + Int.ofNat x.k * (Int.ofNat (s.eph e 3).toNat - Int.ofNat (t.eph e 3).toNat) }
  else t

/-- W5 and W6 as an execution of entry `e` with fire time `f` uses them: as they stood in the cycle before `f` (R133). -/
def State.ephOperands (s : State) (e : Nat) (f : Int) : Word × Word :=
  match ((s.ephInst e).ops.filter fun x => decide (f ≤ x.1)).getLast? with
  | some x => x.2
  | none => (s.eph e 5, s.eph e 6)

/-- A write of one of W1 to W6 commits (R119, R133): an enabled entry is checked again, and an instance that the write
moves into the past is late with cause 1. -/
def State.ephWriteWord (s : State) (e w : Nat) (v : Word) : State :=
  let t := s.plainWrite (Addr.ephemEntry e w) v
  let x := t.ephInst e
  let t := t.setEphInst e (if w = 5 ∨ w = 6 then { x with ops := (s.time16, s.eph e 5, s.eph e 6) :: x.ops }
    else { x with fixed := none })
  let t := if w = 3 then s.ephKeepNext t e else t
  if ephEn (t.eph e 0) then s.ephMark (t.ephCheck e) 1 (· == e) else t

/-- A write into the Ephemeris table. -/
def State.ephemEntryWrite (s : State) (e off : Nat) (v : Word) : State :=
  if off = 0 then s.ephWriteW0 e v else s.ephWriteWord e (off / 4) v

/-- A write of EPHEM_CTRL (R132): releasing HOLD_ALL makes the instances passed meanwhile late with cause 1. -/
def State.ephCtrlWrite (s : State) (v : Word) : State :=
  let t := s.plainWrite Addr.ephemCtrl v
  if !s.ephRuns && t.ephRuns then t.ephMarkAll else t

/-- A write into the EPHEM block other than UNIT_CTRL; bits [31:24] of a template's header are Reserved (R134). -/
def State.ephemWrite (s : State) (a : Nat) (v : Word) : State :=
  if a = Addr.ephemCtrl then s.ephCtrlWrite v
  else if a = Addr.ephemEvents then s.sqWrite a v
  else if Addr.ephemTemplate 0 ≤ a ∧ a % 256 = 0 then s.plainWrite a (v &&& 0xFF_FFFF)
  else s.plainWrite a v

/-- EPHEM_STATUS (R135): ACTIVE counts the valid entries with EN 1; ANGLE_HELD shows UNLOCK_MODE 1 passing. -/
def State.ephemStatus (s : State) : Word :=
  let active := (s.ephListed.filter fun e => ephEn (s.eph e 0) && !bit (s.eph e 7) 7).length
  let held := s.flag Addr.ephemCtrl 0 && s.angle.sync != .locked && s.angle.sync != .following
  word (active % 8192 + ofBool held * 2 ^ 16)

/-- What a read of an EPHEM word shows instead of the stored word. -/
def State.ephemView (s : State) (a : Nat) : Option Word :=
  if a = Addr.ephemStatus then some s.ephemStatus else none

/-- The next instance lies within the staging window, 10 µs before its fire time (R127). -/
def State.ephInWindow (s : State) (e : Nat) : Bool :=
  match s.nextFire e with
  | some f => s.ephLive e && decide (f ≤ s.time16 + 655360000)
  | none => false

/-- W7 with STAGED: the next instance has been staged and is within its window (R117, R127). -/
def State.ephemEntryView (s : State) (e off : Nat) : Option Word :=
  if off = 28 then some (setBit (s.eph e 7) 3 ((s.ephInst e).staged && s.ephInWindow e)) else none

end Sys2Proof.Machine
end

