-- ==== Sys2Proof/Machine/Crc.lean ====
section
/-! DEFINITION. The cyclic redundancy checks that the spec names: CRC-32C over bytes (R55, R214, R283),
the FCS of Ethernet (R305), and the CRC-8 of the management port (R464). -/

namespace Sys2Proof.Machine

/-- One bit step of the reflected CRC-32C, polynomial 0x1EDC6F41. -/
def crc32cBit (r : Nat) : Nat := if r % 2 = 1 then (r / 2) ^^^ 0x82F63B78 else r / 2

/-- `n` bit steps. -/
def crc32cBits : Nat → Nat → Nat
  | 0, r => r
  | n + 1, r => crc32cBits n (crc32cBit r)

/-- The register after one more byte. -/
def crc32cByte (r : Nat) (b : Byte) : Nat := crc32cBits 8 (r ^^^ b.toNat)

/-- CRC-32C of bytes: initial value and final XOR 0xFFFF_FFFF. -/
def crc32c (bs : List Byte) : Word := word (bs.foldl crc32cByte 0xFFFF_FFFF ^^^ 0xFFFF_FFFF)

/-- The reflected bit step of the Ethernet FCS, polynomial 0x04C1_1DB7 (IEEE 802.3: PRESUMED, log entry 151). -/
def crc32EthBit (r : Nat) : Nat := if r % 2 = 1 then (r / 2) ^^^ 0xEDB88320 else r / 2

/-- `n` bit steps. -/
def crc32EthBits : Nat → Nat → Nat
  | 0, r => r
  | n + 1, r => crc32EthBits n (crc32EthBit r)

/-- The FCS of an Ethernet frame, as the number whose low byte is sent first (R305). -/
def crc32Eth (bs : List Byte) : Word :=
  word (bs.foldl (fun r b => crc32EthBits 8 (r ^^^ b.toNat)) 0xFFFF_FFFF ^^^ 0xFFFF_FFFF)

/-- One bit step of CRC-8, polynomial x^8 + x^2 + x + 1 (R464). -/
def crc8Bit (r : Nat) : Nat := if 128 ≤ r then (2 * r - 256) ^^^ 7 else 2 * r

/-- `n` bit steps. -/
def crc8Bits : Nat → Nat → Nat
  | 0, r => r
  | n + 1, r => crc8Bits n (crc8Bit r)

/-- CRC-8 of bytes (R464). -/
def crc8 (bs : List Byte) : Byte := BitVec.ofNat 8 (bs.foldl (fun r b => crc8Bits 8 (r ^^^ b.toNat)) 0)

end Sys2Proof.Machine
end

