-- ==== Sys2Proof/Machine/LinkCode.lean ====
section
/-! DEFINITION. What a Fliar link carries on its lanes: the 8b/10b code (R189), the ordered sets (R190), the words of a frame
with its check (R191, R214, R215), and the test patterns (R208). -/

namespace Sys2Proof.Machine

/-- A symbol: its octet, and whether it is a special symbol (R189). -/
abbrev Symbol := Bool × Byte

/-- The special symbols of R189. -/
def symCom : Symbol := (true, 0xBC)
def symSkp : Symbol := (true, 0x1C)
def symLcs : Symbol := (true, 0x5C)
def symAm : Symbol := (true, 0x7C)
def symSof : Symbol := (true, 0xFB)
def symEof : Symbol := (true, 0xFD)
def symEbd : Symbol := (true, 0xFE)

/-- Their code groups at negative disparity, bit a first (R189); those at positive disparity are the complements. -/
def specialCodes : List (Byte × Nat) :=
  [(0xBC, 0b0011111010), (0x1C, 0b0011110100), (0x5C, 0b0011110101), (0x7C, 0b0011110011), (0xFB, 0b1101101000),
   (0xFD, 0b1011101000), (0xFE, 0b0111101000)]

/-- The code group of the clock lane, D21.5 (R187, R189). -/
def clkCode : BitVec 10 := 0b1010101010

/-- The 5b/6b sub-blocks abcdei of D0 to D31 at negative disparity: IEEE 802.3 Clause 36 (PRESUMED, log entry 149). -/
def sixCodes : List Nat :=
  [0b100111, 0b011101, 0b101101, 0b110001, 0b110101, 0b101001, 0b011001, 0b111000] ++
  [0b111001, 0b100101, 0b010101, 0b110100, 0b001101, 0b101100, 0b011100, 0b010111] ++
  [0b011011, 0b100011, 0b010011, 0b110010, 0b001011, 0b101010, 0b011010, 0b111010] ++
  [0b110011, 0b100110, 0b010110, 0b110110, 0b001110, 0b101110, 0b011110, 0b101011]

/-- The 3b/4b sub-blocks fghj of D.0 to D.6, of the primary D.7 and of the alternate D.7 at negative disparity (log entry
149). -/
def fourCodes : List Nat :=
  [0b1011, 0b1001, 0b0101, 0b1100, 0b1101, 0b1010, 0b0110, 0b1110] ++ [0b0111]

/-- The 1 bits of the low `n` bits of `v`. -/
def ones (n v : Nat) : Nat := (onesOf n v).length

/-- Running disparity after a sub-block of `n` bits (log entry 149): `true` is positive. -/
def blockRd (n v : Nat) (rd : Bool) : Bool :=
  let half := 2 ^ (n / 2) - 1
  if n < 2 * ones n v then true
  else if 2 * ones n v < n then false
  else if v = half then true
  else if v = half * 2 ^ (n / 2) then false
  else rd

/-- A sub-block of `n` bits at running disparity `rd`, from its form `v` at negative disparity. -/
def subBlock (n v : Nat) (rd : Bool) : Nat :=
  if rd && (2 * ones n v != n || v == (2 ^ (n / 2) - 1) * 2 ^ (n / 2)) then 2 ^ n - 1 - v else v

/-- The code group of a data octet at running disparity `rd`; D.7 takes its alternate form after six octets. -/
def dataCode (rd : Bool) (b : Byte) : BitVec 10 :=
  let x := bits b 0 5
  let six := subBlock 6 (sixCodes.getD x 0) rd
  let mid := blockRd 6 six rd
  let alt := if mid then [11, 13, 14].contains x else [17, 18, 20].contains x
  let y := if bits b 5 3 = 7 ∧ alt then 8 else bits b 5 3
  BitVec.ofNat 10 (six * 16 + subBlock 4 (fourCodes.getD y 0) mid)

/-- The code group of a special symbol of R189. -/
def specialCode (rd : Bool) (b : Byte) : BitVec 10 :=
  let v := ((specialCodes.find? fun e => e.1 == b).map (·.2)).getD 0
  BitVec.ofNat 10 (if rd then 1023 - v else v)

/-- The code group of a symbol (R189). -/
def symbolCode (rd : Bool) (x : Symbol) : BitVec 10 := if x.1 then specialCode rd x.2 else dataCode rd x.2

/-- Running disparity after a code group. -/
def rdAfter (rd : Bool) (g : BitVec 10) : Bool := blockRd 4 (bits g 0 4) (blockRd 6 (bits g 4 6) rd)

/-- The link uses code group `g` at running disparity `rd`: that of a data octet, or of a special symbol of R189. -/
def codeUsed (rd : Bool) (g : BitVec 10) : Bool :=
  (specialCodes.any fun e => specialCode rd e.1 == g)
    || (List.range 256).any fun b => dataCode rd (BitVec.ofNat 8 b) == g

/-- The code errors in the code groups of one lane, and its running disparity after them (R189). -/
def codeErrors (rd : Bool) : List (BitVec 10) → Nat × Bool
  | [] => (0, rd)
  | g :: r =>
    let x := codeErrors (rdAfter rd g) r
    (ofBool (!codeUsed rd g) + x.1, x.2)

/-- The received bits of a lane, oldest first. -/
def groupBits (gs : List (BitVec 10)) : List Bool := gs.flatMap fun g => (List.range 10).reverse.map fun i => bit g i

/-- The test pattern's checker takes one bit (R208): `h` holds the last bits of the reference, newest first. Until it holds
as many as the pattern's degree it takes what arrives; then it runs on by itself and each difference is a bit error (log
entry 150). -/
def prbsStep (long : Bool) (h : List Bool) (b : Bool) : Nat × List Bool :=
  let n := if long then 31 else 7
  if h.length < n then (0, b :: h)
  else
    let p := xor (h.getD (n - 1) false) (h.getD (if long then 27 else 5) false)
    (ofBool (p != b), (p :: h).take n)

/-- The bit errors in the bits of one lane, and the checker after them. -/
def prbsErrors (long : Bool) (h : List Bool) : List Bool → Nat × List Bool
  | [] => (0, h)
  | b :: r =>
    let x := prbsStep long h b
    let y := prbsErrors long x.2 r
    (x.1 + y.1, y.2)

/-- Data symbols of a number, `n` bytes, most significant first. -/
def dataSymbols (n v : Nat) : List Symbol := (beBytes n v).map fun b => (false, b)

/-- The ordered sets as each lane carries them (R190). -/
def idlSet : List Symbol := [symCom]
def skpSet : List Symbol := [symSkp, symSkp, symSkp, symSkp]
def lcsSet (nak : Bool) (lseq : BitVec 12) : List Symbol :=
  symLcs :: dataSymbols 1 (if nak then 2 else 1) ++ dataSymbols 2 lseq.toNat
def amSet (m : Marker) : List Symbol :=
  symAm :: dataSymbols 1 m.seq.toNat ++ dataSymbols 1 m.echoSeq.toNat ++ dataSymbols 1 (ofBool m.echoValid)
    ++ dataSymbols 4 m.turnaround.toNat ++ dataSymbols 4 m.txCorr.toNat ++ dataSymbols 4 m.rxCorr.toNat
/-- TS1, or TS2 with READY as `ready` says, on lane `lane`. -/
def tsSet (two ready : Bool) (id : LinkIdentity) (lane : Nat) : List Symbol :=
  let tsid := dataSymbols 1 (if two then 0x45 else 0x4A)
  symCom :: tsid ++ dataSymbols 1 id.ring.toNat ++ dataSymbols 1 id.node.toNat ++ dataSymbols 1 id.port.toNat
    ++ dataSymbols 1 lane ++ dataSymbols 1 (ofBool (two && ready)) ++ (List.range 9).flatMap fun _ => tsid

/-- Code of a class (R191). -/
def classCode : RingClass → Nat
  | .t => 0 | .c => 1 | .e => 2 | .b => 3

/-- Header words H0 to H2 (R215); the reserved bit is 0. -/
def headerWords (f : RingFrame) : List Word :=
  [word (f.dstNode.toNat * 2 ^ 24 + f.dstRing.toNat * 2 ^ 20 + f.typ.toNat * 2 ^ 16 + f.srcNode.toNat * 2 ^ 8
      + f.srcRing.toNat * 2 ^ 4 + ofBool f.pairSeq * 8 + (match f.dir with | .east => 0 | .west => 4) + ofBool f.inOrd * 2),
   word (f.seq.toNat * 2 ^ 16 + f.epoch.toNat * 2 ^ 8 + f.hops.toNat),
   word (f.payload.length % 512 * 2 ^ 23 + f.pad.toNat * 2 ^ 21 + f.stream.toNat * 2 ^ 16 + f.keyNode.toNat * 2 ^ 8
      + f.sseq.toNat)]

/-- The words of a frame that its check covers, H0 to the last payload word (R214). -/
def checkedWords (f : RingFrame) : List Word := headerWords f ++ f.hdr ++ f.payload

/-- The FCS of a frame (R214). -/
def fcsOf (f : RingFrame) : Word := crc32c (bytesBE (checkedWords f))

/-- A frame as a port sends it, its FCS formed anew (R214, R220). -/
def sealFrame (f : RingFrame) : RingFrame := { f with fcs := fcsOf f }

/-- A received frame is good: no code error, not ended by EBD, and its frame check holds (R193, R214). -/
def frameGood (f : RingFrame) : Bool := f.good && f.fcs == fcsOf f

/-- The bytes of a frame between the balls, from SOF to EOF or EBD, in the order sent: four bytes to a word, byte 0 on lane
0 (R186, R191, R214). -/
def frameSymbols (rp : Bool) (lseq : BitVec 12) (f : RingFrame) : List Symbol :=
  symSof :: dataSymbols 1 (classCode f.cls + ofBool rp * 4) ++ dataSymbols 2 lseq.toNat
    ++ (checkedWords f ++ [f.fcs]).flatMap (fun w => dataSymbols 4 w.toNat)
    ++ (if f.good then symEof else symEbd) :: dataSymbols 3 0

/-- What a port sends on one of its data lanes (R194, R207, R208). -/
inductive LaneSend where
  /-- Nothing. -/
  | silent
  /-- IDL, with SKP sets but for near-end parallel loopback. -/
  | idle
  | training (two ready : Bool)
  /-- Frames and the sets of R192. -/
  | traffic
  /-- The neighbour's symbols, of the same lane. -/
  | looped
  /-- PRBS7, or PRBS31 when `long`. -/
  | pattern (long : Bool)
  deriving DecidableEq, Repr

end Sys2Proof.Machine
end

