-- ==== Sys2Proof/Machine/LinkBase.lean ====
section
/-! DEFINITION. The ports: access to a port's state, what it carries, and the sending of one frame on it (R191, R202). -/

namespace Sys2Proof.Machine

/-- Link index of a port (R32). -/
def portIdx : Port → Fin 3
  | .east => 0 | .west => 1 | .pair => 2

/-- The port of a link index. -/
def portOf (l : Fin 3) : Port := if l = 0 then .east else if l = 1 then .west else .pair

/-- A ring port as a port. -/
def ringLink : RingPort → Port
  | .east => .east | .west => .west

/-- The other ring port. -/
def otherPort : RingPort → RingPort
  | .east => .west | .west => .east

def State.link (s : State) (l : Port) : LinkState := Store.get {} s.links (portIdx l).val
def State.setLink (s : State) (l : Port) (x : LinkState) : State :=
  { s with links := Store.put {} s.links (portIdx l).val x }

/-- The unit of a port. -/
def linkUnit (l : Port) : HubUnit := .link (portIdx l)

/-- Local address of a register of the port, from the address of EAST's copy. -/
def linkReg (l : Port) (f : Nat → Nat) : Nat := f (portIdx l).val

/-- The port carries ring traffic: ACTIVE, in no loopback (R207, R229). -/
def State.active (s : State) (l : Port) : Bool := (s.link l).sync == .active

/-- Replay is on: REPLAY_EN is 1 and the round trip allows it (R205). -/
def State.replays (s : State) (l : Port) : Bool := (s.link l).replayOn && s.flag (linkReg l Addr.linkCtrl) 2

/-- Words of a frame from H0 to the FCS (R214). -/
def frameWords (f : RingFrame) : Nat := 4 + f.hdr.length + f.payload.length

/-- Bytes of replay buffer in use (R202). -/
def replayBytes (x : LinkState) : Nat := (x.replay.map fun e => 4 * frameWords e.frame).sum

/-- Size of the replay buffer (R202). -/
def replaySize : Port → Nat
  | .pair => 8192
  | _ => 16384

/-- Start frame `f` on port `l`, its FCS formed anew: class C takes the next LSEQ and is kept until acknowledged while replay
is on; it waits while the replay buffer is full. -/
def State.linkStart (s : State) (l : Port) (f : RingFrame) : State :=
  let x := s.link l
  let f := sealFrame f
  if f.cls == .c && s.replays l then
    if replayBytes x + 4 * frameWords f ≤ replaySize l then
      (s.setLink l { x with txLseq := x.txLseq + 1, replay := x.replay ++ [⟨x.txLseq, f, 0⟩] }).emit
        (.frame l true x.txLseq f)
    else s.setLink l { x with waiting := x.waiting ++ [f] }
  else s.emit (.frame l false 0 f)

/-- Send frame `f` on port `l`, behind the class C frames that already wait. -/
def State.linkSend (s : State) (l : Port) (f : RingFrame) : State :=
  let x := s.link l
  if f.cls == .c && !x.waiting.isEmpty then s.setLink l { x with waiting := x.waiting ++ [f] } else s.linkStart l f

/-- The link hands on a frame whose SOF carries `rp` and `lseq`: an RP 1 frame only with the LSEQ that is expected, before it
is forwarded (R203, R205). -/
def LinkState.takes (x : LinkState) (rp : Bool) (lseq : BitVec 12) : Bool := !rp || x.takeNext || lseq == x.next

/-- This hub is one half of a bridging pair (R2, R241). -/
def State.bridges (s : State) : Bool := s.flag Addr.ringBridge 0 && s.fuses.pairCapable

/-- A frame crosses PAIR, or is lost while PAIR is not ACTIVE (R194, R207). -/
def State.pairSend (s : State) (f : RingFrame) : State := if s.active .pair then s.linkSend .pair f else s

/-- Class C frames that wait are started as far as the replay buffer has room, or replay is off; `n` bounds their number. -/
def State.linkDrain (s : State) (l : Port) : Nat → State
  | 0 => s
  | n + 1 =>
    match (s.link l).waiting with
    | [] => s
    | f :: r =>
      if !s.replays l || decide (replayBytes (s.link l) + 4 * frameWords f ≤ replaySize l) then
        State.linkDrain ((s.setLink l { s.link l with waiting := r }).linkStart l f) l n
      else s

end Sys2Proof.Machine
end

