-- ==== Sys2Proof/Machine/PairBase.lean ====
section
/-! DEFINITION. The pair unit below the ring (chapter 15): roles, the alias, and the mirror records sent. -/

namespace Sys2Proof.Machine

/-- PARTNER, and this hub's RANK (R355, R373). -/
def State.partner (s : State) : Nat := s.field Addr.pairCtrl 8 8
def State.rank (s : State) : Nat := s.field Addr.pairRank 0 8

/-- Send a mirror record while this hub is PRIMARY of a STANDBY or SYNCING partner; it goes over the ring while the PAIR
link is not ACTIVE (R364, R366). -/
def State.mirrorSend (s : State) (r : MirrorRecord) : State :=
  if s.pair.role == .primary && (s.pair.partnerRole == 2 || s.pair.partnerRole == 3) then
    s.emit (.mirror (!s.active .pair) r)
  else s

/-- The M0 record as it stands. -/
def State.aliasRecord (s : State) : MirrorRecord := .m0 (s.ring.aliasSeqs.zip s.ring.aliasEpochs) s.pair.term

/-- TERM takes a value; the change is mirrored. -/
def State.setTerm (s : State) (t : Byte) : State :=
  let s := { s with pair := { s.pair with term := t } }
  s.mirrorSend s.aliasRecord

/-- Paired commands that wait are discarded and counted (R358). -/
def State.dropCmds (s : State) : State :=
  ({ s with pair := { s.pair with cmds := [] } }).addTo Addr.pairSuppressCount s.pair.cmds.length

/-- ROLE takes a value (R357): leaving PRIMARY discards the commands that wait, and a hub that acts again finds the
instances passed meanwhile late with cause 1 (R358, R367). -/
def State.pairTo (s : State) (r : PairRole) : State :=
  if s.pair.role == r then s
  else
    let ran := s.ephRuns
    let s := if s.pair.role == .primary then s.dropCmds else s
    let s := { s with pair := { s.pair with
      role := r, handover := false, sentTerm := none, ask := false, dualTold := false } }
    let s := s.event Addr.pairEvents 0
    let s := if r == .held then s.event Addr.pairEvents 7 else s
    if !ran && s.ephRuns then s.ephMarkAll else s

/-- SEEKING leads to PRIMARY under the stored alias EPOCH plus 1 (R357). -/
def State.pairFirst (s : State) : State :=
  let es := s.mramEpochs.map (· + 1)
  ({ s with mramEpochs := es, ring := { s.ring with aliasEpochs := es, aliasSeqs := [0, 0, 0, 0] } }).pairTo .primary

/-- PRIMARY with TERM + 1 (R357). -/
def State.pairTake (s : State) : State := (s.pairTo .primary).setTerm (s.pair.term + 1)

/-- Node `n` is recorded absent in RING_PRESENT: a HELD partner acts again (R357). -/
def State.pairAbsent (s : State) (n : Nat) : State :=
  if s.pair.role == .held && s.partner == n then s.pairTake else s

/-- The next alias SEQ and EPOCH of a class (R227, R361). -/
def State.aliasNext (s : State) (cls : Nat) : (Half × Byte) × State :=
  let q := s.ring.aliasSeqs.getD cls 0
  ((q, s.ring.aliasEpochs.getD cls 0),
    { s with ring := { s.ring with aliasSeqs := setAt s.ring.aliasSeqs cls (q + 1) } })

end Sys2Proof.Machine
end

