-- ==== Sys2Proof/Machine/RingBase.lean ====
section
/-! DEFINITION. The ring engine's shared operations (chapter 9): membership, Transit, originating a frame, breaks and
heals, and the presence of the other hubs with the semaphores that depend on it. -/

namespace Sys2Proof.Machine

/-- Declared hubs (R242). -/
def State.nodes (s : State) : Nat := s.field Addr.ringCtrl 16 8

/-- Node at position `i` of RING_ORDER. -/
def State.orderAt (s : State) (i : Nat) : Nat := s.field (Addr.ringOrder i) 0 8

/-- Position of node `n` among the declared hubs (R223). -/
def State.position (s : State) (n : Nat) : Option Nat :=
  (List.range (min s.nodes 254)).find? fun i => s.orderAt i == n

/-- Position of the western hub of the span at `port` of node `n`. -/
def State.spanAt (s : State) (n : Nat) (port : RingPort) : Option Nat :=
  (s.position n).map fun i =>
    match port with
    | .east => i
    | .west => (i + s.nodes - 1) % s.nodes

/-- A declared port uses a declaration that a MH820-S cannot meet, or a bridge declaration is not met (R2, R241). -/
def State.declaredMismatch (s : State) : Bool :=
  (!s.fuses.pairCapable && (s.field Addr.ringPair 0 8 != 0xFF || s.flag Addr.ringBridge 0))
    || (s.flag Addr.ringBridge 0 &&
        (s.flag Addr.pairCtrl 0
          || s.field (Addr.linkNeighbour 2) 0 8 != s.field Addr.ringBridge 8 8
          || s.field (Addr.linkNeighbour 2) 8 4 != s.field Addr.ringBridge 4 4
          || s.field (Addr.linkNeighbour 2) 12 2 != 2))

/-- A bank supply lies outside its window (R140). -/
def State.bankMismatch (s : State) : Bool := (List.range 8).any fun n => (Store.get {} s.banks n).mismatch

/-- The ring's configuration is missing: NODE 0xFF, NODES outside 2 to 254, or NODE absent from RING_ORDER (R225). -/
def State.configMissing (s : State) : Bool :=
  s.field Addr.ringCtrl 0 8 == 0xFF || decide (s.nodes < 2) || s.nodes == 255 || (s.position s.node.toNat).isNone

/-- Port `l` is ACTIVE against an identity that is not the declared one (R195). -/
def State.misjoined (s : State) (l : Port) : Bool := s.active l && !(s.link l).matched

/-- The Transit cause that stands now, 0 for none (R225). A beacon of an undeclared master stands for no longer than
its own cycle. -/
def State.standingCause (s : State) : Nat :=
  if s.start.noImage || s.configMissing then 1
  else if s.misjoined .east || s.misjoined .west || s.misjoined .pair then 2
  else if s.declaredMismatch || s.bankMismatch then 3
  else 0

/-- A ring frame of this hub with no sequence yet. -/
def State.newFrame (s : State) (cls : RingClass) (typ dstNode dstRing : Nat) (hdr payload : List Word) : RingFrame :=
  { cls := cls, dstNode := BitVec.ofNat 8 dstNode, dstRing := BitVec.ofNat 4 dstRing, typ := BitVec.ofNat 4 typ,
    srcNode := s.node, srcRing := s.ringNo, pairSeq := false, dir := .east, inOrd := false, seq := 0, epoch := 0,
    hops := 0, pad := 0, stream := 0, keyNode := s.node, sseq := 0, hdr := hdr, payload := payload, good := true }

/-- The ports on which an originated frame leaves (R233). -/
def State.livePorts (s : State) : List RingPort :=
  (if s.active .east then [RingPort.east] else []) ++ (if s.active .west then [RingPort.west] else [])

/-- Send the copies of an originated frame, one on each live ring port (R215 DIR). -/
def State.sendCopies (s : State) (f : RingFrame) : State :=
  s.each s.livePorts fun s p => s.linkSend (ringLink p) { f with dir := p }

/-- The frame with this hub's next SEQ of its class, or with the alias SEQ and EPOCH of a paired command (R227, R361). -/
def State.sequence (s : State) (f : RingFrame) (key : Option (Half × Byte)) : RingFrame × State :=
  match key with
  | some (q, e) =>
    ({ f with seq := q, epoch := e, pairSeq := true, keyNode := BitVec.ofNat 8 (s.field Addr.ringPair 0 8) }, s)
  | none =>
    let c := classCode f.cls
    ({ f with seq := s.ring.seqs.getD c 0, epoch := s.ring.epoch, keyNode := s.node },
      { s with ring := { s.ring with seqs := setAt s.ring.seqs c (s.ring.seqs.getD c 0 + 1) } })

/-- Originate a frame: a MEMBER sends both copies; any other hub discards it and counts it (R226). -/
def State.originateAs (s : State) (f : RingFrame) (key : Option (Half × Byte)) : State :=
  if s.ring.sync == .member then
    let p := s.sequence f key
    p.2.sendCopies p.1
  else (s.inc Addr.ringTransitDropCount).event Addr.ringEvents 9

/-- Originate a frame under this hub's own key. -/
def State.originate (s : State) (f : RingFrame) : State := s.originateAs f none

/-- A ring control frame (R217): its code, the port concerned, REPLY, and the skipped nodes of a HEAL. -/
def State.controlFrame (s : State) (code : Nat) (port : RingPort) (reply : Bool) (skipped : List Nat) : RingFrame :=
  let k0 := code + (match port with | .east => 0 | .west => 2 ^ 8) + ofBool reply * 2 ^ 9
  s.newFrame .t 7 254 s.ringNo.toNat [word k0] (skipped.map word)

/-- Unit `u` reports a Transit cause (R29, R224): every mismatch raises RING_TOPOLOGY_MISMATCH; a hub already in Transit
stays as it is. -/
def State.enterTransitAs (s : State) (u : HubUnit) (cause : Nat) : State :=
  let s :=
    if s.ring.sync == .transit then s
    else { s with ring := { s.ring with sync := .transit, cause := cause } }.event Addr.ringEvents 1
  s.raise u .ringTopologyMismatch cause none

/-- Enter Transit for a cause that the ring engine reports. -/
def State.enterTransit (s : State) (cause : Nat) : State := s.enterTransitAs .ring cause

/-- A declaration that the hub as seen does not match is written (R2, R29): a mismatch with cause 3, or, before release, one
that phase 5 finds (R403). -/
def State.misdeclared (s : State) : State :=
  if s.start.released then s.enterTransit 3 else { s with start := { s.start with transitCause := 3 } }

/-- A hub declared a bridge whose declaration is not met as it is written (R241). -/
def State.bridgeCheck (s : State) : State :=
  if s.start.released && s.flag Addr.ringBridge 0 && s.declaredMismatch then s.enterTransit 3 else s

/-- Enter Transit if a cause stands and the hub, released, is not yet there (R224, R407). -/
def State.transitCheck (s : State) : State :=
  if !s.start.released || s.ring.sync == .transit || s.standingCause == 0 then s else s.enterTransit s.standingCause

/-- DOWN leads through JOINING to MEMBER as soon as a ring port is ACTIVE with a matching identity and no cause stands;
the ring engine may leave DOWN only after release (R224, R407). -/
def State.ringJoin (s : State) : State :=
  if s.ring.sync == .down && s.start.released && s.enabled .ring && s.standingCause == 0
      && ((s.active .east && (s.link .east).matched) || (s.active .west && (s.link .west).matched)) then
    let s := { s with ring := { s.ring with sync := .member, epoch := s.ring.epoch + 1, seqs := [0, 0, 0, 0] } }
    (s.originate (s.controlFrame 1 .east false [])).event Addr.ringEvents 0
  else s

/-- RING_PRESENT of node `n`. -/
def State.present (s : State) (n : Nat) : Bool := s.flag (Addr.ringPresent (n / 32)) (n % 32)

/-- Break the held semaphore `n` for a reason of R257. -/
def State.semBreak (s : State) (n reason : Nat) : State :=
  (({ s with bridge := { s.bridge with sems := Store.put none s.bridge.sems n none } }.event Addr.bridgeEvents 2).raise
    .bridge .semaphoreBroken reason (some (s.hubAddr (Addr.bridgeSem n))))

/-- Break every semaphore whose owner `p` admits. -/
def State.semBreakWhere (s : State) (reason : Nat) (p : SemOwner → Bool) : State :=
  s.each (List.range 32) fun s n =>
    match Store.get none s.bridge.sems n with
    | none => s
    | some o => if p o then s.semBreak n reason else s

/-- Set the presence of node `n`; a change sets MEMBERSHIP, and clearing it breaks the node's semaphores (R228, R257). -/
def State.setPresent (s : State) (n : Nat) (b : Bool) : State :=
  if s.present n = b then s
  else
    let s := (s.setFlag (Addr.ringPresent (n / 32)) (n % 32) b).event Addr.ringEvents 4
    if b then s else (s.pairAbsent n).semBreakWhere 2 fun o => o.node.toNat == n && o.ring == s.ringNo

/-- Both spans of the hub at position `i` are broken (R234). -/
def State.cutOff (s : State) (i : Nat) : Bool :=
  s.ring.broken.contains i && s.ring.broken.contains ((i + s.nodes - 1) % s.nodes)

/-- Record a broken span reported by node `n` at `port`; a hub with both spans broken is recorded absent (R234). -/
def State.spanBroken (s : State) (n : Nat) (port : RingPort) : State :=
  match s.spanAt n port with
  | none => s
  | some i =>
    let s := if s.ring.broken.contains i then s else { s with ring := { s.ring with broken := s.ring.broken ++ [i] } }
    s.each [i, (i + 1) % s.nodes] fun s j =>
      if s.cutOff j && s.orderAt j != s.node.toNat then s.setPresent (s.orderAt j) false else s

/-- Clear a broken span, and record the skipped hubs absent (R234). -/
def State.spanHealed (s : State) (n : Nat) (port : RingPort) (skipped : List Nat) : State :=
  let s :=
    match s.spanAt n port with
    | none => s
    | some i => { s with ring := { s.ring with broken := s.ring.broken.filter (· != i) } }
  s.each skipped fun s k => s.setPresent k false

/-- The hubs skipped at `port` when the identity `k` places further is seen (R223). -/
def State.skippedNodes (s : State) (port : RingPort) (k : Nat) : List Nat :=
  match s.position s.node.toNat with
  | none => []
  | some i => (List.range k).map fun j =>
      match port with
      | .east => s.orderAt ((i + 1 + j) % s.nodes)
      | .west => s.orderAt ((i + s.nodes - 1 - j % s.nodes) % s.nodes)

/-- How many hubs an identity seen at `l` skips, if it matches (R195, R223): the declared neighbour skips none. -/
def State.matchIdentity (s : State) (l : Port) (id : LinkIdentity) : Option Nat :=
  let nb := s.reg (linkReg l Addr.linkNeighbour)
  if id.node.toNat = bits nb 0 8 ∧ id.ring.toNat = bits nb 8 4 ∧ id.port.toNat = bits nb 12 2 then some 0
  else
    match l, s.position s.node.toNat, s.position id.node.toNat with
    | .pair, _, _ => none
    | _, some i, some j =>
      let d := match l with
        | .east => (j + s.nodes - i) % s.nodes
        | _ => (i + s.nodes - j) % s.nodes
      let facing : Nat := match l with | .east => 1 | _ => 0
      if id.ring = s.ringNo ∧ id.port.toNat = facing then
        ((List.range (s.field Addr.ringCtrl 24 2)).map (· + 1)).find? fun k => (k + 1) % s.nodes == d
      else none
    | _, _, _ => none

/-- The break bit of a ring port (R233). -/
def State.breakOf (s : State) : RingPort → Bool
  | .east => s.ring.breakEast
  | .west => s.ring.breakWest
def State.setBreak (s : State) (p : RingPort) (b : Bool) : State :=
  match p with
  | .east => { s with ring := { s.ring with breakEast := b } }
  | .west => { s with ring := { s.ring with breakWest := b } }

/-- A ring port has left ACTIVE (R233, R224). -/
def State.ringPortDown (s : State) (p : RingPort) : State :=
  let s := ((s.setBreak p true).event Addr.ringEvents 2).raise .ring .ringBreak 0 none
  let s := s.spanBroken s.node.toNat p
  let s :=
    if s.ring.sync == .member && s.active (ringLink (otherPort p)) then s.originate (s.controlFrame 3 p false [])
    else s
  if s.ring.sync == .member && s.livePorts.isEmpty then { s with ring := { s.ring with sync := .down } } else s

/-- A ring port has reached ACTIVE with an identity that matches, skipping `k` hubs (R233, R235, R224). A hub that was DOWN
joins first, so that its HEAL is sent. -/
def State.ringPortUp (s : State) (p : RingPort) (k : Nat) : State :=
  let s := s.ringJoin
  let skipped := s.skippedNodes p k
  if s.breakOf p then
    let s := ((s.setBreak p false).spanHealed s.node.toNat p skipped).event Addr.ringEvents 3
    if s.ring.sync == .member then s.originate (s.controlFrame 4 p false skipped) else s
  else s.each skipped fun s n => s.setPresent n false

end Sys2Proof.Machine
end

