-- ==== Sys2Proof/Machine/Time.lean ====
section
/-! DEFINITION. Fabric time (chapter 4): rate and step, the servo and TIME_STATE, the clock lanes, PTP, IRIG-B, 1PPS,
PPS_OUT, and the words of the TIME block. -/

namespace Sys2Proof.Machine

/-- The source that a SOURCE field selects: 6 and 7 act as 0 (R85). -/
def sourceOfField (n : Nat) : Nat := if n < 6 then n else 0

/-- RATE takes a new value and OFFSET keeps fabric time continuous (R82). -/
def State.setRate (s : State) (new : Int) : State :=
  let old := s.rate
  let r := wordSat new
  let adj := floorDiv (Int.ofNat s.now * 5 * (old - r.toInt)) (2 ^ 25)
  { s.setReg Addr.timeRate r with time := { s.time with offset := s.time.offset + BitVec.ofInt 80 adj } }

/-- A step adds `d` (2^-16 ns) to OFFSET and to T0, raises TIME_STEP, makes the instances that a forward step passes
late with cause 2, and moves the gate lists (R83, R130, R295). The stamp of the last pin crossing moves with it, so that a period is not measured across
the step (log entry 52). -/
def State.stepTime (s : State) (d : Int) : State :=
  let t := { s with
    time := { s.time with offset := s.time.offset + BitVec.ofInt 80 d },
    angle := { s.angle with
      t0 := s.angle.t0 + BitVec.ofInt 80 d,
      lastCrossing := if s.field Addr.angleCtrl 0 2 = 1 then s.angle.lastCrossing.map (· + d) else s.angle.lastCrossing } }
  (((s.ephMark t 2 fun _ => true).gateStepped d).event Addr.timeEvents 1).raise .time .timeStep 0 none

/-- The interval between expected measurements of a source in ns (R86). -/
def State.interval (s : State) (source : Nat) : Nat :=
  if source = 1 then 125000 * 2 ^ min 6 (s.field Addr.timeCtrl 8 4) else 1000000000

/-- LOSS_COUNT, where 0 acts as 1 (R107). -/
def State.lossCount (s : State) : Nat := atLeast1 (s.field Addr.timeServo 24 4)

/-- STEP_THRESHOLD in 2^-16 ns. -/
def State.stepThreshold (s : State) : Int := Int.ofNat (s.field Addr.timeServo 0 16 * 65536)

/-- RATE is the frequency term, without a slew term (R86, R87, R88). -/
def State.endSlew (s : State) : State :=
  { s.setRate s.time.rateF with time := { (s.setRate s.time.rateF).time with slewing := false } }

/-- The frequency term from the last 16 accepted measurements (R86): the mean rate over the time they span. -/
def meanRate (h : List (Nat × Int)) (old : Int) : Int :=
  match h, h.getLast? with
  | (c1, t1) :: _, some (c0, t0) =>
    if c0 < c1 then roundDiv ((t1 - t0) * 2 ^ 40) ((c1 - c0) * 163840) - 2 ^ 40 else old
  | _, _ => old

/-- Slew by θ over one interval (R86). -/
def State.slew (s : State) (theta : Int) (interval : Nat) : State :=
  let lim := roundDiv (Int.ofNat (s.field Addr.timeServo 16 8) * 2 ^ 40) 1000000
  let term := max (-lim) (min lim (roundDiv (theta * 2 ^ 40) (interval * 65536)))
  let s := s.setRate (s.time.rateF + term)
  { s with time := { s.time with slewing := true } }

/-- TIME_STATE reaches LOCKED: the Ephemeris that waits for it is enabled (R87, R407). -/
def State.reachLocked (s : State) : State :=
  let s := { s with time := { s.time with sync := .locked } }.event Addr.timeEvents 0
  if s.start.waitLock then
    ({ s.setFlag Addr.ephemUnitCtrl 0 true with
        start := { s.start with waitLock := false, ephHold := false } }).ephMarkAll
  else s

/-- The transitions that a measurement makes (R87). The measurement that moves HOLDOVER to ACQUIRING is itself the first
that may count to the four (log entry 133). -/
def State.syncMeasured (s : State) (theta : Int) (stepped : Bool) : State :=
  let s := if s.time.sync == .holdover then { s with time := { s.time with sync := .acquiring, good := 0 } } else s
  match s.time.sync with
  | .acquiring =>
    let g := if Int.natAbs theta < 6553600 then s.time.good + 1 else 0
    let s := { s with time := { s.time with good := g } }
    if 4 ≤ g then s.reachLocked else s
  | .locked => if stepped then { s with time := { s.time with sync := .acquiring, good := 0 } } else s
  | _ => s

/-- A valid measurement gives θ in 2^-16 ns (R86, R87). In FREE_RUN the hub goes on at the last RATE_F (R88, log entry
50). -/
def State.servo (s : State) (theta : Int) : State :=
  let s := s.setReg Addr.timeLastTheta (wordSat (Int.fdiv theta 256))
  let src := s.time.source
  if s.time.sync == .freeRun then s
  else
  let s :=
    if src = 1 then s
    else
      let h := ((s.now, s.time16 + theta) :: s.time.history).take 16
      { s with time := { s.time with history := h, rateF := meanRate h s.time.rateF } }
  let stepped := decide (s.stepThreshold ≤ Int.ofNat (Int.natAbs theta))
  let s := if stepped then s.endSlew.stepTime theta else s.slew theta (s.interval src)
  s.syncMeasured theta stepped

/-- A write of TIME_CTRL.SOURCE (R87, R88). -/
def State.selectSource (s : State) (new : Nat) : State :=
  if s.time.source = new then s
  else
    let s := s.endSlew
    let s := { s with time := { s.time with source := new, history := [], good := 0, backupRun := 0, backupTaken := false } }
    if new = 0 then { s with time := { s.time with sync := .freeRun } }
    else { s with time := { s.time with sync := .acquiring } }

/-- A write of TIME_RATE: it takes effect while SOURCE is 0 and is ignored otherwise (R85). -/
def State.timeRateWrite (s : State) (v : Word) : State :=
  if s.time.source = 0 then
    let s := s.setRate v.toInt
    { s with time := { s.time with rateF := v.toInt } }
  else s

/-- A committed TIME_STEP_CMD with GO 1 steps by TIME_STEP_NS (R83). -/
def State.timeStepGo (s : State) (v : Word) : State :=
  if bit v 0 then
    s.stepTime (signed 64 ((s.reg Addr.timeStepNsLo).toNat + (s.reg Addr.timeStepNsHi).toNat * 2 ^ 32) * 65536)
  else s

/-- CLOCK_DIR as a ring port (R107). -/
def State.clockDir (s : State) : RingPort := if s.flag Addr.timeCtrl 5 then .west else .east

/-- A clock lane is present (R188). -/
def State.lane (s : State) : RingPort → Bool
  | .east => s.time.laneEast
  | .west => s.time.laneWest
def State.setLane (s : State) (p : RingPort) (b : Bool) : State :=
  match p with
  | .east => { s with time := { s.time with laneEast := b } }
  | .west => { s with time := { s.time with laneWest := b } }

/-- LINE's clock from a lane. -/
def lineOf : RingPort → LineClock
  | .east => .east | .west => .west

/-- LINE locks to the lane of `p`; CLOCK_SWAP is set if that direction differs from the one last in use (R90). -/
def State.relock (s : State) (p : RingPort) : State :=
  let t := { s with time := { s.time with lineClock := lineOf p, activeWest := p == .west } }
  if s.time.activeWest == (p == .west) then t else t.event Addr.timeEvents 4

/-- LINE takes a present clock lane if it runs from none, the configured one first: never at the clock root (R89, R90). -/
def State.lineTake (s : State) : State :=
  if s.flag Addr.timeCtrl 6 then s
  else
    match s.time.lineClock with
    | .reference | .hold =>
      if s.lane s.clockDir then s.relock s.clockDir
      else if s.lane (otherPort s.clockDir) then s.relock (otherPort s.clockDir)
      else s
    | _ => s

/-- LINE after CLOCK_ROOT has been written (R89): the root runs from its reference, and a hub that is no longer root takes
a lane, or holds without one. -/
def State.lineReview (s : State) (wasRoot : Bool) : State :=
  if s.flag Addr.timeCtrl 6 then { s with time := { s.time with lineClock := .reference } }
  else (if wasRoot then { s with time := { s.time with lineClock := .hold } } else s).lineTake

/-- The TIME block's own state after a reset: the clock lanes are what they are, and LINE takes one that is present,
EAST first, as CLOCK_DIR then names it (R89, R90). -/
def TimeState.afterReset (x : TimeState) : TimeState :=
  { laneEast := x.laneEast, laneWest := x.laneWest, activeWest := !x.laneEast && x.laneWest
    lineClock := if x.laneEast then .east else if x.laneWest then .west else .reference }

/-- A write into the TIME block other than UNIT_CTRL and the guarded pair. -/
def State.timeWrite (s : State) (i : Initiator) (a : Nat) (v : Word) : State :=
  if a = Addr.timeCtrl then
    ((s.plainWrite a v).selectSource (sourceOfField (bits v 0 3))).lineReview (s.flag a 6)
  else if a = Addr.timeRate then s.timeRateWrite v
  else if a = Addr.timeEvents then s.sqWrite a v
  else if a = Addr.timeStepNsLo then s.stageLow i a v
  else if a = Addr.timeStepNsHi then s.commitHigh i a v
  else s.plainWrite a v

/-- TIME_STATE (R107). -/
def State.timeStateWord (s : State) : Word :=
  let st : Nat := match s.time.sync with | .freeRun => 0 | .acquiring => 1 | .locked => 2 | .holdover => 3
  word (st + s.time.source * 8 + ofBool s.time.activeWest * 64 + ofBool (s.time.lineClock == .hold) * 128
    + s.time.masterNode.toNat * 256)

/-- What a read of a TIME word shows instead of the stored word. -/
def State.timeView (s : State) (a : Nat) : Option Word :=
  if a = Addr.timeState then some s.timeStateWord
  else if a = Addr.timeNowNsLo then some (word s.timeNs)
  else if a = Addr.timeNowNsHi then some (word (s.timeNs / 2 ^ 32))
  else if a = Addr.timeNowFrac then some (word (s.time16 % 65536).toNat)
  else if a = Addr.timeFrcLo then some (word s.now)
  else if a = Addr.timeFrcHi then some (word (s.now / 2 ^ 32))
  else if a = Addr.timeOffsetNsLo then some (word (s.time.offset.toNat / 2 ^ 16))
  else if a = Addr.timeOffsetNsHi then some (word (s.time.offset.toNat / 2 ^ 48))
  else if a = Addr.timeOffsetFrac then some (word (s.time.offset.toNat % 2 ^ 16))
  else none

/-- A read of TIME_NOW_NS_LO latches the two words above it (R84). -/
def State.latchNow (s : State) (i : Initiator) : State :=
  (s.latch i Addr.timeNowNsHi (word (s.timeNs / 2 ^ 32))).latch i Addr.timeNowFrac (word (s.time16 % 65536).toNat)

/-- TIME_SOURCE_LOST is raised. -/
def State.sourceLost (s : State) : State :=
  (s.event Addr.timeEvents 2).raise .time .timeSourceLost 0 none

/-- R87: LOSS_COUNT intervals without a valid measurement. -/
def execTimeSourceLossTimeout (s : State) : Host.Outcome State Fault Refusal :=
  if !s.start.logicUp then .next s else
  match s.time.sync with
  | .locked => .next ({ s.endSlew with time := { s.endSlew.time with sync := .holdover } }).sourceLost
  | .acquiring => .next ({ s.endSlew with time := { s.endSlew.time with sync := .freeRun } }).sourceLost
  | _ => .next s

/-- R86: a measurement of the selected source. -/
def execServoMeasurement (source : Fin 8) (theta : Int) (s : State) : Host.Outcome State Fault Refusal :=
  if !s.start.logicUp then .next s else
  if s.time.source ≠ 0 ∧ sourceOfField source.val = s.time.source then .next (s.servo theta) else .next s

/-- R86: the slew term is removed. -/
def execSlewTermExpiry (s : State) : Host.Outcome State Fault Refusal :=
  if !s.start.logicUp then .next s else
  if s.time.slewing then .next s.endSlew else .next s

/-- The lane that LINE relocks to when it can: none at the clock root (R89, R90). -/
def State.lineLost (s : State) (p : RingPort) : State :=
  if s.flag Addr.timeCtrl 6 then s
  else if s.time.lineClock == lineOf p then
    if s.lane (otherPort p) then s.relock (otherPort p)
    else { s with time := { s.time with lineClock := .hold } }
  else s

/-- R90: a clock lane is present again; LINE takes it if it has none. -/
def execClockLaneReturn (l : RingPort) (s : State) : Host.Outcome State Fault Refusal :=
  let s := s.setLane l true
  if !s.start.logicUp then .next s
  else
  .next (s.setLink (ringLink l) { s.link (ringLink l) with clockOk := true }).lineTake

/-- R90: the configured lane has been clean for 1 s and LINE returns to it. -/
def execClockDirReturn (s : State) : Host.Outcome State Fault Refusal :=
  if !s.start.logicUp then .next s else
  if !s.flag Addr.timeCtrl 6 && s.lane s.clockDir && s.time.lineClock != lineOf s.clockDir then
    .next (s.relock s.clockDir)
  else .next s

/-- R91: a window of 3,125,000 LINE cycles counted `count` CORE cycles in units of 1/64. -/
def execLineWindowComplete (count : Nat) (s : State) : Host.Outcome State Fault Refusal :=
  if !s.start.logicUp then .next s else
  if s.flag Addr.timeCtrl 6 || s.time.source != 1 || count == 0 then .next s
  else
    let f := roundDiv ((2 ^ 40 + s.time.rateRoot) * 256000000) count - 2 ^ 40
    let diff := f - s.time.rateF
    let s := { s with time := { s.time with rateF := f } }
    .next (s.setRate (s.rate + diff))

/-- ROLE of a station port (R102). -/
def State.ptpRole (s : State) (p : Fin 2) : Nat := s.field (Addr.timePtpSta0 + 4 * p.val) 0 2

def State.ptpPort (s : State) (p : Fin 2) : PtpPort := s.ptp.getD p.val {}
def State.setPtp (s : State) (p : Fin 2) (x : PtpPort) : State := { s with ptp := setAt s.ptp p.val x }

/-- A time in ps as a count of 2^-16 ns, rounded down (log entry 138). -/
def psTime (ps : Int) : Int := Int.fdiv (ps * 65536) 1000

/-- The internal latencies of a station port in ps: transmit, then receive, by SPEED (R97). -/
def State.staLatency (s : State) (p : Fin 2) : Int × Int :=
  if s.flag (Addr.staCtrl p.val) 0 then (56000, 72000) else (25600, 32000)

/-- TX_CORR and RX_CORR of a station port, signed ps (R98). -/
def State.staCorr (s : State) (p : Fin 2) : Int × Int :=
  if p = 0 then ((s.reg Addr.timeCorrSta0Tx).toInt, (s.reg Addr.timeCorrSta0Rx).toInt)
  else ((s.reg Addr.timeCorrSta1Tx).toInt, (s.reg Addr.timeCorrSta1Rx).toInt)

/-- The time at the balls of a frame that station port `p` now sends (R97). -/
def State.staTxStamp (s : State) (p : Fin 2) : Int := s.time16 + psTime ((s.staLatency p).1 + (s.staCorr p).1)

/-- The time at the balls of a frame that station port `p` stamped at `stamp` (R97). -/
def State.staRxStamp (s : State) (p : Fin 2) (stamp : Int) : Int :=
  stamp - psTime ((s.staLatency p).2 + (s.staCorr p).2)

/-- DOMAIN of a station port (R101). -/
def State.ptpDomain (s : State) (p : Fin 2) : Byte := BitVec.ofNat 8 (s.field (Addr.timePtpSta0 + 4 * p.val) 8 8)

/-- Station port `p` sends a PTP message in its domain, under the hub's EUI-64 (R101). -/
def State.ptpSend (s : State) (p : Fin 2) (m : PtpMessage) : State :=
  s.emit (.ptp p ⟨s.ptpDomain p, s.fuses.eui64, m⟩)

/-- A Sync measurement of port `p` (R85, R102): the origin and correction, the peer delay, less the receive stamp. -/
def State.ptpMeasure (s : State) (p : Fin 2) (source stamp : Int) : State :=
  if s.ptpRole p = 1 ∧ s.time.source = 2 + p.val then s.servo (source + (s.ptpPort p).meanDelay - stamp) else s

/-- R101: a PTP message arrives at a station port, stamped `edge` by the port in 2^-16 ns. A message of another domain is not
the port's. -/
def execPtpMessageReceive (p : Fin 2) (f : PtpFrame) (edge : Int) (s : State) : Host.Outcome State Fault Refusal :=
  if !s.start.logicUp then .next s else
  if s.ptpRole p = 0 ∨ f.domain ≠ s.ptpDomain p then .next s
  else
    let x := s.ptpPort p
    let stamp := s.staRxStamp p edge
    match f.msg with
    | .sync seq true _ corr => .next (s.setPtp p { x with syncSeq := some (seq, stamp - corr) })
    | .sync _ false origin corr => .next (s.ptpMeasure p (origin + corr) stamp)
    | .followUp seq origin corr =>
      match x.syncSeq with
      | some (q, t) =>
        if q = seq then .next ((s.setPtp p { x with syncSeq := none }).ptpMeasure p (origin + corr) t) else .next s
      | none => .next s
    | .pdelayReq seq corr => .next (s.ptpSend p (.pdelayResp seq false stamp (corr + (s.staTxStamp p - stamp))))
    | .pdelayResp seq false _ corr =>
      match x.pdelayT1 with
      | some (q, t1) =>
        if q = seq then .next (s.setPtp p { x with pdelayT1 := none, meanDelay := Int.fdiv (stamp - t1 - corr) 2 })
        else .next s
      | none => .next s
    | .pdelayResp seq true t2 corr =>
      match x.pdelayT1 with
      | some (q, t1) =>
        if q = seq then .next (s.setPtp p { x with pdelayT4 := some (seq, stamp - t1 - corr, t2) }) else .next s
      | none => .next s
    | .pdelayRespFollowUp seq t3 corr =>
      match x.pdelayT4 with
      | some (q, d, t2) =>
        if q = seq then
          .next (s.setPtp p { x with pdelayT1 := none, pdelayT4 := none, meanDelay := Int.fdiv (d - (t3 - t2) - corr) 2 })
        else .next s
      | none => .next s
    | .announce _ _ => .next s

/-- A new peer-delay exchange of station port `p`. -/
def State.pdelayStart (s : State) (p : Fin 2) : State :=
  let x := s.ptpPort p
  s.setPtp p { x with seq := x.seq + 1, pdelayT1 := some (x.seq, s.staTxStamp p), pdelayT4 := none }

/-- R102: the messages a station port sends each 1 s interval. -/
def execPtpMessageSend (p : Fin 2) (s : State) : Host.Outcome State Fault Refusal :=
  if !s.start.logicUp then .next s else
  let n := (s.ptpPort p).seq
  let role := s.ptpRole p
  if role = 2 ∧ (s.time.sync = .locked ∨ s.time.sync = .holdover) then
    let cc : Byte := if s.time.sync == .locked then 6 else 7
    .next ((((s.pdelayStart p).ptpSend p (.sync n false (s.staTxStamp p) 0)).ptpSend p (.announce n cc)).ptpSend p
      (.pdelayReq n 0))
  else if role = 1 ∨ role = 2 then .next ((s.pdelayStart p).ptpSend p (.pdelayReq n 0))
  else .next s

def tinCtrl (k : Fin 2) : Nat := Addr.timeTin0Ctrl + 4 * k.val
def State.tin (s : State) (k : Fin 2) : TinState := s.tins.getD k.val {}
def State.setTin (s : State) (k : Fin 2) (x : TinState) : State := { s with tins := setAt s.tins k.val x }

/-- Days from 1 January 1970 to 1 January of a year. -/
def daysToYear (y : Nat) : Nat := 365 * (y - 1970) + ((y - 1) / 4 - 492) - ((y - 1) / 100 - 19) + ((y - 1) / 400 - 4)

/-- The TAI second that an IRIG-B frame gives (R104): formats 4 to 7 carry the year, the others take TIME_TIN_YEAR. -/
def State.irigSecond (s : State) (k : Fin 2) (f : IrigFrame) : Nat :=
  let c := s.reg (tinCtrl k)
  let utc := if 4 ≤ bits c 4 3 then f.second else daysToYear (s.field Addr.timeTinYear 0 16) * 86400 + f.secondOfYear
  let utc := if bit c 3 then (Int.ofNat utc - f.localOffset).toNat else utc
  utc + s.field Addr.timeTaiUtc 0 16

/-- R104: an IRIG-B frame decoded after the on-time edge stamped `edge` (2^-16 ns). A measurement is valid once two
consecutive frames have decoded without error and one second apart. With CF_LOCAL 1 the leap-second bits of a frame of the
selected input load LEAP_PENDING and LEAP_MINUS, and a frame whose time quality is 15, a failed clock, gives no measurement
(log entry 134). -/
def execIrigBFrameReceive (k : Fin 2) (f : IrigFrame) (edge : Int) (s : State) : Host.Outcome State Fault Refusal :=
  if !s.start.logicUp then .next s else
  let c := s.reg (tinCtrl k)
  if !bit c 0 || bit c 1 then .next s
  else if !f.good then .next (s.setTin k {})
  else
    let sec := s.irigSecond k f
    let x := s.tin k
    let ok := decide (1 ≤ x.good) && decide (sec = x.lastSecond + 1)
    let s := s.setTin k { good := if ok then x.good + 1 else 1, lastSecond := sec }
    if ok ∧ s.time.source = 4 + k.val then
      let s := if bit c 3 then s.setField Addr.timeTaiUtc 16 2 (ofBool f.leapPending + ofBool f.leapMinus * 2) else s
      if bit c 3 && f.quality == 15 then .next s
      else .next (s.servo (Int.ofNat sec * 65536000000000 - edge))
    else .next s

/-- R105: a 1PPS edge stamped `edge` is taken as the nearest whole TAI second. -/
def execTinPpsEdge (k : Fin 2) (edge : Int) (s : State) : Host.Outcome State Fault Refusal :=
  if !s.start.logicUp then .next s else
  let c := s.reg (tinCtrl k)
  if !bit c 0 || !bit c 1 then .next s
  else
    let theta := roundDiv edge 65536000000000 * 65536000000000 - edge
    if Int.natAbs theta < 26214400000000 ∧ s.time.source = 4 + k.val then .next (s.servo theta) else .next s

/-- PPS_OUT may be driven (R106). -/
def State.ppsEnabled (s : State) : Bool :=
  s.flag Addr.timePpsOut 0
    && (s.flag Addr.timePpsOut 1 || s.time.sync == .locked || s.time.sync == .holdover)

/-- The level of PPS_OUT: high within a pulse while it may be driven, low otherwise and in reset (R106). -/
def State.ppsOut (s : State) : Bool := s.start.logicUp && s.time.ppsHigh && s.ppsEnabled

/-- R106: a whole TAI second of fabric time. -/
def execPpsOutSecond (s : State) : Host.Outcome State Fault Refusal :=
  if !s.start.logicUp then .next s else
  if s.ppsEnabled then .next { s with time := { s.time with ppsHigh := true } } else .next s

/-- R106: WIDTH_MS after its rise. -/
def execPpsOutWidthEnd (s : State) : Host.Outcome State Fault Refusal :=
  if !s.start.logicUp then .next s else
  .next { s with time := { s.time with ppsHigh := false } }

end Sys2Proof.Machine
end

