-- ==== Sys2Proof/Machine/Angle.lean ====
section
/-! DEFINITION. The mains angle (chapter 4): crossings, sampled values, the tracker's states and the words of the ANGLE
block. -/

namespace Sys2Proof.Machine

/-- A posted write frame of this hub (R216, R217) with type header word T0 given. -/
def State.postedFrame (s : State) (cls : RingClass) (dstNode dstRing : Nat) (t0 : Word) (a : FabricAddr)
    (data : List Word) : RingFrame :=
  s.newFrame cls 1 dstNode dstRing
    [t0, word a.toNat, word (bits a 32 16 + (data.length - 1) * 2 ^ 16)] data

/-- Send a beacon as a class T posted write to node 254, space 0 (R93, R113). The spec gives T0 of a beacon no value: it
is a free value (log entry 3). -/
def State.sendBeacon (s : State) (off : Nat) (data : List Word) : State :=
  (s.originate (s.postedFrame .t 254 s.ringNo.toNat (Config.freeWord s.free)
    (fabricAddr s.ringNo.toNat 254 0 off) data)).nextFree

/-- Cycles passed since T0 at fabric time `t` (2^-16 ns), in units of 2^-32 cycle (R114). -/
def State.angleAt (s : State) (t : Int) : Int :=
  Int.fdiv ((t - Int.ofNat s.angle.t0.toNat) * Int.ofNat s.angle.freq.toNat) (1000000000 * 2 ^ 8)

/-- ANGLE at the present time (R114). -/
def State.angleNow (s : State) : Word := wordInt (s.angleAt s.time16)

/-- CYCLE at fabric time `t` (R114). -/
def State.cycleAt (s : State) (t : Int) : Word := s.angle.cycle + wordInt (Int.fdiv (s.angleAt t) (2 ^ 32))

/-- Angle `a` as a time at the frequency `f`, in 2^-16 ns (R109); 0 while FREQ is 0 (log entry 135). -/
def angleAsTime (a f : Nat) : Int := if f = 0 then 0 else Int.ofNat (a * 1000000000 * 2 ^ 8 / f)

/-- The signed jump of a new angle zero at `t` against the extrapolated angle (R112). -/
def State.jumpOf (s : State) (t : Int) : Int := -(wordInt (s.angleAt t)).toInt

/-- A jump beyond ANGLE_JUMP_LIMIT is a re-lock (R112). -/
def State.relocks (s : State) (jump : Int) : Bool := decide ((s.reg Addr.angleJumpLimit).toNat < Int.natAbs jump)

/-- What a re-lock shows (R112). -/
def State.relockTest (s : State) (jump : Int) : State :=
  if s.relocks jump then
    (s.setReg Addr.angleLastJump (wordInt jump)).event Addr.angleEvents 2
  else s

/-- A period of a mains cycle lies in 1/70 s to 1/40 s, in 2^-16 ns (R111). -/
def periodInRange (p : Int) : Bool := decide (936228571429 ≤ p) && decide (p ≤ 1638400000000)

/-- ANGLE_UNLOCK is raised and counted. -/
def State.angleUnlock (s : State) : State :=
  (s.inc Addr.angleUnlockCount).raise .angle .angleUnlock 0 none

/-- The tracker starts acquiring: no crossing, no runs (R111). -/
def AngleState.restart (x : AngleState) : AngleState :=
  { x with sync := .acquiring, lastCrossing := none, lastPeriod := none, goodRun := 0, badRun := 0 }

/-- Tracking is lost: LOCKED goes to ACQUIRING (R111, R498). -/
def State.trackingLost (s : State) : State :=
  (({ s with angle := s.angle.restart }).event Addr.angleEvents 1).angleUnlock

/-- LOCKED or FOLLOWING is entered. -/
def State.angleGained (s : State) (sync : AngleSync) : State :=
  ({ s with angle := { s.angle with sync := sync }, ephem := { s.ephem with unlockTold := false } }).event
    Addr.angleEvents 0

/-- The angle beacon's words (R113). -/
def State.angleBeaconWords (s : State) : List Word :=
  let t := s.angle.t0.toNat
  let st : Nat := match s.angle.sync with | .freeRun => 0 | .acquiring => 1 | .locked => 2 | .following => 3
  [s.angle.cycle, word (t / 2 ^ 48), word (t / 2 ^ 16), word (t % 2 ^ 16 * 2 ^ 16 + st * 2 ^ 8), s.angle.freq]

/-- A crossing at fabric time `t` (2^-16 ns): FREQ from a qualifying period, the new T0, CYCLE + 1, or at a re-lock the
cycle nearest the extrapolation, the re-lock test, the runs of R111 and the master's beacon (R109, R111, R112, R113). -/
def State.crossing (s : State) (t : Int) : State :=
  let x := s.angle
  let period := x.lastCrossing.map (t - ·)
  let good : Bool :=
    match period, x.lastPeriod with
    | none, _ => false
    | some p, none => periodInRange p
    | some p, some q => periodInRange p && decide (Int.natAbs (p - q) ≤ 6553600000)
  let freq : Word :=
    match good, period with
    | true, some p => wordInt (roundDiv (1000000000 * 2 ^ 40) p.toNat)
    | _, _ => x.freq
  let t0 := t - angleAsTime (s.reg Addr.angleRefOffset).toNat freq.toNat
  let jump := if x.freq = 0 then 0 else s.jumpOf t0
  let steps : Int := if s.relocks jump then Int.fdiv (s.angleAt t0 + 2 ^ 31) (2 ^ 32) else 1
  let u := s.relockTest jump
  let u := { u with angle := { u.angle with
    t0 := BitVec.ofInt 80 t0, cycle := x.cycle + wordInt steps, freq := freq, lastCrossing := some t,
    lastPeriod := period, goodRun := if good then x.goodRun + 1 else 0, badRun := if good then 0 else x.badRun + 1 } }
  let u := s.ephAngleMoved u
  let u :=
    match u.angle.sync with
    | .acquiring => if 8 ≤ u.angle.goodRun then u.angleGained .locked else u
    | .locked => if 3 ≤ u.angle.badRun then u.trackingLost else u
    | _ => u
  if good && u.flag Addr.angleCtrl 2 then u.sendBeacon 0x0023_0820 u.angleBeaconWords else u

/-- SOURCE of ANGLE_CTRL. -/
def State.angleSource (s : State) : Nat := s.field Addr.angleCtrl 0 2

/-- R109: a positive edge on a field pin, stamped `edge`; only pin ANGLE_CTRL.PIN with SOURCE 1 gives a crossing. -/
def execAnglePinCrossing (pin : Fin 256) (edge : Int) (s : State) : Host.Outcome State Fault Refusal :=
  if !s.start.logicUp then .next s else
  if s.angleSource = 1 ∧ s.field Addr.angleCtrl 8 8 = pin.val then .next (s.crossing edge) else .next s

/-- The staged words of an initiator, or the words as they stand (R110). -/
def State.svStage (s : State) (i : Initiator) : SvStage :=
  match s.angle.stages.find? fun x => x.who == i with
  | some x => x
  | none => ⟨i, s.reg Addr.angleSvSecond, s.reg Addr.angleSvMeta, s.reg Addr.angleSvRate⟩

/-- A write of ANGLE_SV_SECOND, META or RATE stages the value for its initiator (R110). -/
def State.svStageWrite (s : State) (i : Initiator) (a : Nat) (v : Word) : State :=
  let x := s.svStage i
  let x :=
    if a = Addr.angleSvSecond then { x with second := v }
    else if a = Addr.angleSvMeta then { x with info := v &&& 0xFFFFFF#32 }
    else { x with rate := v &&& 0xFFFFFF#32 }
  let s := s.stage i a (if a = Addr.angleSvSecond then v else v &&& 0xFFFFFF#32)
  { s with angle := { s.angle with stages := x :: s.angle.stages.filter fun y => !(y.who == i) } }

/-- The second whose low 32 bits are `lo` and that lies nearest to second `now` (R110). -/
def nearestSecond (lo now : Nat) : Int := Int.ofNat now + signed 32 ((lo + 2 ^ 32 - now % 2 ^ 32) % 2 ^ 32)

/-- A write to ANGLE_SV_PUSH commits one sample (R110). -/
def State.svPush (s : State) (i : Initiator) (v : Word) : State :=
  let x := s.svStage i
  let s := ((s.setReg Addr.angleSvSecond x.second).setReg Addr.angleSvMeta x.info).setReg Addr.angleSvRate x.rate
  let s := ((s.unstage i Addr.angleSvSecond).unstage i Addr.angleSvMeta).unstage i Addr.angleSvRate
  if s.angleSource ≠ 2 ∨ bits x.info 16 8 ≠ s.field Addr.angleCtrl 16 8 then s
  else
    let smp := bits x.info 0 16
    let rate := bits x.rate 0 24
    if rate ≤ smp then s.inc Addr.angleSvDropCount
    else
      let t := nearestSecond x.second.toNat (s.timeNs / 1000000000) * 65536000000000
        + Int.ofNat (smp * 65536000000000 / rate)
      let late := match s.angle.lastSample with | some (p, _) => decide (t ≤ p) | none => false
      if late || decide (65536000000000 < Int.natAbs (t - s.time16)) then s.inc Addr.angleSvDropCount
      else
        let u := { s with angle := { s.angle with lastSample := some (t, v.toInt) } }
        match s.angle.lastSample with
        | some (p, w) =>
          if w < 0 ∧ 0 ≤ v.toInt then u.crossing (p + Int.fdiv ((t - p) * (-w)) (v.toInt - w)) else u
        | none => u

/-- A write of ANGLE_CTRL (R498). -/
def State.angleCtrlWrite (s : State) (v : Word) : State :=
  let old := s.reg Addr.angleCtrl
  let s := s.plainWrite Addr.angleCtrl v
  let src := bits v 0 2
  let input (w : Word) : Nat :=
    match src with
    | 1 => bits w 8 8
    | 2 => bits w 16 8
    | _ => bits w 24 8
  if src = 0 then { s with angle := { s.angle with sync := .freeRun } }
  else if src ≠ bits old 0 2 ∨ input v ≠ input old then
    { s with angle := { s.angle.restart with lastSample := none } }
  else s

/-- A write into the ANGLE block other than UNIT_CTRL. -/
def State.angleWrite (s : State) (i : Initiator) (a : Nat) (v : Word) : State :=
  if a = Addr.angleCtrl then s.angleCtrlWrite v
  else if a = Addr.angleEvents then s.sqWrite a v
  else if a = Addr.angleSvPush then s.svPush i v
  else if a = Addr.angleSvSecond ∨ a = Addr.angleSvMeta ∨ a = Addr.angleSvRate then s.svStageWrite i a v
  else s.plainWrite a v

/-- What a read of an ANGLE word shows instead of the stored word. -/
def State.angleView (s : State) (a : Nat) : Option Word :=
  let t := s.angle.t0.toNat
  if a = Addr.angleState then
    some (match s.angle.sync with | .freeRun => 0 | .acquiring => 1 | .locked => 2 | .following => 3)
  else if a = Addr.angleNow then some s.angleNow
  else if a = Addr.angleCycle then some s.angle.cycle
  else if a = Addr.angleFreq then some s.angle.freq
  else if a = Addr.angleT0NsLo then some (word (t / 2 ^ 16))
  else if a = Addr.angleT0NsHi then some (word (t / 2 ^ 48))
  else if a = Addr.angleT0Frac then some (word (t % 2 ^ 16))
  else none

/-- A read of ANGLE_NOW latches CYCLE, FREQ and T0 (R116). -/
def State.latchAngle (s : State) (i : Initiator) : State :=
  let t := s.angle.t0.toNat
  ((((s.latch i Addr.angleCycle s.angle.cycle).latch i Addr.angleFreq s.angle.freq).latch i Addr.angleT0NsLo
    (word (t / 2 ^ 16))).latch i Addr.angleT0NsHi (word (t / 2 ^ 48))).latch i Addr.angleT0Frac (word (t % 2 ^ 16))

/-- R111: no qualifying crossing within 1.5 periods of the last one. -/
def execAngleTrackTimeout (s : State) : Host.Outcome State Fault Refusal :=
  if !s.start.logicUp then .next s else
  if s.angle.sync == .locked then .next s.trackingLost else .next s

/-- R115, R498: a follower receives no beacon for three cycles. -/
def execAngleBeaconLossTimeout (s : State) : Host.Outcome State Fault Refusal :=
  if !s.start.logicUp then .next s else
  if s.angleSource = 3 ∧ (s.angle.sync = .following ∨ s.angle.sync = .acquiring) then
    let s := (s.event Addr.angleEvents 3).angleUnlock
    if s.angle.sync = .following then
      .next ({ s with angle := { s.angle with sync := .acquiring } }.event Addr.angleEvents 1)
    else .next s
  else .next s

end Sys2Proof.Machine
end

