-- ==== Sys2Proof/Machine/PCode.lean ====
section
/-! DEFINITION. The P-profile instruction words (R152): the instructions, their decoder and an encoder. -/

namespace Sys2Proof.Machine

/-- The P-profile instructions with their operands as encoded (R152). -/
inductive PInstr where
  | nop
  | stop
  | sho (n : Fin 32) (dest : Fin 4) (clk : Bool)
  | shi (n : Fin 32) (src : Fin 4) (clk : Bool)
  | fetch (blk : Bool)
  | store (blk : Bool)
  | wait (kind : Fin 8) (arg : Byte)
  | jmp (cond : Fin 8) (target : Byte)
  | addi (toB : Bool) (v : BitVec 10)
  | mov (dest src : Fin 8) (op : Fin 4)
  | setp (dest : Fin 4) (v : Byte)
  | clkset (level : Bool)
  | evt (op : Fin 4) (ev : Fin 8)
  | stamp (what : Fin 4) (blk : Bool)
  deriving DecidableEq, Repr

/-- The operand values that an encoding may carry: others are illegal (R152, R154). -/
def PInstr.wf : PInstr → Bool
  | .sho _ d clk => !clk || d == 0
  | .shi _ d clk => !clk || d == 0
  | .wait k _ => k != 7
  | .mov d r _ => d != 7 && r != 7
  | _ => true

/-- The field of `len` bits at `lo` as an index. -/
def fieldFin {n : Nat} (w : BitVec n) (lo len : Nat) {k : Nat} : Fin (k + 1) := Fin.ofNat (k + 1) (bits w lo len)

/-- The instruction that a word spells, by its fields, before the check of its operand values. -/
def decodePRaw (w : Half) : Option PInstr :=
  match bits w 12 4 with
  | 0 => if bits w 0 12 = 0 then some .nop else if bits w 0 12 = 0xFFF then some .stop else none
  | 1 => if bits w 0 4 = 0 then some (.sho (fieldFin w 7 5) (fieldFin w 5 2) (bit w 4)) else none
  | 2 => if bits w 0 4 = 0 then some (.shi (fieldFin w 7 5) (fieldFin w 5 2) (bit w 4)) else none
  | 3 => if bits w 0 11 = 0 then some (.fetch (bit w 11)) else none
  | 4 => if bits w 0 11 = 0 then some (.store (bit w 11)) else none
  | 5 => if bit w 8 then none else some (.wait (fieldFin w 9 3) (BitVec.ofNat 8 (bits w 0 8)))
  | 6 => if bit w 8 then none else some (.jmp (fieldFin w 9 3) (BitVec.ofNat 8 (bits w 0 8)))
  | 7 => if bit w 10 then none else some (.addi (bit w 11) (BitVec.ofNat 10 (bits w 0 10)))
  | 8 => if bits w 0 4 = 0 then some (.mov (fieldFin w 9 3) (fieldFin w 6 3) (fieldFin w 4 2)) else none
  | 9 => if bits w 8 2 = 0 then some (.setp (fieldFin w 10 2) (BitVec.ofNat 8 (bits w 0 8))) else none
  | 10 => if bits w 1 11 = 0 then some (.clkset (bit w 0)) else none
  | 11 => if bits w 3 7 = 0 then some (.evt (fieldFin w 10 2) (fieldFin w 0 3)) else none
  | 12 => if bits w 0 9 = 0 then some (.stamp (fieldFin w 10 2) (bit w 9)) else none
  | _ => none

/-- The instruction that a word spells; `none` is an illegal encoding (R151, R152). -/
def decodeP (w : Half) : Option PInstr := (decodePRaw w).filter PInstr.wf

/-- The word of an instruction (R152). -/
def encodeP : PInstr → Half
  | .nop => 0x0000
  | .stop => 0x0FFF
  | .sho n d clk => BitVec.ofNat 16 (0x1000 + n.val * 2 ^ 7 + d.val * 2 ^ 5 + ofBool clk * 2 ^ 4)
  | .shi n d clk => BitVec.ofNat 16 (0x2000 + n.val * 2 ^ 7 + d.val * 2 ^ 5 + ofBool clk * 2 ^ 4)
  | .fetch blk => BitVec.ofNat 16 (0x3000 + ofBool blk * 2 ^ 11)
  | .store blk => BitVec.ofNat 16 (0x4000 + ofBool blk * 2 ^ 11)
  | .wait k a => BitVec.ofNat 16 (0x5000 + k.val * 2 ^ 9 + a.toNat)
  | .jmp c a => BitVec.ofNat 16 (0x6000 + c.val * 2 ^ 9 + a.toNat)
  | .addi b v => BitVec.ofNat 16 (0x7000 + ofBool b * 2 ^ 11 + v.toNat)
  | .mov d r o => BitVec.ofNat 16 (0x8000 + d.val * 2 ^ 9 + r.val * 2 ^ 6 + o.val * 2 ^ 4)
  | .setp d v => BitVec.ofNat 16 (0x9000 + d.val * 2 ^ 10 + v.toNat)
  | .clkset l => BitVec.ofNat 16 (0xA000 + ofBool l)
  | .evt o e => BitVec.ofNat 16 (0xB000 + o.val * 2 ^ 10 + e.val)
  | .stamp k blk => BitVec.ofNat 16 (0xC000 + k.val * 2 ^ 10 + ofBool blk * 2 ^ 9)

end Sys2Proof.Machine
end

