-- ==== Sys2Proof/Machine/Link.lean ====
section
/-! DEFINITION. The Fliar link (chapter 8): training, what takes a link down, replay, alignment markers, loopback, test
and the bypass. -/

namespace Sys2Proof.Machine

/-- The ring port that a port is, if it is one. -/
def ringPortOf : Port → Option RingPort
  | .east => some .east | .west => some .west | .pair => none

/-- MODE of LINK_LOOPBACK. -/
def State.loopMode (s : State) (l : Port) : Nat := s.field (linkReg l Addr.linkLoopback) 0 2

/-- On an MH820-S the PAIR link stays powered down (R2, R212). -/
def State.pairOff (s : State) (l : Port) : Bool := l == .pair && !s.fuses.pairCapable

/-- The condition for leaving DISABLED (R194). -/
def State.linkWanted (s : State) (l : Port) : Bool :=
  s.enabled (linkUnit l) && s.flag (linkReg l Addr.linkCtrl) 0 && !s.pairOff l
    && ((s.loopMode l == 0 && s.field (linkReg l Addr.linkNeighbour) 0 8 != 0xFF) || s.loopMode l == 1
      || s.loopMode l == 2)

/-- The port trains against itself and has done so: loopback mode 1 or 2 (R207). -/
def State.looped (s : State) (l : Port) : Bool := (s.link l).sync == .loopback && s.loopMode l != 3

/-- The port's data lanes carry the pattern of LINK_TEST in place of encoded symbols (R208). -/
def State.testing (s : State) (l : Port) : Bool :=
  (s.link l).sync == .test || (s.looped l && s.flag (linkReg l Addr.linkTest) 0)

/-- The bypass holds EAST and WEST in DISABLED (R210). -/
def State.bypassHolds (s : State) (l : Port) : Bool :=
  l != .pair && s.bypass.sync == .joining && !s.bypass.settled

/-- The port leaves ACTIVE for state `to`: its replay buffer is discarded and the ring is told (R196, R233). -/
def State.linkLeave (s : State) (l : Port) (dest : LinkSync) : State :=
  let was := s.active l
  let s := s.setLink l { s.link l with
    sync := dest, replay := [], waiting := [], nakAt := none, rds := [], prbs := [] }
  if was then
    match ringPortOf l with
    | some p => s.ringPortDown p
    | none => s
  else s

/-- The port returns to DISABLED without LINK_DOWN (R196). -/
def State.linkDisable (s : State) (l : Port) : State :=
  let s := s.linkLeave l .disabled
  s.setLink l { s.link l with quiet := false }

/-- The link goes down for a cause of R196 and returns to CLOCK_LOCK. -/
def State.linkDown (s : State) (l : Port) : State :=
  let s := (s.event (linkReg l Addr.linkEvents) 1).raise (linkUnit l) .linkDown 0 none
  s.linkLeave l .clockLock

/-- The port's state after the words that govern it may have changed (R194, R196). -/
def State.linkReview (s : State) (l : Port) : State :=
  match (s.link l).sync with
  | .disabled =>
    if s.linkWanted l && !s.bypassHolds l then s.setLink l { s.link l with sync := .clockLock, quiet := false } else s
  | .loopback =>
    if s.linkWanted l || (s.loopMode l == 3 && s.enabled (linkUnit l) && s.flag (linkReg l Addr.linkCtrl) 0) then s
    else s.linkDisable l
  | _ => if s.linkWanted l then s else s.linkDisable l

/-- A write of LINK_LOOPBACK (R196, R207). -/
def State.loopbackWrite (s : State) (l : Port) (v : Word) : State :=
  let old := s.loopMode l
  let a := linkReg l Addr.linkLoopback
  let t := s.plainWrite a v
  if t.loopMode l = old then t
  else if t.loopMode l = 3 ∧ t.active l then t.linkLeave l .loopback
  else (t.linkDisable l).linkReview l

/-- A write of LINK_TEST (R208): GEN starts the pattern; clearing it retrains the port; a change of CHECK or PATTERN makes the
checkers synchronise anew. -/
def State.linkTestWrite (s : State) (l : Port) (v : Word) : State :=
  let a := linkReg l Addr.linkTest
  let was := s.flag a 0
  let t := s.plainWrite a v
  let t := if s.field a 1 2 = t.field a 1 2 then t else t.setLink l { t.link l with prbs := [] }
  if !was && t.flag a 0 && t.loopMode l == 0 && t.active l then t.linkLeave l .test
  else if was && !t.flag a 0 && ((t.link l).sync == .test || t.looped l) then t.linkLeave l .clockLock
  else t

/-- The bypass changes state (R210, R213); it holds EAST and WEST in DISABLED in JOINING alone. -/
def State.setBypass (s : State) (b : BypassSync) : State :=
  if s.bypass.sync == b then s
  else
    let t := { s with bypass := ⟨b, false⟩ }.event (Addr.linkEvents 0) 8
    if s.bypass.sync == .joining then (t.linkReview .east).linkReview .west else t

/-- A write of LINK_BYPASS_CTRL: FORCE 1 or AUTO 0 sends the bypass to BYPASSED (R210). -/
def State.bypassWrite (s : State) (v : Word) : State :=
  let t := s.plainWrite (Addr.linkBypassCtrl 0) v
  if bit v 1 || !bit v 0 then t.setBypass .bypassed else t

/-- A write into a LINK block other than UNIT_CTRL; on an MH820-S a write to the PAIR block changes nothing, and a
declared neighbour is a mismatch (R2, R212). A bridge's PAIR neighbour must name its peer (R241). -/
def State.linkWrite (s : State) (l : Port) (a : Nat) (v : Word) : State :=
  if s.pairOff l then
    if a = linkReg l Addr.linkNeighbour ∧ bits v 0 8 ≠ 0xFF then s.misdeclared else s
  else if a = linkReg l Addr.linkEvents then s.sqWrite a v
  else if a = linkReg l Addr.linkLoopback then s.loopbackWrite l v
  else if a = linkReg l Addr.linkTest then s.linkTestWrite l v
  else if l = .east ∧ a = (Addr.linkBypassCtrl 0) then s.bypassWrite v
  else
    let t := s.plainWrite a v
    let t := if l = .pair ∧ a = linkReg l Addr.linkNeighbour then t.bridgeCheck else t
    t.linkReview l

/-- LINK_STATUS (R213); REPLAY_ON shows in an enabled unit only (log entry 145). -/
def State.linkStatusWord (s : State) (l : Port) : Word :=
  let x := s.link l
  let st : Nat :=
    match x.sync with
    | .disabled => 0 | .clockLock => 1 | .bitAlign => 2 | .symbolLock => 3 | .deskew => 4 | .config => 5
    | .active => 6 | .loopback => 7 | .test => 8
  word (st + ofBool (s.enabled (linkUnit l) && s.replays l) * 16 + ofBool x.clockOk * 32 + x.seen.node.toNat * 2 ^ 8
    + x.seen.ring.toNat * 2 ^ 16 + x.seen.port.toNat * 2 ^ 20 + min 255 x.skew * 2 ^ 24)

/-- BYPASS_N is driven high (R209, R210). -/
def State.bypassHigh (s : State) : Bool := s.start.logicUp && s.bypass.sync != .bypassed

/-- The clock lane's code group, sent without pause while EN is 1 (R187); a port that is powered down sends none (R212). -/
def State.clockLaneOut (s : State) (l : Port) : Option (BitVec 10) :=
  if s.start.logicUp && s.enabled (linkUnit l) && !s.pairOff l then some clkCode else none

/-- What the port sends on each data lane (R194), with the loopbacks and the test of R207 and R208. READY goes out in CONFIG
(log entry 148). -/
def State.laneOut (s : State) (l : Port) : LaneSend :=
  if (s.clockLaneOut l).isNone || (s.link l).quiet then .silent
  else if s.loopMode l = 2 then .idle
  else
    let pattern : LaneSend := .pattern (s.flag (linkReg l Addr.linkTest) 2)
    match (s.link l).sync with
    | .disabled => .idle
    | .clockLock | .bitAlign | .symbolLock => .training false false
    | .deskew => .training true false
    | .config => .training true true
    | .active => .traffic
    | .test => pattern
    | .loopback => if s.loopMode l = 3 then .looped else if s.testing l then pattern else .traffic

/-- What a read of a LINK word shows instead of the stored word. -/
def State.linkView (s : State) (l : Port) (a : Nat) : Option Word :=
  if s.pairOff l then (if a = linkReg l Addr.linkStatus then some 0 else none)
  else if a = linkReg l Addr.linkStatus then some (s.linkStatusWord l)
  else if l = .east ∧ a = (Addr.linkBypassStatus 0) then
    some (word ((match s.bypass.sync with | .bypassed => 0 | .joining => 1 | .inRing => 2) + ofBool s.bypassHigh * 4))
  else none

/-- A training attempt failed: the port is silent for 10 µs and returns to CLOCK_LOCK (R194). -/
def State.trainFail (s : State) (l : Port) : State :=
  (s.setLink l { s.link l with sync := .clockLock, quiet := true }).inc (linkReg l Addr.linkTrainFailCount)

/-- Lane skew beyond R198, or a lane out of place: LINK_DESKEW. -/
def State.deskewFault (s : State) (l : Port) : State :=
  (s.event (linkReg l Addr.linkEvents) 2).raise (linkUnit l) .linkDeskew 0 none

/-- R194: the write makes the leaving condition of DISABLED hold. -/
def State.trainStep (s : State) (l : Port) (frm dest : LinkSync) : State :=
  if (s.link l).sync == frm && !(s.link l).quiet then s.setLink l { s.link l with sync := dest } else s

/-- R194: clock lane present and receive clock locked. -/
def execLinkClockLocked (l : Port) (s : State) : Host.Outcome State Fault Refusal :=
  if !s.start.logicUp then .next s else
  if (s.link l).sync == .clockLock && !(s.link l).quiet then
    let s := s.setLink l { s.link l with sync := .bitAlign, clockOk := true }
    match ringPortOf l with
    | some p => .next (s.setLane p true).lineTake
    | none => .next s
  else .next s

/-- R194: every data lane has a sampling phase. -/
def execLinkBitAlignDone (l : Port) (s : State) : Host.Outcome State Fault Refusal :=
  if !s.start.logicUp then .next s else
  .next (s.trainStep l .bitAlign .symbolLock)

/-- R194: 8 consecutive TS1 at one comma position on every lane. -/
def execLinkSymbolLocked (l : Port) (s : State) : Host.Outcome State Fault Refusal :=
  if !s.start.logicUp then .next s else
  .next (s.trainStep l .symbolLock .deskew)

/-- R194, R197: every lane shows TS2 with the lane number given, with a lane-to-lane skew in UI. -/
def execLinkDeskewed (l : Port) (lanes : List (Fin 4)) (skew : Nat) (s : State) : Host.Outcome State Fault Refusal :=
  if !s.start.logicUp then .next s else
  if (s.link l).sync == .deskew then
    if l == .pair || (lanes == [0, 1, 2, 3] && decide (skew ≤ 240)) then
      .next (s.setLink l { s.link l with sync := .config, skew := skew })
    else .next ((s.deskewFault l).trainFail l)
  else .next s

/-- R194, R195, R207: the TS2 exchange is complete; the neighbour showed identity `id`. -/
def execLinkConfigDone (l : Port) (id : LinkIdentity) (s : State) : Host.Outcome State Fault Refusal :=
  if !s.start.logicUp then .next s else
  if (s.link l).sync == .config then
    let x := { s.link l with txLseq := 0, next := 0, takeNext := false, nakAt := none, replay := [], waiting := [] }
    if s.loopMode l == 1 || s.loopMode l == 2 then .next (s.setLink l { x with sync := .loopback })
    else
      let k := s.matchIdentity l id
      let s := s.setLink l { x with sync := .active, seen := id, matched := k.isSome }
      let s := s.event (linkReg l Addr.linkEvents) 0
      let s := if l == .pair then { s with pair := { s.pair with linkLost := false } } else s
      let s := if l != .pair && s.bypass.sync == .joining then s.setBypass .inRing else s
      match k, ringPortOf l with
      | some k, some p => .next (s.ringPortUp p k)
      | some _, none => .next s
      | none, _ => .next ((s.event (linkReg l Addr.linkEvents) 6).enterTransitAs (linkUnit l) 2)
  else .next s

/-- R194: a training state times out. -/
def execLinkTrainTimeout (l : Port) (s : State) : Host.Outcome State Fault Refusal :=
  if !s.start.logicUp then .next s else
  match (s.link l).sync with
  | .clockLock | .bitAlign | .symbolLock | .deskew | .config =>
    if (s.link l).quiet then .next s else .next (s.trainFail l)
  | _ => .next s

/-- R194: the 10 µs of silence end. -/
def execLinkTrainQuietEnd (l : Port) (s : State) : Host.Outcome State Fault Refusal :=
  if !s.start.logicUp then .next s else
  .next (s.setLink l { s.link l with quiet := false })

/-- R196: 4 consecutive TS1 in ACTIVE. -/
def execLinkTs1Receive (l : Port) (s : State) : Host.Outcome State Fault Refusal :=
  if !s.start.logicUp then .next s else
  if s.active l then .next (s.linkDown l) else .next s

/-- The port's transmit balls carry what the port itself makes: not in near-end parallel loopback, where they carry IDL alone
(R207). -/
def State.onBalls (s : State) (l : Port) : Bool := s.loopMode l != 2

/-- R199: a SKP set every 1,024 symbol times, while the port is enabled and sends symbols of its own: not in the silence
after a training failure (R194), in loopback modes 2 and 3 (R207) or under test (R208). -/
def execLinkSkpSend (l : Port) (s : State) : Host.Outcome State Fault Refusal :=
  if !s.start.logicUp then .next s else
  match s.laneOut l with
  | .idle => .next (if s.onBalls l then s.emit (.skp l) else s)
  | .training _ _ | .traffic => .next (s.emit (.skp l))
  | .silent | .looped | .pattern _ => .next s

/-- The port's elastic store passes deskewed words into LINE (R199): EAST and WEST after deskew, outside far-end loopback
and test (R207, R208). PAIR has the fixed-phase aligner of R33 instead. -/
def State.storeRuns (s : State) (l : Port) : Bool :=
  l != .pair && !s.testing l &&
    (match (s.link l).sync with
    | .config | .active => true
    | .loopback => s.loopMode l != 3
    | _ => false)

/-- R199: the elastic store inserts (positive) or deletes (negative) up to 2 symbols at a SKP set. -/
def execLinkSkpReceive (l : Port) (delta : Int) (s : State) : Host.Outcome State Fault Refusal :=
  if !s.start.logicUp then .next s else
  .next (if s.storeRuns l then s.addTo (linkReg l Addr.linkSkipCount) (min 2 (Int.natAbs delta)) else s)

/-- TX_CORR and RX_CORR of a port as it sends them (R200). -/
def State.corrections (s : State) : Port → Word × Word
  | .east => (s.reg Addr.timeCorrEastTx, s.reg Addr.timeCorrEastRx)
  | .west => (s.reg Addr.timeCorrWestTx, s.reg Addr.timeCorrWestRx)
  | .pair => (0, 0)

/-- R200: an AM set leaves with transmit stamp `stamp` (2.5 ps). -/
def execLinkAmSend (l : Port) (stamp : Nat) (s : State) : Host.Outcome State Fault Refusal :=
  if !s.start.logicUp then .next s else
  let x := s.link l
  if x.sync == .active || (s.looped l && !s.testing l) then
    let e := x.amSeen
    let m : Marker :=
      { seq := x.amSeq, echoSeq := (e.map (·.1)).getD 0, echoValid := e.isSome,
        turnaround := word (match e with | some (_, t) => stamp - t | none => 0),
        txCorr := (s.corrections l).1, rxCorr := (s.corrections l).2 }
    let s := s.setLink l { x with amSeq := x.amSeq + 1, amSent := ((x.amSeq, stamp) :: x.amSent).take 4 }
    .next (if s.onBalls l then s.emit (.marker l m) else s)
  else .next s

/-- Replay follows the round trip (R205): off above 400 ns, on again at or below it, restarting from LSEQ 0. -/
def State.replayReview (s : State) (l : Port) (rtt : Nat) : State :=
  let x := s.link l
  if 160000 < rtt then
    if x.replayOn then
      ((s.setLink l { x with replayOn := false }).linkDrain l x.waiting.length).event (linkReg l Addr.linkEvents) 7
    else s
  else if x.replayOn then s
  else s.setLink l { x with replayOn := true, txLseq := 0 }

/-- The mean of the last valid delay results, rounded down (log entry 137). -/
def meanDelay (l : List Int) : Int := if l.isEmpty then 0 else Int.fdiv l.sum (Int.ofNat l.length)

/-- The delay of a ring port's receive direction from a round trip and the neighbour's corrections (R92, R201), in
units of 2.5 ps; both halves are rounded down, and a negative mean shows as 0 (log entry 137). -/
def State.delayResult (s : State) (l : Port) (m : Marker) (rtt : Nat) : Int :=
  let own := s.corrections l
  Int.fdiv (Int.ofNat rtt) 2 + Int.fdiv ((m.txCorr.toInt + own.2.toInt) - (own.1.toInt + m.rxCorr.toInt)) 5

/-- A valid round trip (R201). -/
def State.rttResult (s : State) (l : Port) (m : Marker) (rtt : Nat) : State :=
  let s := (s.setReg (linkReg l Addr.linkRtt) (word rtt)).replayReview l rtt
  let store (a : Nat) : State :=
    let ds := (s.delayResult l m rtt :: (s.link l).delays).take 16
    (s.setLink l { s.link l with delays := ds }).setReg a (word (meanDelay ds).toNat)
  match l with
  | .east => store Addr.timeLinkDelayEast
  | .west => store Addr.timeLinkDelayWest
  | .pair => s

/-- R201: an AM arrives with receive stamp `stamp`, on every lane in the same deskewed symbol time or not. -/
def execLinkAmReceive (l : Port) (m : Marker) (stamp : Nat) (aligned : Bool) (s : State) :
    Host.Outcome State Fault Refusal :=
  if !s.start.logicUp then .next s else
  if !s.active l && !(s.looped l && !s.testing l) then .next s
  else if !aligned then (if s.active l then .next ((s.deskewFault l).linkDown l) else .next s)
  else
    let x := s.link l
    let s := s.setLink l { x with amSeen := some (m.seq, stamp) }
    match m.echoValid, x.amSent.find? fun e => e.1 == m.echoSeq with
    | true, some (_, t1) => .next (s.rttResult l m (stamp - t1 - m.turnaround.toNat))
    | _, _ => .next s

/-- The receiver sends a NAK for NEXT − 1, unless one is outstanding (R203). -/
def State.sendNak (s : State) (l : Port) : State :=
  let x := s.link l
  let due := match x.nakAt with | some t => s.elapsed t 200 | none => true
  if due then (s.setLink l { x with nakAt := some s.now }).emit (.nak l (x.next - 1)) else s

/-- R203: the action on a received frame at the link, as its last word has come. The first RP 1 frame after any RP 0 frame is
taken as NEXT (R205); a frame with LSEQ = NEXT, good or bad, lets the next NAK go. -/
def execLinkFrameReceive (l : Port) (rp : Bool) (lseq : BitVec 12) (f : RingFrame) (s : State) :
    Host.Outcome State Fault Refusal :=
  if !s.start.logicUp then .next s else
  if !s.active l then .next s
  else
    let s := if frameGood f then s else s.inc (linkReg l Addr.linkCrcErrCount)
    let x := s.link l
    if !rp then .next (s.setLink l { x with takeNext := true })
    else
      let x := if x.takeNext then { x with next := lseq, takeNext := false } else x
      let s := s.setLink l x
      let back := (x.next - lseq).toNat
      if frameGood f ∧ back = 0 then
        .next ((s.setLink l { x with next := x.next + 1, nakAt := none }).emit (.ack l lseq))
      else if frameGood f ∧ back ≤ 2048 then .next (s.emit (.ack l (x.next - 1)))
      else .next ((if back = 0 then s.setLink l { x with nakAt := none } else s).sendNak l)

/-- Frames up to and including LSEQ `n` are acknowledged, and waiting class C frames start (R203, R204). -/
def State.acknowledge (s : State) (l : Port) (n : BitVec 12) : State :=
  let x := s.link l
  let s := s.setLink l { x with replay := x.replay.filter fun e => decide (2048 ≤ (n - e.lseq).toNat) }
  s.linkDrain l x.waiting.length

/-- Replay exhausted (R204). -/
def State.exhaust (s : State) (l : Port) : State :=
  ((s.event (linkReg l Addr.linkEvents) 3).raise (linkUnit l) .linkReplayExhausted 0 none).linkDown l

/-- Replay every unacknowledged frame from the oldest; after three replays of the oldest the link is exhausted (R204). -/
def State.replayAll (s : State) (l : Port) : State :=
  match (s.link l).replay with
  | [] => s
  | e :: _ =>
    if 3 ≤ e.replays then s.exhaust l
    else
      let x := s.link l
      let s := s.setLink l { x with replay := x.replay.map fun e => { e with replays := e.replays + 1 } }
      (s.each x.replay fun s e => s.emit (.frame l true e.lseq e.frame)).inc (linkReg l Addr.linkReplayCount)

/-- The LSEQ of a link control set, from its content on each lane (`none` where a lane shows another): at least three lanes
agree on it; on PAIR lane 0 alone decides (R190). -/
def lcsAgreed (l : Port) (lanes : List (Option (BitVec 12))) : Option (BitVec 12) :=
  if l = .pair then lanes.headD none
  else (lanes.find? fun v => v.isSome && decide (3 ≤ (lanes.filter (· == v)).length)).join

/-- R204: an ACK arrives. -/
def execLinkAckReceive (l : Port) (lanes : List (Option (BitVec 12))) (s : State) : Host.Outcome State Fault Refusal :=
  if !s.start.logicUp then .next s else
  match lcsAgreed l lanes with
  | some n => if s.active l then .next (s.acknowledge l n) else .next s
  | none => .next s

/-- R204: a NAK arrives. -/
def execLinkNakReceive (l : Port) (lanes : List (Option (BitVec 12))) (s : State) : Host.Outcome State Fault Refusal :=
  if !s.start.logicUp then .next s else
  match lcsAgreed l lanes with
  | some n => if s.active l then .next (((s.inc (linkReg l Addr.linkNakCount)).acknowledge l n).replayAll l) else .next s
  | none => .next s

/-- R204: the oldest frame has waited REPLAY_TIMER since the end of its last transmission. -/
def execLinkReplayTimerExpiry (l : Port) (s : State) : Host.Outcome State Fault Refusal :=
  if !s.start.logicUp then .next s else
  match (s.link l).replay with
  | [] => .next s
  | _ :: _ => if s.active l then .next (s.replayAll l) else .next s

/-- R204: three replays, or 2 µs since the end of the first transmission, without acknowledgement. -/
def execLinkReplayExhausted (l : Port) (s : State) : Host.Outcome State Fault Refusal :=
  if !s.start.logicUp then .next s else
  match (s.link l).replay with
  | [] => .next s
  | _ :: _ => if s.active l then .next (s.exhaust l) else .next s

/-- The port decodes code groups: from symbol lock on, and not under a test pattern (R194, R208). -/
def State.decodes (s : State) (l : Port) : Bool :=
  !s.testing l && !s.pairOff l &&
    (match (s.link l).sync with
    | .deskew | .config | .active | .loopback => true
    | _ => false)

/-- The code errors of one lane in a window and its running disparity after it: far-end loopback decodes nothing, and a slip
of its store counts (R189, R207). -/
def State.laneErrors (s : State) (l : Port) (k : Nat) (w : LaneWindow) : Nat × Bool :=
  let rd := (s.link l).rds.getD k false
  if !s.decodes l then (0, rd)
  else if s.loopMode l = 3 then (w.slips, rd)
  else codeErrors rd w.groups

/-- The checker of one lane runs over a window (R208). -/
def State.lanePattern (s : State) (l : Port) (k : Nat) (w : LaneWindow) : Nat × List Bool :=
  let h := (s.link l).prbs.getD k []
  if s.testing l && s.flag (linkReg l Addr.linkTest) 1 then
    prbsErrors (s.flag (linkReg l Addr.linkTest) 2) h (groupBits w.groups)
  else (0, h)

/-- Data lanes of a port (R186). -/
def laneCount (l : Port) : Nat := if l = .pair then 1 else 4

/-- The lanes' counters, running disparities and checkers after a window, and the code errors of each lane. -/
def State.laneWindows (s : State) (l : Port) (lanes : List LaneWindow) : List Nat × State :=
  let ks := List.range (laneCount l)
  let at_ (k : Nat) : LaneWindow := lanes.getD k ⟨[], 0⟩
  let es := ks.map fun k => (s.laneErrors l k (at_ k)).1
  let bad := (ks.map fun k => (s.lanePattern l k (at_ k)).1).sum
  let t := s.setLink l { s.link l with
    rds := ks.map fun k => (s.laneErrors l k (at_ k)).2, prbs := ks.map fun k => (s.lanePattern l k (at_ k)).2 }
  let t := t.each ks fun t k => t.addTo (Addr.linkCodeErr (portIdx l).val k) (es.getD k 0)
  (es, t.addTo (linkReg l Addr.linkTestErrCount) bad)

/-- R206: a 1 ms window ends, in which each lane received what `lanes` says. -/
def execLinkBerWindowEnd (l : Port) (lanes : List LaneWindow) (s : State) : Host.Outcome State Fault Refusal :=
  if !s.start.logicUp then .next s else
  let x := s.laneWindows l lanes
  let s := x.2
  let lim := s.field (linkReg l Addr.linkBerCtrl) 0 16
  if lim ≠ 0 ∧ x.1.any (fun n => decide (lim < n)) then
    let s := s.event (linkReg l Addr.linkEvents) 5
    if s.flag (linkReg l Addr.linkCtrl) 1 && s.active l then .next (s.linkDown l) else .next s
  else .next s

/-- R210: the bypass opens: AUTO 1 and FORCE 0, at link training or after RETRY. -/
def execBypassJoinStart (s : State) : Host.Outcome State Fault Refusal :=
  if !s.start.logicUp then .next s else
  if s.bypass.sync == .bypassed && s.flag (Addr.linkBypassCtrl 0) 0 && !s.flag (Addr.linkBypassCtrl 0) 1 then
    .next (((s.setBypass .joining).linkDisable .east).linkDisable .west)
  else .next s

/-- R210: SETTLE ends and EAST and WEST are released from DISABLED. -/
def execBypassSettleEnd (s : State) : Host.Outcome State Fault Refusal :=
  if !s.start.logicUp then .next s else
  if s.bypass.sync == .joining then
    .next (({ s with bypass := { s.bypass with settled := true } }.linkReview .east).linkReview .west)
  else .next s

/-- R210: SETTLE + 2 ms pass without an ACTIVE port. -/
def execBypassJoinTimeout (s : State) : Host.Outcome State Fault Refusal :=
  if !s.start.logicUp then .next s else
  if s.bypass.sync == .joining then .next (s.setBypass .bypassed) else .next s

/-- R210: neither EAST nor WEST ACTIVE for DOWN_HOLD. -/
def execBypassDownHoldExpiry (s : State) : Host.Outcome State Fault Refusal :=
  if !s.start.logicUp then .next s else
  if s.bypass.sync == .inRing && s.livePorts.isEmpty then .next (s.setBypass .bypassed) else .next s

/-- R188, R90: a clock lane is lost. -/
def execClockLaneLoss (l : Port) (s : State) : Host.Outcome State Fault Refusal :=
  if !s.start.logicUp then
    match ringPortOf l with
    | some p => .next (s.setLane p false)
    | none => .next s
  else if (s.link l).clockOk || (match ringPortOf l with | some p => s.lane p | none => false) then
    let s := (s.event (linkReg l Addr.linkEvents) 4).raise (linkUnit l) .clockLaneLoss 0 none
    let s := s.setLink l { s.link l with clockOk := false }
    let s :=
      match ringPortOf l with
      | some p => (s.setLane p false).lineLost p
      | none => s
    match (s.link l).sync with
    | .active => .next (s.linkDown l)
    | .test => .next (s.linkLeave l .clockLock)
    | .loopback => if s.looped l then .next s else .next (s.linkDisable l)
    | _ => .next s
  else .next s

end Sys2Proof.Machine
end

