-- ==== Sys2Proof/Machine/BridgeBase.lean ====
section
/-! DEFINITION. Ring transactions at their initiating hub (chapters 3 and 10): issue, completion, failure, the logs and
what fences count. -/

namespace Sys2Proof.Machine

def State.txn (s : State) (tag : Nat) : Option Txn := Store.get none s.bridge.tags tag
def State.setTxn (s : State) (tag : Nat) (t : Option Txn) : State :=
  { s with bridge := { s.bridge with tags := Store.put none s.bridge.tags tag t } }

/-- The live transactions with their tags. -/
def State.liveTxns (s : State) : List (Nat × Txn) := s.bridge.tags.filterMap fun e => e.2.map fun t => (e.1, t)

/-- TXN_TIMEOUT in µs (R259). -/
def State.txnTimeout (s : State) : Nat := clamp 10 1000 (s.field Addr.bridgeTxnTimeout 0 16)

/-- The lowest TAG that is free: no transaction and no bridge record uses it, and it is not quarantined (R241, R244). -/
def State.freeTag (s : State) : Option Nat :=
  (List.range 256).find? fun t =>
    (s.txn t).isNone && !(s.bridge.quarantine.any fun q => q.1 == t) && !(s.bridge.records.any fun r => r.tag.toNat == t)

/-- Fields of a fabric address (R59). -/
def faRing (a : FabricAddr) : Nat := bits a 44 4
def faNode (a : FabricAddr) : Nat := bits a 36 8
def faSpace (a : FabricAddr) : Nat := bits a 32 4
def faOffset (a : FabricAddr) : Nat := bits a 0 32

/-- The address names this hub (R59, R60): node 255, or its own node and ring. -/
def State.isOwn (s : State) (a : FabricAddr) : Bool :=
  faNode a == 255 || (faNode a == s.node.toNat && faRing a == s.ringNo.toNat)

/-- The initiating hub refuses the address with KIND 8 (R60, R240): a reserved space, node 254 for anything but a class T
posted write, or a ring with no route. -/
def State.refusesAddr (s : State) (a : FabricAddr) (kind : TxnKind) : Bool :=
  decide (4 ≤ faSpace a) || (faNode a == 254 && kind != .posted)
    || (!s.isOwn a && faNode a != 254 && faRing a != s.ringNo.toNat && s.field (Addr.ringRoute (faRing a)) 0 8 == 0xFF)

/-- Failures of posted writes wait for the fence of their initiator that covers them (R71, R72, R74); FENCE.F covers no
write to this hub's own spaces (R69). -/
def State.countFail (s : State) (who : Initiator) (order : Nat) (timeout own : Bool) : State :=
  match who with
  | .host =>
    let h := s.hostFence
    let add (x : HostFails) : HostFails :=
      { x with fails := min 255 (x.fails + 1), remote := x.remote || !own, localFail := x.localFail || own,
               timeout := x.timeout || timeout }
    if h.marked && decide (order < h.point) then { s with hostFence := { h with covered := add h.covered } }
    else { s with hostFence := { h with later := add h.later } }
  | who =>
    if own then s
    else
    let c := (assocGet s.fenceCounts who).getD {}
    let later :=
      match assocGet s.fences who with
      | some f => f.ring && decide (f.point ≤ order)
      | none => false
    let c :=
      if later then { c with nextFails := c.nextFails + 1, nextTimeout := c.nextTimeout || timeout }
      else { c with fails := c.fails + 1, timeout := c.timeout || timeout }
    { s with fenceCounts := assocSet s.fenceCounts who c }

/-- A fence of `who` that waits is abandoned (R325): the failures that it would have left to the next fence are for the fence
that is executed again. -/
def State.dropFence (s : State) (who : Initiator) : State :=
  match assocGet s.fences who with
  | none => s
  | some _ =>
    let c := (assocGet s.fenceCounts who).getD {}
    { s with
      fences := assocDel s.fences who
      fenceCounts := assocSet s.fenceCounts who
        { fails := c.fails + c.nextFails, timeout := c.timeout || c.nextTimeout } }

/-- A log of the form of R76: the first entry since it was cleared is held, later ones set OVERFLOW. -/
def State.logEntry (s : State) (status lo hi info : Nat) (a : FabricAddr) (v : Word) : State :=
  if s.flag status 0 then s.event status 1
  else (((s.setReg lo (word a.toNat)).setReg hi (word (bits a 32 16))).setReg info v).event status 0

/-- A failed posted write is counted, logged and raised at the hub that issued it (R76); a core's
IPEND.PWF is set (R323). -/
def State.postedWriteFail (s : State) (who : Initiator) (a : FabricAddr) (cause destKind entry : Nat) : State :=
  let s := s.inc Addr.bridgePwfCount
  let s := s.logEntry Addr.bridgePwfStatus Addr.bridgePwfAddrLo Addr.bridgePwfAddrHi Addr.bridgePwfInfo a
    (word (initCode who * 2 ^ 28 + cause * 2 ^ 24 + destKind * 2 ^ 20 + entry % 2 ^ 12))
  let s := match who with
    | .core n => s.pend n.val 4
    | _ => s
  s.raise .bridge .postedWriteFail cause (some a)

/-- The route of an address from this hub: destination node and ring of the frame (R240). -/
def State.routeOf (s : State) (a : FabricAddr) : Nat × Nat :=
  if faNode a = 254 then (254, s.ringNo.toNat)
  else if faNode a = 255 then (s.node.toNat, s.ringNo.toNat)
  else if faRing a = s.ringNo.toNat then (faNode a, faRing a)
  else (s.field (Addr.ringRoute (faRing a)) 0 8, faRing a)

/-- TYPE of a request (R243). -/
def txnType : TxnKind → Nat
  | .posted => 1 | .write => 2 | .read => 3

/-- The request frame of a transaction (R216, R217). -/
def State.requestFrame (s : State) (tag : Nat) (t : Txn) : RingFrame :=
  let r := s.routeOf t.addr
  s.newFrame t.cls (txnType t.kind) r.1 r.2
    [word (tag * 2 ^ 24 + t.code % 16 * 2 ^ 20 + t.iseq.toNat), word t.addr.toNat,
     word (bits t.addr 32 16 + (t.count - 1) * 2 ^ 16)]
    (if t.kind == .read then [] else t.data)

/-- The next issue sequence of an initiator (R65): the spec gives neither its first value nor what restarts it; the model
starts at 0 and restarts at a logic reset only (DESIGN CHOICE, log entry 130). -/
def State.nextIseq (s : State) (who : Initiator) : Half × State :=
  let q := (assocGet s.bridge.iseqs who).getD 0
  (q, { s with bridge := { s.bridge with iseqs := assocSet s.bridge.iseqs who (q + 1) } })

/-- Free a tag: its transaction is over (R244). -/
def State.freeTagOf (s : State) (tag : Nat) (quarantine : Bool) : State :=
  let s := s.setTxn tag none
  if quarantine then
    { s with bridge := { s.bridge with quarantine := s.bridge.quarantine ++ [(tag, s.now + 2 * cyclesUs s.txnTimeout)] } }
  else s

/-- The reads and non-posted writes of initiator `who` have no one left to answer: they end without a result, and their TAGs
are not reused before a late response is discarded (R244). Its posted writes go on. -/
def State.unwait (s : State) (who : Initiator) : State :=
  let mine (w : Initiator) (kind : TxnKind) : Bool := w == who && kind != .posted
  let s := s.each (s.liveTxns.filter fun e => mine e.2.who e.2.kind) fun s e => s.freeTagOf e.1 true
  { s with bridge := { s.bridge with
    waiting := s.bridge.waiting.filter fun w => !mine w.who w.kind
    ended := s.bridge.ended.filter fun d => d.who != who } }

/-- The fault of a failed transaction that is no posted write (R252, R253). -/
def State.txnFault (s : State) (t : Txn) (cause : Nat) : State :=
  let flags := min 63 t.reissues
  match cause with
  | 2 | 4 => (s.event Addr.bridgeEvents 0).raise .bridge .txnTimeout flags (some t.addr)
  | 5 => (s.event Addr.bridgeEvents 1).raise .bridge .bridgeRetryExhausted flags (some t.addr)
  | _ => s

/-- Give the result of a transaction to its initiator: a service core takes it when its stall ends. -/
def State.giveEnd (s : State) (who : Initiator) (a : FabricAddr) (cause kind : Nat) (data : List Word) : State :=
  let s := match who with
    | .core _ => { s with bridge := { s.bridge with
        ended := s.bridge.ended ++ [(⟨who, a, cause, kind, data⟩ : TxnDone)] } }
    | _ => s
  s.emit (.txnEnd who a cause data)

/-- The end of a transaction; a posted write has none. -/
def State.endTxn (s : State) (t : Txn) (cause kind : Nat) (data : List Word) : State :=
  if t.kind == .posted then s else s.giveEnd t.who t.addr cause kind data

/-- A posted write of this hub is lost: counted, logged and raised for its issuer (R72, R74, R76), for an M2 record (R361)
without a fence, and only counted for a STANDBY's copy of a paired command (R362). -/
def State.postedLost (s : State) (role : TxnRole) (who : Initiator) (a : FabricAddr) (order entry cause destKind : Nat) :
    State :=
  match role with
  | .own => (s.postedWriteFail who a cause destKind entry).countFail who order (cause == 2) (s.isOwn a)
  | .m2 => s.postedWriteFail who a cause destKind entry
  | .twin => s.inc Addr.pairMirrorFailCount

/-- A transaction fails with a cause of R253 (for a posted write, of R76). -/
def State.failTxn (s : State) (tag : Nat) (t : Txn) (cause destKind : Nat) : State :=
  let s := s.freeTagOf tag (cause == 2 || cause == 4)
  if t.kind == .posted then s.postedLost t.role t.who t.addr t.order t.entry cause destKind
  else
    let s := s.inc Addr.bridgeTxnCount
    let s := s.logEntry Addr.bridgeTxnStatus Addr.bridgeTxnAddrLo Addr.bridgeTxnAddrHi Addr.bridgeTxnInfo t.addr
      (word (initCode t.who * 2 ^ 28 + cause * 2 ^ 24 + tag * 2 ^ 16 + min 65535 t.reissues))
    ((s.txnFault t cause).endTxn t cause destKind [])

/-- A transaction completes (R243). -/
def State.completeTxn (s : State) (tag : Nat) (t : Txn) (data : List Word) : State :=
  (s.freeTagOf tag false).endTxn t 0 0 data

/-- The address lies in a ring whose route is this hub itself, which bridges: its frame crosses PAIR (R240, R241). -/
def State.crossesHere (s : State) (a : FabricAddr) : Bool :=
  s.bridges && faNode a != 254 && faRing a != s.ringNo.toNat && (s.routeOf a).1 == s.node.toNat

/-- A request frame leaves this hub: round the ring, or over PAIR; a hub that is no MEMBER discards it (R226). -/
def State.sendRequest (s : State) (f : RingFrame) (key : Option (Half × Byte)) (across : Bool) : State :=
  if across && s.ring.sync == .member then s.pairSend f else s.originateAs f key

/-- Send one attempt of a transaction: a request to this hub's own spaces stays in the hub (R60); a hub that is no MEMBER
discards a frame for the ring, and a posted write fails with cause 3 (R226). -/
def State.sendTxn (s : State) (tag : Nat) (t : Txn) : State :=
  let t := { t with
    waiting := true, last := s.now, sent := s.livePorts.length, returned := 0,
    seq := match t.pairKey with | some k => k.1 | none => s.ring.seqs.getD (classCode t.cls) 0 }
  if s.isOwn t.addr then
    let s := s.setTxn tag (some t)
    { s with bridge := { s.bridge with loop := s.bridge.loop ++ [s.requestFrame tag t] } }
  else
  let s := s.setTxn tag (some t)
  let member := s.ring.sync == .member
  let s := s.sendRequest (s.requestFrame tag t) t.pairKey (s.crossesHere t.addr)
  if !member && t.kind == .posted then s.failTxn tag t 3 0 else s

/-- Accesses of `n` words at `a` and of `m` words at `b` share a word. -/
def sharesWord (a : FabricAddr) (n : Nat) (b : FabricAddr) (m : Nat) : Bool :=
  decide (a.toNat < b.toNat + 4 * m) && decide (b.toNat < a.toNat + 4 * n)

/-- The one name of a word that has several: node 255 is this hub (R60), and space 3 of a hub is service RAM that lies at
local addresses of its space 0 (R58, log entry 65). -/
def State.canonAddr (s : State) (a : FabricAddr) : FabricAddr :=
  let ring := if faNode a = 255 then s.ringNo.toNat else faRing a
  let node := if faNode a = 255 then s.node.toNat else faNode a
  if faSpace a = 3 then fabricAddr ring node 0 (Addr.coreRam 0 + faOffset a) else fabricAddr ring node (faSpace a) (faOffset a)

/-- A request is held back by an earlier read, by the same initiator, of a word that it names (R246), a read by an earlier
write to such a word, and either by an earlier access to such a word that itself still waits (R64, log entry 123). -/
def State.heldBack (s : State) (w : WaitingTxn) : Bool :=
  let a := s.canonAddr w.addr
  (s.liveTxns.any fun e =>
    (e.2.kind == .read || w.kind == .read) && e.2.who == w.who && decide (e.2.order < w.order)
      && sharesWord (s.canonAddr e.2.addr) e.2.count a w.count)
  || (s.bridge.waiting.any fun e =>
    e.who == w.who && decide (e.order < w.order) && sharesWord (s.canonAddr e.addr) e.count a w.count)

/-- INITIATOR and ISEQ of a request, and the state: the spec gives a STANDBY's copy of a paired command neither, so both
are a free value (R362, log entry 3). -/
def State.txnIds (s : State) (w : WaitingTxn) : Nat × Half × State :=
  match w.role with
  | .twin =>
    let v := Config.freeWord s.free
    (bits v 20 4, BitVec.ofNat 16 (bits v 0 16), s.nextFree)
  | _ =>
    let q := s.nextIseq w.who
    (initCode w.who, q.1, q.2)

/-- Launch a request: a broadcast leaves at once and has no TAG (R62, R244). -/
def State.launch (s : State) (w : WaitingTxn) (tag : Nat) : State :=
  let q := s.txnIds w
  let t : Txn :=
    { role := w.role, code := q.1, kind := w.kind, who := w.who, addr := w.addr, count := w.count, data := w.data, cls := w.cls, order := w.order,
      iseq := q.2.1, pairKey := w.pairKey, reissues := 0, waiting := true, first := s.now, last := s.now, sent := 0,
      returned := 0, entry := w.entry }
  if faNode w.addr = 254 then q.2.2.originateAs (q.2.2.requestFrame 0 t) w.pairKey else q.2.2.sendTxn tag t

/-- Start a request, or let it wait for a TAG or behind a read (R244, R246). -/
def State.startTxn (s : State) (w : WaitingTxn) : State :=
  if faNode w.addr = 254 then s.launch w 0
  else if s.heldBack w then { s with bridge := { s.bridge with waiting := s.bridge.waiting ++ [w] } }
  else
    match s.freeTag with
    | some tag => s.launch w tag
    | none => { s with bridge := { s.bridge with waiting := s.bridge.waiting ++ [w] } }

/-- The next place in the hub's issue order (R65). -/
def State.nextOrder (s : State) : Nat × State :=
  (s.bridge.order, { s with bridge := { s.bridge with order := s.bridge.order + 1 } })

/-- A ring access enters the hub's issue order (R65). -/
def State.issueTxn (s : State) (kind : TxnKind) (who : Initiator) (a : FabricAddr) (count : Nat) (data : List Word)
    (cls : RingClass) (entry : Nat) : State :=
  let p := s.nextOrder
  p.2.startTxn ⟨.own, kind, who, a, count, data, cls, none, entry, p.1⟩

/-- Requests that wait are started again, oldest first. -/
def State.retryWaiting (s : State) : State :=
  let ws := s.bridge.waiting
  ({ s with bridge := { s.bridge with waiting := [] } }).each ws fun s w => s.startTxn w

/-- A copy of this hub's own frame came back (R236). -/
def State.recordReturn (s : State) (f : RingFrame) : State :=
  let s := (s.inc Addr.ringReturnCount).event Addr.ringEvents 6
  if 1 ≤ f.typ.toNat ∧ f.typ.toNat ≤ 3 then
    let tag := bits (f.hdr.getD 0 0) 24 8
    match s.txn tag with
    | none => s
    | some t =>
      if !t.waiting || f.seq != t.seq then s
      else
        let t := { t with returned := t.returned + 1 }
        let s := s.setTxn tag (some t)
        if t.sent ≤ t.returned then s.failTxn tag t 3 0 else s
  else s

end Sys2Proof.Machine
end

