-- ==== Sys2Proof/Machine/SwitchBase.lean ====
section
/-! DEFINITION. The switch buffer (R263 to R268): cells and depths, the shared pool, how a frame leaves an output, and the
end of a frame at its input. -/

namespace Sys2Proof.Machine

/-- Cells of a frame of `n` bytes (R263). -/
def cellsOf (n : Nat) : Nat := (n + 63) / 64

/-- Cells of the buffer (R263). -/
def bufferCells : Nat := 98304

def State.avg (s : State) (q : Nat) : Nat := Store.get 0 s.sw.avgs q
def State.setAvg (s : State) (q v : Nat) : State := { s with sw := { s.sw with avgs := Store.put 0 s.sw.avgs q v } }

/-- Occurrences of queue `q` in a list of queues. -/
def countOf (q : Nat) (l : List Nat) : Nat := (l.filter (· == q)).length

/-- Cells of a list of frames queued at egress queue `q` (R264). -/
def depthOf (q : Nat) : List SwFrame → Nat
  | [] => 0
  | f :: r => f.cells * countOf q f.outs + depthOf q r

/-- Depth of egress queue `q` in cells (R264). -/
def State.depth (s : State) (q : Nat) : Nat := depthOf q s.sw.frames

/-- Cells in use; a frame for several outputs is stored once (R263). -/
def State.usedCells (s : State) : Nat := (s.sw.frames.map fun f => f.cells).sum

/-- QMIN field of queue `q`. -/
def State.qminField (s : State) (q : Nat) : Nat := s.field (Addr.swQcfg q) 0 16

/-- QMIN as it acts: 0 while QMIN_OVER stands (R265). -/
def State.qmin (s : State) (q : Nat) : Nat := if s.sw.qminOver then 0 else s.qminField q

/-- HEADROOM in cells. -/
def State.headroom (s : State) : Nat := s.field Addr.swCtrl 16 9

/-- Shared cells of queue `q` (R264). -/
def State.sharedOf (s : State) (q : Nat) : Nat := s.depth q - s.qmin q

/-- SHARED_FREE: the pool less the shared cells of every queue (R264). -/
def State.sharedFree (s : State) : Nat :=
  bufferCells - ((List.range 64).map fun q => s.qmin q).sum - ((List.range 64).map fun q => s.sharedOf q).sum

/-- QMIN_OVER and BUF_LOW follow the present counts; entering one sets its event (R265, R275). -/
def State.swCheck (s : State) : State :=
  let short := decide (bufferCells - s.headroom < ((List.range 64).map fun q => s.qminField q).sum)
  let t := { s with sw := { s.sw with qminOver := short } }
  let t := if short && !s.sw.qminOver then t.event Addr.swEvents 3 else t
  let low := decide (t.sharedFree < t.headroom)
  let u := { t with sw := { t.sw with bufLow := low } }
  if low && !s.sw.bufLow then u.event Addr.swEvents 1 else u

/-- A frame whose last reader has finished frees its cells (R263). -/
def swLive (f : SwFrame) : Bool := f.opened || !f.outs.isEmpty || !f.started.isEmpty

/-- The frames with the first that equals `f` replaced by `g`: two stored frames alike in everything are two frames. -/
def replaceOne (f g : SwFrame) : List SwFrame → List SwFrame
  | [] => []
  | x :: r => if x = f then g :: r else x :: replaceOne f g r

/-- Frame `f` becomes `g`; finished frames are freed. -/
def State.swReplace (s : State) (f g : SwFrame) : State :=
  let fs := (replaceOne f g s.sw.frames).filter swLive
  ({ s with sw := { s.sw with frames := fs } }).swCheck

/-- A marked frame leaves output `o` (R267). -/
def State.tailMark (s : State) (o : Nat) (dup : Bool) : State :=
  let s := (s.inc (Addr.swPortTailMarked o)).event Addr.swEvents 0
  if dup then s.inc (Addr.swPortTailDup o) else s

/-- Bytes of the VLAN tags at the start of what follows the addresses: at most two (R282). -/
def tagBytes (bs : List Byte) : Nat :=
  let isTag (l : List Byte) : Bool := beNat (l.take 2) == 0x8100 || beNat (l.take 2) == 0x88A8
  if isTag bs then (if isTag (bs.drop 4) then 8 else 4) else 0

/-- The RCT that a station port appends (R299). -/
def rctOf (p : Nat) (seqNr : Half) (bytes : List Byte) : List Byte :=
  let size := bytes.length - 12 - tagBytes (bytes.drop 12) + 6
  beBytes 2 seqNr.toNat ++ beBytes 2 ((if p = 0 then 0xA else 0xB) * 4096 + size % 4096) ++ beBytes 2 0x88FB

/-- The bytes that station port `p` sends of a frame, without FCS. -/
def staBytes (p : Nat) (f : SwFrame) : List Byte :=
  match f.seqNr with
  | none => f.bytes
  | some q => f.bytes ++ rctOf p q f.bytes

/-- A station port sends a frame with its FCS; a marked one has the complement of the FCS and ends in an error code of the
port's PCS (R267, R305). -/
def State.ethSend (s : State) (p : Nat) (bytes : List Byte) (marked : Bool) : State :=
  let fcs := crc32Eth bytes
  s.emit (.eth p bytes (if marked then ~~~fcs else fcs)
    (if !marked then .plain else if s.flag (Addr.staCtrl p) 0 then .violation else .errorControl))

/-- A whole frame leaves output `o`, 0 to 3: the ring frames of its destinations, or the station port's frame; a marked
one ends in EBD or in the complemented FCS (R262, R267, R306). A hub that is no MEMBER sends nothing of its own into the
ring (R226). -/
def State.swLeave (s : State) (o : Nat) (f : SwFrame) : State :=
  if o < 2 then
    let p : RingPort := if o = 0 then .east else .west
    if s.ring.sync != .member then (s.inc Addr.ringTransitDropCount).event Addr.ringEvents 9
    else if s.active (ringLink p) then
      let s := s.each f.copies fun s r => s.linkSend (ringLink p) { r with dir := p, good := !f.bad }
      (s.inc (Addr.swPortTxFrames o)).when f.bad fun s => s.tailMark o f.dup
    else s.inc Addr.ringBreakDropCount
  else if (s.sta (o - 2)).link then
    let s := (s.ethSend (o - 2) (staBytes (o - 2) f) f.bad).inc (Addr.swPortTxFrames o)
    (s.inc (Addr.staTxFrames (o - 2))).when f.bad fun s => s.tailMark o f.dup
  else s.inc (Addr.staTxDiscardCount (o - 2))

/-- The last cell of an open frame is stored, or the frame proves bad: what has left cut-through ends so, a
store-and-forward copy of a bad frame is discarded, and a cut-through copy that waits keeps its mark (R266). -/
def State.swEnd (s : State) (f : SwFrame) (bad dup : Bool) : State :=
  let g := { f with opened := false, bad := f.bad || bad, dup := dup, started := [] }
  let s := s.each f.started fun s o => s.swLeave o g
  let keep := if g.bad then g.outs.filter fun q => g.cut.contains (q / 8) else g.outs
  let s := if g.bad then s.each (g.outs.filter fun q => !g.cut.contains (q / 8)) fun s q => s.inc (Addr.swPortDropBad (q / 8))
    else s
  s.swReplace f { g with outs := keep }

/-- The open frame that entered as ring frame `x`. -/
def State.swOfRing (s : State) (x : PortFrame) : Option SwFrame :=
  s.sw.frames.find? fun f => f.opened && f.origin == some x

end Sys2Proof.Machine
end

