-- ==== Sys2Proof/Machine/Ring.lean ====
section
/-! DEFINITION. Ring frames (chapter 9): the forwarding decision, the duplicate window, in-order streams, delivery, ring
control frames, beacons, and the guarded RING_CMD. -/

namespace Sys2Proof.Machine

/-- TYPE and class agree (R216). -/
def typeAllowed (f : RingFrame) : Bool :=
  match f.typ.toNat with
  | 0 => f.cls == .e
  | 1 => f.cls == .t || f.cls == .c || f.cls == .b
  | 2 | 3 | 4 => f.cls == .c || f.cls == .b
  | 6 | 7 => f.cls == .t
  | _ => false

/-- A frame of a transaction: TYPE 1 to 4. -/
def isTxnFrame (f : RingFrame) : Bool := decide (1 ≤ f.typ.toNat) && decide (f.typ.toNat ≤ 4)

/-- The longest payload of a class (R218). -/
def maxPayload : RingClass → Nat
  | .t => 64
  | _ => 511

/-- A malformed frame (R219). -/
def malformed (f : RingFrame) : Bool :=
  !typeAllowed f || decide (maxPayload f.cls < f.payload.length)
    || (!f.pairSeq && f.keyNode != f.srcNode) || f.dstNode == 255
    || (isTxnFrame f && bits (f.hdr.getD 2 0) 16 9 == 511)

/-- Fabric address of a transaction frame (R217). -/
def frameAddr (f : RingFrame) : FabricAddr :=
  BitVec.ofNat 48 ((f.hdr.getD 1 0).toNat + bits (f.hdr.getD 2 0) 0 16 * 2 ^ 32)

/-- COUNT of a transaction frame (R217). -/
def frameCount (f : RingFrame) : Nat := bits (f.hdr.getD 2 0) 16 9 + 1
def frameTag (f : RingFrame) : Nat := bits (f.hdr.getD 0 0) 24 8
def frameWho (f : RingFrame) : BitVec 4 := BitVec.ofNat 4 (bits (f.hdr.getD 0 0) 20 4)
def frameStatus (f : RingFrame) : Nat := bits (f.hdr.getD 0 0) 16 4
def frameIseq (f : RingFrame) : Half := BitVec.ofNat 16 (bits (f.hdr.getD 0 0) 0 16)

/-- A posted write to node 254, space 0, at offset `off` (R239). -/
def beaconAt (off : Nat) (f : RingFrame) : Bool :=
  f.cls == .t && f.typ == 1 && f.dstNode == 254 && faSpace (frameAddr f) == 0 && faOffset (frameAddr f) == off
def isTimeBeacon (f : RingFrame) : Bool := beaconAt 0x0023_0800 f
def isAngleBeacon (f : RingFrame) : Bool := beaconAt 0x0023_0820 f

/-- Link delay of a ring port in 2^-16 ns (R92, R93). -/
def State.linkDelay16 (s : State) (p : RingPort) : Int :=
  let d := s.reg (match p with | .east => Addr.timeLinkDelayEast | .west => Addr.timeLinkDelayWest)
  floorDiv (Int.ofNat d.toNat * 4096) 25

/-- CORR of a time beacon's payload with `d` added (R93). -/
def addCorr (ws : List Word) (d : Int) : List Word :=
  let c := BitVec.ofInt 64 (Int.ofNat ((ws.getD 3 0).toNat * 2 ^ 32 + (ws.getD 4 0).toNat) + d)
  setAt (setAt ws 3 (word (c.toNat / 2 ^ 32))) 4 (word c.toNat)

/-- The copy that a hub forwards, ended by EBD when the frame it received is bad (R193, R220): HOPS + 1, and CORR of a time beacon raised by the delay of the arrival port and by the
residence time, in 2^-16 ns (R220, R93). -/
def State.forwardCopy (s : State) (p : RingPort) (f : RingFrame) (residence : Nat) : RingFrame :=
  { f with
    hops := f.hops + 1, good := frameGood f,
    payload := if isTimeBeacon f then addCorr f.payload (s.linkDelay16 p + Int.ofNat residence) else f.payload }

/-- A transit frame finds too little of the transit buffer free, `used` bytes being in use (R221). -/
def transitFull (f : RingFrame) (used : Nat) : Bool :=
  match f.cls with
  | .e | .b => decide (49152 < used)
  | .t | .c => decide (65536 < used + 4 * frameWords f)

/-- Forward a copy out of port `q`, or drop it (R221, R229). -/
def State.forward (s : State) (q : RingPort) (f : RingFrame) (used : Nat) : State :=
  if s.active (ringLink q) then
    if transitFull f used then (s.inc Addr.ringTransitDropCount).event Addr.ringEvents 9
    else s.linkSend (ringLink q) f
  else s.inc Addr.ringBreakDropCount

/-- The verdicts of the window check (R230). -/
inductive WinCheck where
  | newEpoch | ahead | inWindow | dup | old
  deriving DecidableEq, Repr

/-- The window check of R230. -/
def winCheck (w : Window) (e : Byte) (q : Half) : WinCheck :=
  let de := (e - w.epoch).toNat
  if !w.valid || decide (1 ≤ de ∧ de ≤ 127) then .newEpoch
  else if e ≠ w.epoch then .old
  else
    let d := (w.high - q).toNat
    if 32768 ≤ d then .ahead
    else if 256 ≤ d then .old
    else if bit w.seen (q.toNat % 256) then .dup
    else .inWindow

/-- Bits `from + 1` to `to - 1`, modulo 256, cleared (R230). -/
def clearBetween (seen : BitVec 256) (high q : Half) : BitVec 256 :=
  let n := (q - high).toNat
  if 256 ≤ n then 0
  else (List.range (n - 1)).foldl (fun b i => setBit b ((high.toNat + 1 + i) % 256) false) seen

/-- The commit of R230 for an accepted frame. -/
def winCommit (w : Window) (v : WinCheck) (e : Byte) (q : Half) (p : RingPort) : Window :=
  match v with
  | .newEpoch => { valid := true, epoch := e, high := q, hport := p, seen := setBit 0 (q.toNat % 256) true }
  | .ahead => { w with high := q, hport := p, seen := setBit (clearBetween w.seen w.high q) (q.toNat % 256) true }
  | .inWindow => { w with seen := setBit w.seen (q.toNat % 256) true }
  | .dup | .old => w

/-- The window that a frame uses (R230). -/
def winKey (f : RingFrame) : Nat := f.keyNode.toNat * 4 + classCode f.cls
def State.window (s : State) (k : Nat) : Window := Store.get {} s.ring.windows k

/-- A copy that a window refuses is counted; an OLD one on HPORT is an overrun (R229, R232). -/
def State.refuseCopy (s : State) (v : WinCheck) (p : RingPort) (w : Window) : State :=
  match v with
  | .dup => s.inc Addr.ringDupCount
  | .old =>
    let s := s.inc Addr.ringDupOldCount
    if p = w.hport then
      ((s.inc Addr.ringOverrunCount).event Addr.ringEvents 5).raise .ring .dupWindowOverrun 0 none
    else s
  | _ => s

/-- Class of the response to a request (R243); class T carries no TYPE 4 (R216), so a class T request is answered in
class C (log entry 63). -/
def respClass : RingClass → RingClass
  | .t => .c
  | k => k

/-- The response to request `f`, addressed to the hub that sent it (R217, R243). -/
def State.responseFrame (s : State) (f : RingFrame) (status kind : Nat) (data : List Word) : RingFrame :=
  let n := if f.typ == 3 then frameCount f else f.payload.length
  s.newFrame (respClass f.cls) 4 f.srcNode.toNat f.srcRing.toNat
    [word (frameTag f * 2 ^ 24 + (frameWho f).toNat * 2 ^ 20 + status * 2 ^ 16 + (frameIseq f).toNat),
     f.hdr.getD 1 0, word (bits (f.hdr.getD 2 0) 0 16 + (n - 1) % 512 * 2 ^ 16 + kind * 2 ^ 28)] data

/-- Send the response to request `f`: one that this hub made itself is answered in the hub (R60); a broadcast is never
answered (R63). -/
def State.respond (s : State) (f : RingFrame) (status kind : Nat) (data : List Word) : State :=
  let r := s.responseFrame f status kind data
  if f.dstNode = 254 then s
  else if f.srcNode = s.node ∧ f.srcRing = s.ringNo then
    { s with bridge := { s.bridge with loop := s.bridge.loop ++ [r] } }
  else s.originate r

/-- A good copy of a paired posted write that the duplicate window drops is acknowledged all the same (R363). -/
def State.ackDropped (s : State) (f : RingFrame) : State :=
  if frameGood f && f.pairSeq && f.typ == 1 && f.dstNode == s.node then s.respond f 0 0 [] else s

/-- The forwarding decision for a frame that has arrived on `port` (R229). -/
def State.frameArrive (s : State) (port : RingPort) (f : RingFrame) (used residence : Nat) : State :=
  if malformed f then s.inc Addr.ringHdrErrCount
  else if f.srcRing = s.ringNo ∧ f.srcNode = s.node then if f.dstNode = 254 then s else s.recordReturn f
  else if s.nodes ≤ f.hops.toNat then (s.inc Addr.ringOrphanCount).event Addr.ringEvents 7
  else
    let member := s.ring.sync == .member
    let mine := member && f.dstNode == s.node
    let bcast := f.dstNode == 254
    let s := if bcast || !mine then s.forward (otherPort port) (s.forwardCopy port f residence) used else s
    if (mine || bcast) && member then
      let w := s.window (winKey f)
      match winCheck w f.epoch f.seq with
      | .dup => (s.refuseCopy .dup port w).ackDropped f
      | .old => (s.refuseCopy .old port w).ackDropped f
      | _ => { s with ring := { s.ring with cut := s.ring.cut ++ [⟨port, f, s.now⟩] } }
    else s

/-- A unicast frame for another ring (R229). -/
def State.across (s : State) (f : RingFrame) : Bool := f.dstNode != 254 && f.dstRing != s.ringNo

/-- A frame is handed to the unit it is for; one addressed to another ring crosses the bridge, or is dropped and counted
(R229, R241). -/
def State.deliver (s : State) (x : PortFrame) : State :=
  if s.across x.frame then
    if s.bridges && isTxnFrame x.frame then s.pairSend x.frame
    else s.inc Addr.ringHdrErrCount
  else { s with ring := { s.ring with inbox := s.ring.inbox ++ [x] } }

/-- The stream of a frame: key node, class and STREAM (R237). -/
def streamKey (f : RingFrame) : Nat := winKey f * 32 + f.stream.toNat

/-- The next held frame of the stream and epoch of `f` that is now in sequence. -/
def State.nextHeld (s : State) (f : RingFrame) : Option PortFrame :=
  s.ring.held.find? fun x =>
    streamKey x.frame == streamKey f && x.frame.epoch == f.epoch
      && x.frame.sseq == Store.get 0 s.ring.expected (streamKey f)

/-- Deliver an in-order frame and move the expected value past it. -/
def State.deliverOrdered (s : State) (x : PortFrame) : State :=
  let s := { s with ring := { s.ring with
    expected := Store.put 0 s.ring.expected (streamKey x.frame) (x.frame.sseq + 1),
    held := s.ring.held.filter (· != x) } }
  s.deliver x

/-- Deliver the held frames that are now in sequence; `n` bounds their number. -/
def State.drainStream (s : State) (f : RingFrame) : Nat → State
  | 0 => s
  | n + 1 =>
    match s.nextHeld f with
    | none => s
    | some x => State.drainStream (s.deliverOrdered x) f n

/-- The held frames of a stream in SSEQ order, counted from the expected value. -/
def heldOrder (e : Byte) (l : List PortFrame) : List PortFrame :=
  (List.range 256).flatMap fun d => l.filter fun x => (x.frame.sseq - e).toNat == d

/-- The oldest held frame's stream gives up its gap: its held frames are delivered in SSEQ order, the expected value
moves past them and the missing frames are counted (R237). -/
def State.expireGap (s : State) : State :=
  match s.ring.held with
  | [] => s
  | h :: _ =>
    let k := streamKey h.frame
    let e := Store.get 0 s.ring.expected k
    let l := heldOrder e (s.ring.held.filter fun x => streamKey x.frame == k)
    let last := (l.getLast?.map fun x => (x.frame.sseq - e).toNat + 1).getD 0
    let s := (s.addTo Addr.ringReorderGapCount (last - l.length)).event Addr.ringEvents 8
    s.each l fun s x => s.deliverOrdered x

/-- A window has taken a new epoch: the frames that its streams still hold from the old one are delivered in SSEQ order,
and the first INORD frame of each stream sets the expected value anew (R237). -/
def State.streamsRestart (s : State) (w : Nat) : State :=
  let l := (List.range 32).flatMap fun j =>
    heldOrder (Store.get 0 s.ring.expected (w * 32 + j)) (s.ring.held.filter fun x => streamKey x.frame == w * 32 + j)
  let s := { s with ring := { s.ring with
    expectedSet := s.ring.expectedSet.filter fun j => j / 32 != w,
    held := s.ring.held.filter fun x => winKey x.frame != w } }
  s.each l fun s x => s.deliver x

/-- The place of an INORD frame in its stream (R237): next in sequence it is delivered, with the held frames that follow
it; ahead it is held; otherwise it is dropped and counted. -/
def State.placeOrdered (s : State) (x : PortFrame) : State :=
  let a := (x.frame.sseq - Store.get 0 s.ring.expected (streamKey x.frame)).toNat
  if a = 0 then (s.deliverOrdered x).drainStream x.frame 64
  else if a ≤ 127 then { s with ring := { s.ring with held := s.ring.held ++ [{ x with since := s.now }] } }
  else s.inc Addr.ringReorderGapCount

/-- An INORD frame accepted by its window (R237); a frame that would have to be held in a full store expires the oldest gap
first. -/
def State.reorder (s : State) (x : PortFrame) : State :=
  let k := streamKey x.frame
  let s :=
    if s.ring.expectedSet.contains k then s
    else { s with ring := { s.ring with
      expected := Store.put 0 s.ring.expected k x.frame.sseq, expectedSet := s.ring.expectedSet ++ [k] } }
  let a := (x.frame.sseq - Store.get 0 s.ring.expected k).toNat
  let s := if 1 ≤ a ∧ a ≤ 127 ∧ 64 ≤ s.ring.held.length then s.expireGap else s
  s.placeOrdered x

/-- The end of a frame that went into the switch cut-through, as `x`: false when no such frame is open there. -/
def State.ringEnd (s : State) (x : PortFrame) (bad dup : Bool) : State :=
  match s.swOfRing x with
  | none => s
  | some f => s.swEnd f bad dup

/-- A frame accepted by its window goes on: into the switch it has already entered, through its stream, or to its unit;
`fresh` when the window took a new epoch with it. -/
def State.ringAccept (s : State) (x : PortFrame) (fresh : Bool) : State :=
  let s := if fresh then s.streamsRestart (winKey x.frame) else s
  if (s.swOfRing x).isSome then s.ringEnd x false false
  else if x.frame.inOrd then s.reorder x
  else s.deliver x

/-- R230: the EOF of the oldest frame that passed into the switch from `port`. A hub that has left MEMBER delivers nothing
(R226). -/
def execRingFrameCommit (port : RingPort) (s : State) : Host.Outcome State Fault Refusal :=
  if !s.start.logicUp then .next s else
  match s.ring.cut.find? fun x => x.port == port with
  | none => .next s
  | some x =>
    let s := { s with ring := { s.ring with cut := s.ring.cut.erase x } }
    let f := x.frame
    if !frameGood f || s.ring.sync != .member then .next (s.ringEnd x true false)
    else
      let w := s.window (winKey f)
      let v := winCheck w f.epoch f.seq
      match v with
      | .dup => .next (((s.ringEnd x true true).refuseCopy .dup port w).ackDropped f)
      | .old => .next (((s.ringEnd x true true).refuseCopy .old port w).ackDropped f)
      | v =>
        let s := { s with ring := { s.ring with
          windows := Store.put {} s.ring.windows (winKey f) (winCommit w v f.epoch f.seq port) } }
        .next (s.ringAccept x (v == .newEpoch))

/-- R237: a held frame has waited RING_REORDER.HOLD; a hub that is no MEMBER delivers nothing, and keeps it (R226, log entry
146). -/
def execReorderHoldExpiry (s : State) : Host.Outcome State Fault Refusal :=
  if !s.start.logicUp then .next s else
  .next (if s.ring.sync == .member then s.expireGap else s)

/-- Take the oldest delivered frame that `p` admits. -/
def State.takeInbox (s : State) (p : RingFrame → Bool) : Option (PortFrame × State) :=
  match s.ring.inbox.find? fun x => p x.frame with
  | none => none
  | some x => some (x, { s with ring := { s.ring with inbox := s.ring.inbox.erase x } })

/-- A ring control frame of a code (R217). -/
def isControl (code : Nat) (f : RingFrame) : Bool := f.typ == 7 && bits (f.hdr.getD 0 0) 0 8 == code

/-- The port a BREAK or HEAL names. -/
def controlPort (f : RingFrame) : RingPort := if bit (f.hdr.getD 0 0) 8 then .west else .east

/-- R228: a received JOIN. -/
def execRingJoinReceive (s : State) : Host.Outcome State Fault Refusal :=
  if !s.start.logicUp then .next s else
  match s.takeInbox (isControl 1) with
  | none => .next s
  | some (x, s) =>
    let s := s.setPresent x.frame.srcNode.toNat true
    if s.ring.sync == .member && !bit (x.frame.hdr.getD 0 0) 9 then .next (s.originate (s.controlFrame 1 .east true []))
    else .next s

/-- R228: a received LEAVE. -/
def execRingLeaveReceive (s : State) : Host.Outcome State Fault Refusal :=
  if !s.start.logicUp then .next s else
  match s.takeInbox (isControl 2) with
  | none => .next s
  | some (x, s) => .next (s.setPresent x.frame.srcNode.toNat false)

/-- R234: a received BREAK. -/
def execRingBreakReceive (s : State) : Host.Outcome State Fault Refusal :=
  if !s.start.logicUp then .next s else
  match s.takeInbox (isControl 3) with
  | none => .next s
  | some (x, s) => .next (s.spanBroken x.frame.srcNode.toNat (controlPort x.frame))

/-- R234: a received HEAL. -/
def execRingHealReceive (s : State) : Host.Outcome State Fault Refusal :=
  if !s.start.logicUp then .next s else
  match s.takeInbox (isControl 4) with
  | none => .next s
  | some (x, s) =>
    .next (s.spanHealed x.frame.srcNode.toNat (controlPort x.frame) (x.frame.payload.map fun w => bits w 0 8))

/-- A committed RING_CMD.REJOIN (R224). -/
def State.ringRejoin (s : State) : State :=
  if s.ring.sync == .transit then
    let c := s.standingCause
    if c = 0 then { s with ring := { s.ring with sync := .down, cause := 0 } }.ringJoin
    else { s with ring := { s.ring with cause := c } }.event Addr.ringEvents 1
  else s

/-- A committed RING_CMD.LEAVE (R228). -/
def State.ringLeave (s : State) : State :=
  if s.ring.sync == .member then
    { s.originate (s.controlFrame 2 .east false []) with
      ring := { (s.originate (s.controlFrame 2 .east false [])).ring with leaving := true } }
  else s

/-- A committed RING_CMD. -/
def State.ringCmdGo (s : State) (v : Word) : State :=
  let s := if bit v 0 then s.ringRejoin else s
  if bit v 1 then s.ringLeave else s

/-- R228: 10 µs after LEAVE. -/
def execRingLeaveComplete (s : State) : Host.Outcome State Fault Refusal :=
  if !s.start.logicUp then .next s else
  if s.ring.leaving then
    let s := { s with ring := { s.ring with leaving := false } }
    .next (if s.ring.sync == .member then { s with ring := { s.ring with sync := .down } } else s)
  else .next s

/-- A write into the RING block other than UNIT_CTRL and the guarded pair. A declaration that cannot be met is a mismatch as
it is written (R2, R241), and a write that leaves the ring's configuration missing is a Transit cause (R224, R225). -/
def State.ringWrite (s : State) (a : Nat) (v : Word) : State :=
  if a = Addr.ringEvents then s.sqWrite a v
  else
    let t := s.plainWrite a v
    if s.start.released && (a == Addr.ringPair || a == Addr.ringBridge) && t.declaredMismatch then t.enterTransit 3
    else if s.start.released && s.enabled .ring && s.ring.sync != .transit && t.configMissing then t.enterTransit 1
    else t

/-- RING_STATUS (R242). -/
def State.ringStatusWord (s : State) : Word :=
  let st : Nat := match s.ring.sync with | .down => 0 | .joining => 1 | .member => 2 | .transit => 3
  let members := ((List.range 254).filter fun n => s.present n).length
  word (st + ofBool s.ring.breakEast * 4 + ofBool s.ring.breakWest * 8 + ofBool (!s.ring.broken.isEmpty) * 16
    + ofBool (decide (2 ≤ s.ring.broken.length)) * 32 + members * 2 ^ 8 + s.ring.epoch.toNat * 2 ^ 16
    + s.ring.cause * 2 ^ 24)

/-- What a read of a RING word shows instead of the stored word. -/
def State.ringView (s : State) (a : Nat) : Option Word :=
  if a = Addr.ringStatus then some s.ringStatusWord else none

/-- A beacon from an undeclared master (R96, R113). -/
def State.beaconMismatch (s : State) : State := (s.event Addr.timeEvents 6).enterTransitAs .time 4

/-- The time beacon that a payload spells (R93). -/
def timeBeaconOf (p : List Word) : TimeBeacon :=
  let g (i : Nat) : Nat := (p.getD i 0).toNat
  { originNs := BitVec.ofNat 64 (g 0 * 2 ^ 32 + g 1), originFrac := BitVec.ofNat 16 (g 2 / 2 ^ 16),
    mstate := BitVec.ofNat 8 (g 2 / 2 ^ 8), corr := BitVec.ofNat 64 (g 3 * 2 ^ 32 + g 4), rate := p.getD 5 0,
    seq := p.getD 6 0, taiUtc := BitVec.ofNat 16 (g 7 / 2 ^ 16), leap := BitVec.ofNat 8 (g 7 / 2 ^ 8) }

/-- The payload words of a time beacon. -/
def timeBeaconWords (b : TimeBeacon) : List Word :=
  [word (b.originNs.toNat / 2 ^ 32), word b.originNs.toNat, word (b.originFrac.toNat * 2 ^ 16 + b.mstate.toNat * 2 ^ 8),
   word (b.corr.toNat / 2 ^ 32), word b.corr.toNat, b.rate, b.seq,
   word (b.taiUtc.toNat * 2 ^ 16 + b.leap.toNat * 2 ^ 8)]

/-- The angle beacon that a payload spells (R113). -/
def angleBeaconOf (p : List Word) : AngleBeacon :=
  let g (i : Nat) : Nat := (p.getD i 0).toNat
  { cycle := p.getD 0 0, t0Ns := BitVec.ofNat 64 (g 1 * 2 ^ 32 + g 2), t0Frac := BitVec.ofNat 16 (g 3 / 2 ^ 16),
    state := BitVec.ofNat 8 (g 3 / 2 ^ 8), freq := p.getD 4 0 }

/-- R93: the ring time master sends a time beacon on both ring ports. -/
def execTimeBeaconSend (s : State) : Host.Outcome State Fault Refusal :=
  if !s.start.logicUp then .next s else
  if s.flag Addr.timeCtrl 4 then
    let st : Nat := match s.time.sync with | .freeRun => 0 | .acquiring => 1 | .locked => 2 | .holdover => 3
    let b : TimeBeacon :=
      { originNs := BitVec.ofNat 64 s.timeNs, originFrac := BitVec.ofNat 16 (s.time16 % 65536).toNat,
        mstate := BitVec.ofNat 8 (st + s.time.source * 8), corr := 0, rate := s.reg Addr.timeRate,
        seq := s.time.beaconSeq, taiUtc := BitVec.ofNat 16 (s.field Addr.timeTaiUtc 0 16),
        leap := BitVec.ofNat 8 (s.field Addr.timeTaiUtc 16 2) }
    let s := { s with time := { s.time with beaconSeq := s.time.beaconSeq + 1 } }
    .next (s.sendBeacon 0x0023_0800 (timeBeaconWords b))
  else .next s

/-- The TAI_UTC fields of an accepted beacon (R94). -/
def State.takeTaiUtc (s : State) (b : TimeBeacon) : State :=
  let v := word (b.taiUtc.toNat + bits b.leap 0 2 * 2 ^ 16)
  if s.reg Addr.timeTaiUtc = v then s else (s.setReg Addr.timeTaiUtc v).event Addr.timeEvents 5

/-- A beacon is accepted from `node` on `port` with receive stamp `stamp` (R94); `taken` when the backup is taken with it
(R96). -/
def State.acceptBeacon (s : State) (b : TimeBeacon) (node : Byte) (port : RingPort) (stamp : Int) (taken : Bool) : State :=
  let changed := taken || (s.time.seenSeq.isSome && s.time.masterNode != node)
  let s := if changed then s.event Addr.timeEvents 3 else s
  let s := { s with time := { s.time with masterNode := node, seenSeq := some b.seq, rateRoot := b.rate.toInt } }
  if s.time.source = 1 then
    let s := s.takeTaiUtc b
    let origin := Int.ofNat (b.originNs.toNat * 65536 + b.originFrac.toNat)
    s.servo (origin + b.corr.toInt + s.linkDelay16 port - stamp)
  else s

/-- R94, R96: the oldest time beacon delivered, received with stamp `stamp` (2^-16 ns). -/
def execTimeBeaconReceive (stamp : Int) (s : State) : Host.Outcome State Fault Refusal :=
  if !s.start.logicUp then .next s else
  match s.takeInbox isTimeBeacon with
  | none => .next s
  | some (x, s) =>
    let b := timeBeaconOf x.frame.payload
    let node := x.frame.srcNode
    let silent := 50 * 1000 * 2 ^ min 6 (s.field Addr.timeCtrl 8 4) * s.lossCount
    if node.toNat = s.field Addr.timeMasters 0 8 then
      let s := { s with time := { s.time with primaryAt := s.now, backupRun := 0, backupTaken := false } }
      .next (s.acceptBeacon b node x.port stamp false)
    else if node.toNat = s.field Addr.timeMasters 8 8 then
      if s.time.backupTaken then .next (s.acceptBeacon b node x.port stamp false)
      else if !s.elapsed s.time.primaryAt silent then .next s
      else if s.time.backupRun = 0 then .next { s with time := { s.time with backupRun := 1 } }
      else
        let s := { s with time := { s.time with backupTaken := true, backupRun := 0 } }
        let s := if s.time.source = 1 then { s with time := { s.time with sync := .acquiring, good := 0 } } else s
        .next (s.acceptBeacon b node x.port stamp true)
    else .next s.beaconMismatch

/-- R113, R498: the oldest angle beacon delivered. -/
def execAngleBeaconReceive (s : State) : Host.Outcome State Fault Refusal :=
  if !s.start.logicUp then .next s else
  match s.takeInbox isAngleBeacon with
  | none => .next s
  | some (x, s) =>
    if x.frame.srcNode.toNat ≠ s.field Addr.angleCtrl 24 8 then .next s.beaconMismatch
    else if s.angleSource ≠ 3 then .next s
    else
      let b := angleBeaconOf x.frame.payload
      let t0 : Nat := b.t0Ns.toNat * 65536 + b.t0Frac.toNat
      let u := if s.angle.freq = 0 then s else s.relockTest (s.jumpOf (Int.ofNat t0))
      let u := { u with angle := { u.angle with
        t0 := BitVec.ofNat 80 t0, cycle := b.cycle, freq := b.freq } }
      let u := s.ephAngleMoved u
      let masterLocked := bits b.state 0 2 == 2
      match u.angle.sync with
      | .acquiring => .next (if masterLocked then u.angleGained .following else u)
      | .following =>
        if masterLocked then .next u
        else .next ({ u with angle := { u.angle with sync := .acquiring } }.event Addr.angleEvents 1).angleUnlock
      | _ => .next u

end Sys2Proof.Machine
end

