-- ==== Sys2Proof/Machine/QueueBase.lean ====
section
/-! DEFINITION. The hardware queues (R331 to R338): offering a word, taking one, dropping a packet, and what happens to a
packet whose producer is lost; and the injection of ECC errors (R446). -/

namespace Sys2Proof.Machine

/-- An armed injection of this target and selector is carried out on this write: the number of inverted check bits of the
stored word (R446). -/
def State.inject (s : State) (target sel a : Nat) : Nat × State :=
  let x := s.fault.inject
  if x.armed && x.target == target && (x.sel == sel || decide (3 ≤ target)) then
    (if x.double then 2 else 1,
      { s with fault := { s.fault with inject := { x with armed := false, done := true, detected := false, addr := a } } })
  else (0, s)

/-- A read of a word with `n` inverted check bits reports under unit `u`; Flags bit 0 tells an injected error (R446). -/
def State.eccSeen (s : State) (u : HubUnit) (n a : Nat) : State :=
  if n = 0 then s
  else
    let x := s.fault.inject
    let hit := x.addr == a
    let s := if hit then { s with fault := { s.fault with inject := { x with detected := true } } } else s
    s.raise u (if n = 1 then .eccCorr else .eccUncorr) (ofBool hit) (some (s.hubAddr a))

/-- A word at local address `a` is written: its check bits are good, or injected with the target given. -/
def State.eccStore (s : State) (target sel a : Nat) : State :=
  let p := s.inject target sel a
  { p.2 with ecc := Store.put 0 p.2.ecc a p.1 }

/-- A word at local address `a` is read; a correctable error is corrected in place. -/
def State.eccLoad (s : State) (u : HubUnit) (a : Nat) : State :=
  let n := Store.get 0 s.ecc a
  let s := s.eccSeen u n a
  if n = 1 then { s with ecc := Store.put 0 s.ecc a 0 } else s

def State.queue (s : State) (q : Nat) : QueueState := Store.get {} s.queues q
def State.setQueue (s : State) (q : Nat) (x : QueueState) : State := { s with queues := Store.put {} s.queues q x }

/-- Entries of queue `q` (R331). -/
def State.qSize (s : State) (q : Nat) : Nat := 16 * s.field (Addr.qCfg q) 12 12

/-- The queue is enabled: EN 1 and SIZE not 0 (R331). -/
def State.qEnabled (s : State) (q : Nat) : Bool := s.flag (Addr.qUnitCtrl q) 0 && s.qSize q != 0

/-- The queue accepts words: it is enabled and its region is not fenced (R21, R331). -/
def State.qOpen (s : State) (q : Nat) : Bool := s.qEnabled q && !s.fenced (q / 16)

def State.qProducer (s : State) (q : Nat) : SourceId := BitVec.ofNat 16 (s.field (Addr.qEnds q) 0 16)
def State.qConsumer (s : State) (q : Nat) : SourceId := BitVec.ofNat 16 (s.field (Addr.qEnds q) 16 16)

/-- END and ABORT marks held (R334). -/
def QueueState.pkts (x : QueueState) : Nat := (x.words.filter fun w => w.mark != .data).length

/-- A word is available to the consumer (R334). -/
def State.qAvail (s : State) (q : Nat) : Bool :=
  let x := s.queue q
  let ct := s.field (Addr.qCtrl q) 0 9
  !x.words.isEmpty && (x.started || x.pkts != 0 || (ct != 0 && decide (ct ≤ x.words.length)))

/-- Most words that the queue holds before it refuses a word of this mark (R332). -/
def State.qLimit (s : State) (q : Nat) (m : Mark) : Nat := if m = .abort then s.qSize q else s.qSize q - 1

/-- The queue has room for `n` data words offered by `p`. -/
def State.qRoom (s : State) (q : Nat) (p : SourceId) (n : Nat) : Bool :=
  s.qOpen q && s.qProducer q == p && ((s.queue q).dropping || decide ((s.queue q).words.length + n ≤ s.qSize q - 1))

/-- Word and mark of the head entry, and the state without it; a mark ends the packet begun (R334). -/
def State.qTake (s : State) (q : Nat) : Option (QWord × State) :=
  match (s.queue q).words with
  | [] => none
  | w :: r =>
    let s := s.setQueue q { s.queue q with words := r, started := w.mark == .data }
    some (w, s.eccSeen (.queue (fin 63 q)) w.ecc (Addr.queueBase q))

/-- The code of a mark as Q_POPMARK shows it. -/
def markCode : Mark → Nat
  | .data => 0 | .last => 1 | .abort => 2

/-- Host reads of Q_POP that wait take words as they become available (R335, R338); `n` bounds their number. -/
def State.qWake (s : State) (q : Nat) : Nat → State
  | 0 => s
  | n + 1 =>
    if (s.queue q).popWait != 0 && s.qConsumer q == 0 && s.qAvail q then
      match s.qTake q with
      | none => s
      | some (w, s) =>
        let x := s.queue q
        let s := s.setQueue q { x with popWait := x.popWait - 1, popMarks := assocSet x.popMarks .host (markCode w.mark) }
        State.qWake (s.answer .host (Addr.qPop q) (.data w.v)) q n
    else s

/-- A word has become available in queue `q` between `s` and `t` (R455). -/
def State.qNote (s t : State) (q : Nat) : State := if !s.qAvail q && t.qAvail q then t.irq (32 + q) else t

/-- Append a word to the queue; an ABORT is counted (R337). -/
def State.qAppend (s : State) (q : Nat) (v : Word) (m : Mark) : State :=
  let p := s.inject 4 0 (Addr.queueBase q)
  let s := p.2
  let x := s.queue q
  let s := s.qNote (s.setQueue q { x with words := x.words ++ [⟨v, m, p.1⟩], part := m == .data }) q
  let s := if m = .abort then (s.inc (Addr.qAbortCount q)).event (Addr.qEvents q) 2 else s
  s.qWake q (s.queue q).popWait

/-- Offer a word to a queue under a producer's source ID, 0 for register access: whether it was taken, and the state
(R331, R332, R333, R336). A word taken by a queue that is dropping a packet is discarded. -/
def State.qOffer (s : State) (q : Nat) (p : SourceId) (v : Word) (m : Mark) : Bool × State :=
  let x := s.queue q
  if !s.qOpen q || s.qProducer q != p then (false, (s.inc (Addr.qRefusedCount q)).event (Addr.qEvents q) 0)
  else if x.dropping then
    (true, (s.setQueue q { x with dropping := m == .data, part := m == .data }).inc (Addr.qDroppedWords q))
  else if s.qLimit q m ≤ x.words.length then
    let s := s.event (Addr.qEvents q) 1
    (false, if p = 0 then s.inc (Addr.qFullDropCount q) else s)
  else (true, s.qAppend q v m)

/-- Offer words in order until one is refused: the words left and the state. -/
def State.qOfferAll (s : State) (q : Nat) (p : SourceId) : List (Word × Mark) → List (Word × Mark) × State
  | [] => ([], s)
  | (v, m) :: r =>
    match s.qOffer q p v m with
    | (true, s) => State.qOfferAll s q p r
    | (false, s) => ((v, m) :: r, s)

/-- A packet of words: the last one carries END. -/
def packet : List Word → List (Word × Mark)
  | [] => []
  | [v] => [(v, .last)]
  | v :: r => (v, .data) :: packet r

/-- Offer a whole packet: a queue without room for all of it refuses it at its first word, or marks FULL (R333, R341). -/
def State.qOfferPacket (s : State) (q : Nat) (p : SourceId) (ws : List Word) : Bool × State :=
  if s.qRoom q p ws.length then (true, (s.qOfferAll q p (packet ws)).2)
  else if s.qOpen q && s.qProducer q == p then (false, s.event (Addr.qEvents q) 1)
  else (false, (s.inc (Addr.qRefusedCount q)).event (Addr.qEvents q) 0)

/-- Take an available word as the consumer `c` (R333, R334). -/
def State.qTakeAs (s : State) (q : Nat) (c : SourceId) : Option (QWord × State) :=
  if s.qConsumer q == c && s.qAvail q then s.qTake q else none

/-- DROPPKT (R336). -/
def State.qDropPkt (s : State) (q : Nat) : State :=
  let x := s.queue q
  if x.words.isEmpty then s
  else
    let n := (x.words.takeWhile fun w => w.mark == .data).length
    if n < x.words.length then
      (s.setQueue q { x with words := x.words.drop (n + 1), started := false }).addTo (Addr.qDroppedWords q) (n + 1)
    else (s.setQueue q { x with words := [], started := false, dropping := true }).addTo (Addr.qDroppedWords q) n

/-- Discard a queue's contents: it is disabled or its region is fenced (R331). -/
def State.qFlush (s : State) (q : Nat) : State :=
  let x := s.queue q
  s.setQueue q { x with words := [], started := false, dropping := false, part := false }

/-- A producer is lost within a packet: an ABORT with data 0 is appended, or ends the dropping of the packet (R337). -/
def State.qProducerLost (s : State) (q : Nat) : State :=
  let x := s.queue q
  if !x.part then s
  else if x.dropping then
    ((s.setQueue q { x with dropping := false, part := false }).inc (Addr.qDroppedWords q)).inc (Addr.qAbortCount q)
  else if s.qLimit q .abort ≤ x.words.length then (s.setQueue q { x with part := false }).event (Addr.qEvents q) 1
  else s.qAppend q 0 .abort

/-- Producer `p` is reset, disabled or fenced (R337). -/
def State.producerLost (s : State) (p : SourceId) : State :=
  if p = 0 then s
  else s.each (List.range 64) fun s q => if s.qProducer q == p then s.qProducerLost q else s

/-- First entry and the entry after the last of a queue's range (R331). -/
def State.qRange (s : State) (q : Nat) : Nat × Nat :=
  let b := s.field (Addr.qCfg q) 0 12
  (b, b + s.field (Addr.qCfg q) 12 12)

/-- The range of `q` overlaps that of another enabled queue (R331). -/
def State.qOverlap (s : State) (q : Nat) : Bool :=
  (List.range 64).any fun k =>
    k != q && s.qEnabled k && decide ((s.qRange q).1 < (s.qRange k).2) && decide ((s.qRange k).1 < (s.qRange q).2)

/-- The queue has become enabled, or its range has changed while it was: an overlap leaves it disabled (R331). -/
def State.qCheck (s : State) (q : Nat) : State :=
  if s.qEnabled q && s.qOverlap q then ((s.setFlag (Addr.qUnitCtrl q) 0 false).qFlush q).event (Addr.qEvents q) 4
  else s

/-- A read of Q_POP by an initiator (R335): its result; a host read of an absent word stalls. -/
def State.qPopRead (s : State) (i : Initiator) (q : Nat) : AccessResult × State :=
  let noted (s : State) (m : Nat) : State :=
    let x := s.queue q
    s.setQueue q { x with popMarks := assocSet x.popMarks i m }
  if s.qConsumer q != 0 then (.data 0, (noted s 3).event (Addr.qEvents q) 0)
  else if s.qAvail q then
    match s.qTake q with
    | some (w, s) => (.data w.v, noted s (markCode w.mark))
    | none => (.data 0, noted s 3)
  else if i = .host then
    let x := s.queue q
    (.wait, s.setQueue q { x with popWait := x.popWait + 1 })
  else (.data 0, noted s 3)

/-- A write into a QUEUE block other than UNIT_CTRL. -/
def State.queueWrite (s : State) (q a : Nat) (v : Word) : State :=
  if a = Addr.qEvents q then s.sqWrite a v
  else if a = Addr.qPush q then (s.qOffer q 0 v .data).2
  else if a = Addr.qPushEnd q then (s.qOffer q 0 v .last).2
  else if a = Addr.qPushAbort q then (s.qOffer q 0 v .abort).2
  else if a = Addr.qDroppkt q then (if s.qConsumer q = 0 then s.qDropPkt q else s)
  else if a = Addr.qCfg q then
    let s := (s.plainWrite a v).qCheck q
    if s.qEnabled q then s else s.qFlush q
  else
    let s := s.qNote (s.plainWrite a v) q
    s.qWake q (s.queue q).popWait

/-- What a read of a QUEUE word shows an initiator instead of the stored word. -/
def State.queueView (s : State) (i : Initiator) (q a : Nat) : Option Word :=
  let x := s.queue q
  if a = Addr.qStatus q then
    some (word (ofBool (s.qAvail q) + ofBool x.dropping * 2 + ofBool x.started * 4))
  else if a = Addr.qPopmark q then some (word ((assocGet x.popMarks i).getD 3))
  else if a = Addr.qLevel q then some (word x.words.length)
  else if a = Addr.qPkts q then some (word x.pkts)
  else none

/-- R335: a host read of Q_POP reaches QUEUE_HOST_STALL: Completer Abort. -/
def execQPopHostStallExpiry (q : Fin 64) (s : State) : Host.Outcome State Fault Refusal :=
  if !s.start.logicUp then .next s else
  let x := s.queue q.val
  if x.popWait = 0 then .next s
  else
    let s := s.setQueue q.val { x with popWait := x.popWait - 1 }
    let s := (s.inc (Addr.qHostStallCount q.val)).event (Addr.qEvents q.val) 3
    .next (s.answer .host (Addr.qPop q.val) .abort)

end Sys2Proof.Machine
end

