-- ==== Sys2Proof/Machine/Pins.lean ====
section
/-! DEFINITION. Field pins and pin banks (R136 to R146): edges and their filter, chatter suppression, event records, the
bank supply, and the words of the bank block other than engine start and stop. -/

namespace Sys2Proof.Machine

def State.pin (s : State) (p : Nat) : PinState := Store.get {} s.pins p
def State.setPin (s : State) (p : Nat) (x : PinState) : State := { s with pins := Store.put {} s.pins p x }
def State.bank (s : State) (n : Nat) : BankState := Store.get {} s.banks n
def State.setBank (s : State) (n : Nat) (x : BankState) : State := { s with banks := Store.put {} s.banks n x }

/-- Local address of the PIN_CFG word of a field pin (R137). -/
def pinCfgAddr (p : Nat) : Nat := Addr.pinCfg (p / 32) (p % 32)

/-- Fields of PIN_CFG (R137). MUX 6 and 7 act as 0. -/
def State.pinMux (s : State) (p : Nat) : Nat :=
  let m := s.field (pinCfgAddr p) 0 3
  if m < 6 then m else 0
def State.pinInv (s : State) (p : Nat) : Bool := s.flag (pinCfgAddr p) 10

/-- BANK_LEVEL of a pin: the filtered level with INV applied (R141, R142). -/
def State.pinLevel (s : State) (p : Nat) : Bool := (s.pin p).filt != s.pinInv p

/-- The unit of the bank of a pin. -/
def bankUnit (n : Nat) : HubUnit := .bank (fin 7 n)

/-- The queue and the enable of a bank's event records (R144). -/
def State.evtQueue (s : State) (n : Nat) : Nat := s.field (Addr.bankEvtCtrl n) 0 6
def State.evtOn (s : State) (n : Nat) : Bool := s.flag (Addr.bankUnitCtrl n) 0 && s.flag (Addr.bankEvtCtrl n) 6

/-- The words of an event record (R144); the stamp is in 2^-16 ns. -/
def State.eventWords (s : State) (p kind : Nat) (level : Bool) (seq : Half) (stamp : Int) : List Word :=
  let ns := (stamp / 65536).toNat
  [word (kind * 2 ^ 28 + ofBool level * 2 ^ 27 + p * 2 ^ 16 + seq.toNat), word ns, word (ns / 2 ^ 32),
   wordInt (s.angleAt stamp)]

/-- Offer the words of the oldest buffered record; `n` bounds the records that leave. -/
def State.evtDrain (s : State) (b : Nat) : Nat → State
  | 0 => s
  | n + 1 =>
    match (s.bank b).buffer with
    | [] => s
    | r :: rest =>
      let p := s.qOfferAll (s.evtQueue b) (sourceId (bankUnit b)) r
      let s := p.2
      match p.1 with
      | [] => State.evtDrain (s.setBank b { s.bank b with buffer := rest }) b n
      | left => s.setBank b { s.bank b with buffer := left :: rest }

/-- Produce a record: it takes a SEQ number and enters the queue behind the records that the bank holds, or is lost when
16 are held (R144, R145). -/
def State.evtRecord (s : State) (p kind : Nat) (stamp : Int) : State :=
  let b := p / 32
  if !s.evtOn b then s
  else
    let x := s.bank b
    let r := packet (s.eventWords p kind (s.pinLevel p) x.seq stamp)
    let s := s.setBank b { x with seq := x.seq + 1 }
    if 16 ≤ x.buffer.length then (s.inc (Addr.bankEvtLostCount b)).event (Addr.bankEvents b) 0
    else
      let s := s.setBank b { s.bank b with buffer := x.buffer ++ [r] }
      if x.buffer.isEmpty then s.evtDrain b 1 else s

/-- EVT_RISE or EVT_FALL is set. -/
def State.evtAny (s : State) (p : Nat) : Bool := s.flag (pinCfgAddr p) 11 || s.flag (pinCfgAddr p) 12

/-- BANK_CHAT.COUNT: 0 off, 1 acts as 2. -/
def State.chatCount (s : State) (b : Nat) : Nat :=
  let c := s.field (Addr.bankChat b) 0 8
  if c = 1 then 2 else c

/-- The record of an accepted edge of its own direction (R137, R144). -/
def State.edgeRecord (s : State) (p : Nat) (stamp : Int) : State :=
  if s.pinLevel p then (if s.flag (pinCfgAddr p) 11 then s.evtRecord p 1 stamp else s)
  else (if s.flag (pinCfgAddr p) 12 then s.evtRecord p 2 stamp else s)

/-- An edge is accepted: BANK_LEVEL changes, chatter is counted and a record may be produced (R141 to R144). -/
def State.edgeAccept (s : State) (p : Nat) (stamp : Int) : State :=
  let b := p / 32
  let x := s.pin p
  let s := s.setPin p { x with filt := x.raw, edge := none }
  let c := s.chatCount b
  if c = 0 then s.edgeRecord p stamp
  else if x.suppressed then s
  else if x.edges + 1 < c then (s.setPin p { s.pin p with edges := x.edges + 1 }).edgeRecord p stamp
  else
    let s := (s.setPin p { s.pin p with edges := 0, suppressed := true }).event (Addr.bankEvents b) 1
    if s.evtAny p then s.evtRecord p 3 stamp else s

/-- A change of a pin's synchronised level (R141): with FILT 0 it is accepted, else an edge starts or is discarded. -/
def State.pinChange (s : State) (p : Nat) (level : Bool) : State :=
  let x := s.pin p
  if x.raw = level then s
  else
    let stamp := s.time16 - 655360
    let s := s.setPin p { x with raw := level, edge := none }
    if level = x.filt then s
    else if s.field (pinCfgAddr p) 16 16 = 0 then s.edgeAccept p stamp
    else s.setPin p { s.pin p with edge := some stamp }

/-- R141: the new level has held for FILT units. -/
def execPinEdgeAccept (pin : Fin 256) (s : State) : Host.Outcome State Fault Refusal :=
  if !s.start.logicUp then .next s else
  match (s.pin pin.val).edge with
  | none => .next s
  | some stamp => .next (s.edgeAccept pin.val stamp)

/-- R145: buffered records enter the queue as far as it takes words. -/
def execEventRecordDrain (n : Fin 8) (s : State) : Host.Outcome State Fault Refusal :=
  if !s.start.logicUp then .next s else
  .next (s.evtDrain n.val (s.bank n.val).buffer.length)

/-- R143: CHAT_WINDOW passes without COUNT edges. -/
def execChatterWindowExpiry (pin : Fin 256) (s : State) : Host.Outcome State Fault Refusal :=
  if !s.start.logicUp then .next s else
  .next (s.setPin pin.val { s.pin pin.val with edges := 0 })

/-- R143: a suppressed pin has had no accepted edge for CHAT_QUIET. -/
def execChatterRelease (pin : Fin 256) (s : State) : Host.Outcome State Fault Refusal :=
  if !s.start.logicUp then .next s else
  let x := s.pin pin.val
  if x.suppressed then
    let s := s.setPin pin.val { x with suppressed := false, edges := 0 }
    .next (if s.evtAny pin.val then s.evtRecord pin.val 4 s.time16 else s)
  else .next s

/-- R140: the bank supply has been outside its window for 10 µs. -/
def execBankVmismatch (n : Fin 8) (s : State) : Host.Outcome State Fault Refusal :=
  let b := n.val
  if s.start.logicUp && s.enabled (.bank n) then
    let s := (s.setBank b { s.bank b with vok := false, mismatch := true }).event (Addr.bankEvents b) 2
    .next (s.enterTransitAs (.bank n) 3)
  else .next (s.setBank b { s.bank b with vok := false })

/-- R140: the bank supply has been inside its window for 1 ms. -/
def execBankVokRecover (n : Fin 8) (s : State) : Host.Outcome State Fault Refusal :=
  .next (s.setBank n.val { s.bank n.val with vok := true, mismatch := false })

/-- A word of one bit for each pin of a cluster. -/
def clusterWord (f : Nat → Bool) : Word := word ((List.range 32).map fun i => if f i then 2 ^ i else 0).sum

/-- BANK_RAW (R146). -/
def State.rawWord (s : State) (n : Nat) : Word := clusterWord fun i => (s.pin (32 * n + i)).raw

end Sys2Proof.Machine
end

