-- ==== Sys2Proof/Machine/Engine.lean ====
section
/-! DEFINITION. The pin engines (R147 to R164): running one P-profile instruction, its FIFOs, starting and stopping, and
injection. A command is one engine clock: an instruction that takes several, a shift in steps, stays latched between
them. -/

namespace Sys2Proof.Machine

def State.eng (s : State) (e : Nat) : EngineState := Store.get {} s.engines e
def State.setEng (s : State) (e : Nat) (x : EngineState) : State := { s with engines := Store.put {} s.engines e x }

def engUnit (e : Nat) : HubUnit := .engine (fin 63 e)

/-- Depths of the TX and RX FIFOs (R157). -/
def State.txDepth (s : State) (e : Nat) : Nat :=
  match s.field (Addr.engCtrl e) 16 2 with | 1 => 16 | 2 => 0 | _ => 8
def State.rxDepth (s : State) (e : Nat) : Nat :=
  match s.field (Addr.engCtrl e) 16 2 with | 1 => 0 | 2 => 16 | _ => 8

/-- The engine drives cluster pin `p`: its MUX is 2 and its OWNER is this engine (R138, R152). -/
def State.owns (s : State) (e p : Nat) : Bool :=
  s.pinMux (32 * (e / 8) + p % 32) == 2 && s.field (pinCfgAddr (32 * (e / 8) + p % 32)) 3 3 == e % 8

/-- BASE and WIDTH of the pin group (R164). -/
def State.groupBase (s : State) (e : Nat) : Nat := s.field (Addr.engPins e) 0 5
def State.groupWidth (s : State) (e : Nat) : Nat := clamp 1 32 (s.field (Addr.engPins e) 8 6)

/-- The `k` low pins of the group as they read in a word of cluster pins. -/
def State.groupBits (s : State) (e : Nat) (levels : Word) (k : Nat) : Nat :=
  ((List.range k).map fun i => if bit levels ((s.groupBase e + i) % 32) then 2 ^ i else 0).sum

/-- A word of cluster pins with the `k` low pins of the group that the engine owns set from `v` (R152). -/
def State.groupSet (s : State) (e : Nat) (w : Word) (k v : Nat) : Word :=
  (List.range k).foldl (fun w i =>
    let p := (s.groupBase e + i) % 32
    if s.owns e p then setBit w p (v.testBit i) else w) w

/-- A count that its 6-bit field can show; the spec says nothing of larger ones (log entry 3). -/
def shownCount (n : Nat) : Nat := if n < 64 then n else bits (Config.freeWord n) 0 6

/-- FRAME_OUT or FRAME_IN: 0 means 32, 33 to 63 act as 32 (R164). -/
def frameBits (n : Nat) : Nat := if n = 0 then 32 else min 32 n

/-- A stale pull or a discarded word is counted; at STALE_LIMIT of both together PIN_FIFO_STALE is raised (R158). -/
def State.staleTick (s : State) (e counter : Nat) : State :=
  let s := s.inc counter
  let n := (s.eng e).staleRun + 1
  let lim := s.field (Addr.engFifoCtrl e) 0 16
  if lim ≠ 0 ∧ lim ≤ n then
    ((s.setEng e { s.eng e with staleRun := 0 }).event (Addr.engEvents e) 0).raise (engUnit e) .pinFifoStale 0 none
  else s.setEng e { s.eng e with staleRun := n }

/-- SO is loaded from the TX FIFO (R152, R155); `none` when it is empty. -/
def State.loadSo (s : State) (e : Nat) : Option State :=
  let x := s.eng e
  match x.tx with
  | [] => none
  | w :: r => some (s.setEng e { x with so := w, soBits := 0, tx := r, lastTx := w })

/-- A word is pushed to the RX FIFO; `none` when it is full. -/
def State.pushRx (s : State) (e : Nat) (w : Word) : Option State :=
  let x := s.eng e
  if x.rx.length < s.rxDepth e then some (s.setEng e { x with rx := x.rx ++ [w] }) else none

/-- SI is stored: it and its bit count return to 0. -/
def State.storeSi (s : State) (e : Nat) : Option State :=
  (s.pushRx e (s.eng e).si).map fun s => s.setEng e { s.eng e with si := 0, siBits := 0 }

/-- The number of the present PIN tick: two CORE cycles (R145, R163). -/
def State.pinTick (s : State) : Nat := s.now / 2

/-- How an engine clock of an instruction ends. -/
inductive PResult where
  | done (s : State)
  | jump (s : State) (target : Byte)
  | stop (s : State)
  | fault (s : State) (cause : Nat)
  /-- It waits with stall code and progress latched. -/
  | wait (s : State) (l : Latched)
  /-- It goes on at the next engine clock. -/
  | more (s : State) (l : Latched)

/-- The address after `pc` in the program window (R151). -/
def State.nextPc (s : State) (e : Nat) (pc : Byte) : Byte :=
  let base := s.field (Addr.engWindow e) 0 8
  let last := s.field (Addr.engWindow e) 8 8
  if (pc - BitVec.ofNat 8 base).toNat = last then BitVec.ofNat 8 base else pc + 1

/-- The target lies in the program window (R151). -/
def State.inWindow (s : State) (e : Nat) (target : Byte) : Bool :=
  decide ((target - BitVec.ofNat 8 (s.field (Addr.engWindow e) 0 8)).toNat ≤ s.field (Addr.engWindow e) 8 8)

/-- CLK_PIN and its idle level (R154). -/
def State.sclk (s : State) (e : Nat) : Nat × Bool := (s.field (Addr.engSclk e) 0 5, s.flag (Addr.engSclk e) 5)

/-- Clock pin `p` is driven to a level, with its PINDIR bit set, if the engine owns it (R154). -/
def State.clockDrive (s : State) (e p : Nat) (level : Bool) : State :=
  if s.owns e p then
    let x := s.eng e
    s.setEng e { x with level := setBit x.level p level, pindir := setBit x.pindir p true }
  else s

/-- Take `k` bits out of SO (R153). -/
def takeSo (order : Bool) (so : Word) (k : Nat) : Nat × Word :=
  if order then (so.toNat % 2 ^ k, word (so.toNat / 2 ^ k)) else (so.toNat / 2 ^ (32 - k), word (so.toNat * 2 ^ k))

/-- Put `k` bits into SI (R153). -/
def putSi (order : Bool) (si : Word) (k v : Nat) : Word :=
  if order then word (si.toNat / 2 ^ k + v * 2 ^ (32 - k)) else word (si.toNat * 2 ^ k + v)

/-- SHO launches a slice of `k` bits to its destination (R152, R153). -/
def State.shoLaunch (s : State) (e : Nat) (dest : Fin 4) (k : Nat) : State :=
  let x := s.eng e
  let p := takeSo (s.flag (Addr.engCtrl e) 0) x.so k
  let x := { x with so := p.2, soBits := x.soBits + k }
  match dest with
  | 0 => (s.setEng e { x with level := s.groupSet e x.level k p.1 }).emit (.slice e k (word p.1))
  | 1 => s.setEng e { x with a := word p.1 }
  | 2 => s.setEng e { x with b := word p.1 }
  | _ => (s.setEng e { x with pindir := s.groupSet e x.pindir k p.1 }).emit (.slice e k (word p.1))

/-- The next slice of a SHO of `n` bits is launched, SO first loaded if that is due (R155); `none` while the TX FIFO is
empty. -/
def State.shoNext (s : State) (e n : Nat) (dest : Fin 4) (l : Latched) : Option (State × Latched) :=
  let due := s.flag (Addr.engCtrl e) 2 && decide (frameBits (s.field (Addr.engCtrl e) 4 6) ≤ (s.eng e).soBits)
  let k := if dest = 1 ∨ dest = 2 then n - l.done else min (s.groupWidth e) (n - l.done)
  (if due then s.loadSo e else some s).map fun s =>
    (s.shoLaunch e dest k, { l with done := l.done + k, begun := true, stall := 0 })

/-- L of a clocked step: the clock pin leaves its idle level (R154). -/
def State.clockL (s : State) (e : Nat) (l : Latched) : PResult :=
  let c := s.sclk e
  .more (s.clockDrive e c.1 (!c.2)) { l with half := some c }

/-- One engine clock of a SHO of `n` bits (R153 to R155). Clocked with PHASE 0 it launches slice 0 at P and each later one
at T of the step before, or when the TX FIFO lets it; with PHASE 1 at L. -/
def State.shoClock (s : State) (e n : Nat) (dest : Fin 4) (clk : Bool) (l : Latched) : PResult :=
  let launch (s : State) (l : Latched) (next : State → Latched → PResult) : PResult :=
    match s.shoNext e n dest l with
    | none => .wait s { l with stall := 4 }
    | some (s, l) => next s l
  let late := l.phase.getD false
  match l.half with
  | some (p, idle) =>
    let s := s.clockDrive e p idle
    let l := { l with half := none }
    if n ≤ l.done then .done s else if late then .more s l else launch s l .more
  | none =>
    if !clk then launch s l fun s l => if n ≤ l.done then .done s else .more s l
    else if late then launch s l fun s l => s.clockL e l
    else if l.begun && l.stall != 4 then s.clockL e l
    else launch s l .more

/-- SHI takes its next slice of an instruction of `n` bits (R152, R153). -/
def State.shiTake (s : State) (e n : Nat) (src : Fin 4) (l : Latched) : State × Latched :=
  let x := s.eng e
  let k := if src = 0 then min (s.groupWidth e) (n - l.done) else n - l.done
  let v : Nat :=
    match src with
    | 0 => s.groupBits e (s.rawWord (e / 8)) k
    | 1 => x.a.toNat % 2 ^ k
    | 2 => x.b.toNat % 2 ^ k
    | _ => 0
  (s.setEng e { x with si := putSi (s.flag (Addr.engCtrl e) 1) x.si k v, siBits := x.siBits + k },
    { l with done := l.done + k })

/-- The end of a step of SHI: SI is stored if that is due, and the shift ends or goes on (R155). -/
def State.shiEnd (s : State) (e n : Nat) (l : Latched) : PResult :=
  let due := l.storeDue
    || (s.flag (Addr.engCtrl e) 3 && decide (frameBits (s.field (Addr.engCtrl e) 10 6) ≤ (s.eng e).siBits))
  match if due then s.storeSi e else some s with
  | none => .wait s { l with stall := 5, storeDue := true }
  | some s => if n ≤ l.done then .done s else .more s { l with stall := 0, storeDue := false }

/-- One engine clock of a SHI of `n` bits (R153 to R155); clocked, it samples at L with PHASE 0 and at T with PHASE 1. -/
def State.shiClock (s : State) (e n : Nat) (src : Fin 4) (clk : Bool) (l : Latched) : PResult :=
  let late := l.phase.getD false
  if l.stall = 5 then s.shiEnd e n l
  else
    match l.half with
    | some (p, idle) =>
      let r := if late then s.shiTake e n src l else (s, l)
      (r.1.clockDrive e p idle).shiEnd e n { r.2 with half := none }
    | none =>
      if clk then
        let r := if late then (s, l) else s.shiTake e n src l
        r.1.clockL e r.2
      else
        let r := s.shiTake e n src l
        r.1.shiEnd e n r.2

/-- A level of a cluster pin as the engine reads it, without INV (R139). -/
def State.engPin (s : State) (e p : Nat) : Bool := (s.pin (32 * (e / 8) + p % 32)).raw

/-- The flag of a cluster event. -/
def State.clusterEvent (s : State) (n ev : Nat) : Bool := bit (s.bank n).events ev
def State.setClusterEvent (s : State) (n ev : Nat) (b : Bool) : State :=
  s.setBank n { s.bank n with events := setBit (s.bank n).events ev b }

/-- A WAIT at its own clock: it ends at once if its condition holds (R152, R156). -/
def State.waitStart (s : State) (e : Nat) (kind : Fin 8) (arg : Byte) (l : Latched) : PResult :=
  let hold := PResult.wait s { l with stall := 1 }
  let n := e / 8
  match kind with
  | 0 => if s.engPin e arg.toNat then .done s else hold
  | 1 => if s.engPin e arg.toNat then hold else .done s
  | 3 => if arg = 0 then .done s else hold
  | 4 => if (s.eng e).a = 0 then .done s else hold
  | 5 =>
    if s.clusterEvent n (arg.toNat % 8) then .done (s.setClusterEvent n (arg.toNat % 8) false) else hold
  | _ => hold

/-- The values of a STAMP (R152). -/
def State.stampValues (s : State) (what : Fin 4) : List Word :=
  match what with
  | 0 => [word s.timeNs, word (s.timeNs / 2 ^ 32)]
  | 1 => [word s.timeNs]
  | 2 => [s.angleNow]
  | _ => [s.cycleAt s.time16]

/-- STAMP from its latched values (R152, R158). -/
def State.stampRun (s : State) (e : Nat) (blk : Bool) (l : Latched) : PResult :=
  if blk then
    if (s.eng e).rx.length + l.values.length ≤ s.rxDepth e then
      .done (s.setEng e { s.eng e with rx := (s.eng e).rx ++ l.values })
    else .wait s { l with stall := 3 }
  else
    .done (s.each l.values fun s v =>
      match s.pushRx e v with
      | some s => s
      | none => s.staleTick e (Addr.engDiscardCount e))

/-- STATUS as a source of MOV (R152). -/
def State.movStatus (s : State) (e : Nat) : Word := word ((s.eng e).tx.length + (s.eng e).rx.length * 2 ^ 8)

/-- The source of MOV (R152). -/
def State.movSource (s : State) (e : Nat) (src : Fin 8) : Word :=
  let x := s.eng e
  match src with
  | 0 => word (s.groupBits e (s.rawWord (e / 8)) (s.groupWidth e))
  | 1 => x.a
  | 2 => x.b
  | 3 => x.so
  | 4 => x.si
  | 6 => s.movStatus e
  | _ => 0

/-- The 32 bits of a word in reverse order. -/
def reverseBits (w : Word) : Word := word ((List.range 32).map fun i => if bit w i then 2 ^ (31 - i) else 0).sum

/-- The 4 bytes of a word in reverse order. -/
def reverseBytes (w : Word) : Word := word (beNat (leBytes 4 w.toNat))

/-- OP of MOV (R152). -/
def movOp (op : Fin 4) (w : Word) : Word :=
  match op with
  | 0 => w
  | 1 => ~~~w
  | 2 => reverseBits w
  | _ => reverseBytes w

/-- MOV (R152). -/
def State.movRun (s : State) (e : Nat) (dest src : Fin 8) (op : Fin 4) : PResult :=
  let v := movOp op (s.movSource e src)
  let x := s.eng e
  match dest with
  | 0 => .done (s.setEng e { x with level := s.groupSet e x.level (s.groupWidth e) v.toNat })
  | 1 => .done (s.setEng e { x with a := v })
  | 2 => .done (s.setEng e { x with b := v })
  | 3 => .done (s.setEng e { x with so := v, soBits := 0 })
  | 4 => .done (s.setEng e { x with si := v, siBits := 0 })
  | 5 => .jump s (BitVec.ofNat 8 v.toNat)
  | _ => .done (s.setEng e { x with pindir := s.groupSet e x.pindir (s.groupWidth e) v.toNat })

/-- SETP (R152). -/
def State.setpRun (s : State) (e : Nat) (dest : Fin 4) (v : Byte) : State :=
  let x := s.eng e
  let k := min 8 (s.groupWidth e)
  match dest with
  | 0 => s.setEng e { x with level := s.groupSet e x.level k v.toNat }
  | 1 => s.setEng e { x with pindir := s.groupSet e x.pindir k v.toNat }
  | 2 => s.setEng e { x with a := word v.toNat }
  | _ => s.setEng e { x with b := word v.toNat }

/-- CLKSET (R152, R154). -/
def State.clksetRun (s : State) (e : Nat) (level : Bool) : State := s.clockDrive e (s.sclk e).1 level

/-- A cluster event is set, and the PIN tick of it noted. -/
def State.raiseEvent (s : State) (n ev : Nat) : State :=
  let s := s.setClusterEvent n ev true
  let x := s.bank n
  s.setBank n { x with eventTicks := (ev, s.pinTick) :: x.eventTicks.filter fun y => y.1 != ev }

/-- A cluster event is cleared by EVT; one that is set on the same PIN tick stays set (R163). -/
def State.clearEvent (s : State) (n ev : Nat) : State :=
  if (s.bank n).eventTicks.contains (ev, s.pinTick) then s else s.setClusterEvent n ev false

/-- EVT (R152). -/
def State.evtRun (s : State) (e : Nat) (op : Fin 4) (ev : Fin 8) (l : Latched) : PResult :=
  let n := e / 8
  match op with
  | 0 => .done (s.raiseEvent n ev.val)
  | 1 => .wait (s.raiseEvent n ev.val) { l with stall := 1 }
  | 2 => .done (s.clearEvent n ev.val)
  | _ =>
    let had := (List.range 8).any fun k => s.flag (Addr.engEvents (e / 8 * 8 + k)) 4
    let s := s.event (Addr.engEvents e) 4
    .done (if had then s else s.irq (16 + e / 8))

/-- The condition of a JMP (R152). -/
def State.jmpCond (s : State) (e : Nat) (cond : Fin 8) : Bool :=
  let x := s.eng e
  match cond with
  | 0 => true
  | 1 => x.a == 0
  | 2 => x.a != 0
  | 3 => x.a == x.b
  | 4 => s.engPin e (s.field (Addr.engCtrl e) 19 5)
  | 5 => !s.engPin e (s.field (Addr.engCtrl e) 19 5)
  | 6 => x.tx.isEmpty
  | _ => decide (s.rxDepth e ≤ x.rx.length)

/-- ADDI (R152). -/
def State.paddiRun (s : State) (e : Nat) (toB : Bool) (v : BitVec 10) : State :=
  let x := s.eng e
  if toB then s.setEng e { x with b := x.b + v.signExtend 32 } else s.setEng e { x with a := x.a + v.signExtend 32 }

/-- FETCH (R152, R158). -/
def State.fetchRun (s : State) (e : Nat) (blk : Bool) (l : Latched) : PResult :=
  match s.loadSo e with
  | some s => .done s
  | none =>
    if blk then .wait s { l with stall := 2 }
    else .done ((s.setEng e { s.eng e with so := (s.eng e).lastTx, soBits := 0 }).staleTick e (Addr.engStaleCount e))

/-- STORE (R152, R158). -/
def State.storeRun (s : State) (e : Nat) (blk : Bool) (l : Latched) : PResult :=
  match s.storeSi e with
  | some s => .done s
  | none =>
    if blk then .wait s { l with stall := 3 }
    else .done ((s.setEng e { s.eng e with si := 0, siBits := 0 }).staleTick e (Addr.engDiscardCount e))

/-- The latched progress of a shift with the PHASE it began with (R154). -/
def State.withPhase (s : State) (e : Nat) (l : Latched) : Latched :=
  { l with phase := some (l.phase.getD (s.flag (Addr.engSclk e) 6)) }

/-- One engine clock of an instruction from its latched progress, empty at its first clock (R152). -/
def State.pRun (s : State) (e : Nat) (i : PInstr) (l : Latched) : PResult :=
  match i with
  | .nop => .done s
  | .stop => .stop s
  | .sho n d clk => s.shoClock e (n.val + 1) d clk (s.withPhase e l)
  | .shi n d clk => s.shiClock e (n.val + 1) d clk (s.withPhase e l)
  | .fetch blk => s.fetchRun e blk l
  | .store blk => s.storeRun e blk l
  | .wait k a => s.waitStart e k a l
  | .jmp c t => if s.jmpCond e c then .jump s t else .done s
  | .addi b v => .done (s.paddiRun e b v)
  | .mov d r o => s.movRun e d r o
  | .setp d v => .done (s.setpRun e d v)
  | .clkset v => .done (s.clksetRun e v)
  | .evt o ev => s.evtRun e o ev l
  | .stamp k blk => s.stampRun e blk (if l.values.isEmpty then { l with values := s.stampValues k } else l)

/-- The engine enters FAULTED (R151). -/
def State.engFault (s : State) (e cause : Nat) : State :=
  ((s.setEng e { s.eng e with sync := .faulted, cause := cause, cur := none }).event (Addr.engEvents e) 3).raise
    (engUnit e) .engineFault cause none

/-- An injected instruction has ended, so its slot is free (R160). -/
def State.slotDone (s : State) (e : Nat) (l : Latched) : State :=
  if l.injected then s.setEng e { s.eng e with slot := none, under := none } else s

/-- A pending injection is discarded (R147). -/
def State.dropSlot (s : State) (e : Nat) : State :=
  match (s.eng e).slot with
  | none => s
  | some _ => (s.setEng e { s.eng e with slot := none }).event (Addr.engEvents e) 5

/-- The current instruction is an injected one that has not ended (R160). -/
def EngineState.injecting (x : EngineState) : Bool :=
  match x.cur with
  | some l => l.injected
  | none => false

/-- The engine stops at its next clock: what it has latched stays, an injected instruction that stalls with it (R147,
R160, R161). -/
def State.engStopNow (s : State) (e : Nat) : State :=
  let x := { s.eng e with stopTick := some s.pinTick }
  if x.sync == .running || x.sync == .stalled then
    (s.setEng e { x with sync := .stopped }).when (!x.injecting) fun s => s.dropSlot e
  else s.setEng e x

/-- An instruction ends: PC moves for one that was fetched, and an interrupted one becomes current again (R160). -/
def State.engDone (s : State) (e : Nat) (l : Latched) : State :=
  let x := s.eng e
  if l.injected then
    match x.under with
    | some u =>
      s.setEng e { x with cur := some u, under := none, slot := none, sync := if u.stall = 0 then .running else .stalled }
    | none => s.setEng e { x with cur := none, slot := none, sync := .running }
  else s.setEng e { x with cur := none, sync := .running, pc := s.nextPc e x.pc }

/-- A jump is taken: an interrupted instruction is dropped (R151, R160). -/
def State.engJump (s : State) (e : Nat) (l : Latched) (target : Byte) : State :=
  if s.inWindow e target then
    let x := s.eng e
    s.setEng e { x with cur := none, under := none, sync := .running, pc := target,
                        slot := if l.injected then none else x.slot }
  else (s.slotDone e l).engFault e 2

/-- STOP (R152, R160). -/
def State.engStop (s : State) (e : Nat) (l : Latched) : State :=
  let x := s.eng e
  if l.injected then s.setEng e { x with cur := x.under, under := none, slot := none, sync := .stopped }
  else (s.setEng e { x with cur := none, sync := .stopped, pc := s.nextPc e x.pc }).dropSlot e

/-- Take the result of an instruction. -/
def State.pEnd (e : Nat) (l : Latched) : PResult → State
  | .done s => s.engDone e l
  | .jump s t => s.engJump e l t
  | .stop s => s.engStop e l
  | .fault s c => (s.slotDone e l).engFault e c
  | .wait s l => s.setEng e { s.eng e with cur := some l, sync := .stalled }
  | .more s l => s.setEng e { s.eng e with cur := some l, sync := .running }

/-- An engine clock of a word that is not yet latched, or of a latched one. -/
def State.pStep (s : State) (e : Nat) (l : Latched) : State :=
  match decodeP l.word with
  | none => (s.slotDone e l).engFault e 1
  | some i => State.pEnd e l (s.pRun e i l)

/-- The word at the engine's PC; one that is written on the PIN tick of the fetch is still the old one (R162). -/
def State.pWord (s : State) (e : Nat) : Half :=
  let pc := (s.eng e).pc.toNat
  match (s.bank (e / 8)).progOld.find? fun x => x.1 == pc && x.2.1 == s.pinTick with
  | some x => x.2.2
  | none => BitVec.ofNat 16 (s.field (Addr.prog (e / 8) pc) 0 16)

/-- The next engine clock is that of the injected instruction: a PIN tick has passed since its slot was written, no earlier
one runs, and no clocked step stands between its clocks (R160). -/
def State.slotDue (s : State) (e : Nat) : Bool :=
  let x := s.eng e
  x.slot.isSome && !x.injecting && decide (x.slotAt + 2 ≤ s.now)
    && !(match x.cur with | some l => l.half.isSome | none => false)

/-- An engine clock of a RUNNING engine whose present or next instruction is of the kind that `want` admits, or illegal; the
clock of an injected instruction is another command's. -/
def State.pClock (s : State) (e : Nat) (want : PInstr → Bool) : State :=
  let x := s.eng e
  if s.start.logicUp && x.sync == .running && !s.slotDue e then
    let l := x.cur.getD { word := s.pWord e }
    match decodeP l.word with
    | none => s.pStep e l
    | some i => if want i then s.pStep e l else s
  else s

/-- The WAIT or EVT OP 1 that engine `e` is stalled on. -/
def State.waitingOn (s : State) (e : Nat) : Option PInstr :=
  match (s.eng e).sync, (s.eng e).cur with
  | .stalled, some l => if l.stall = 1 then decodeP l.word else none
  | _, _ => none

/-- A field pin's synchronised level rises: every engine that waits for the edge has seen it (R156). -/
def State.noteRise (s : State) (pin : Nat) : State :=
  s.each (List.range 8) fun s k =>
    let e := 8 * (pin / 32) + k
    match s.waitingOn e, (s.eng e).cur with
    | some (.wait 2 arg), some l =>
      if arg.toNat % 32 = pin % 32 then s.setEng e { s.eng e with cur := some { l with edge := true } } else s
    | _, _ => s

/-- The synchronised level of field pin `p` changes (R141, R156); while the logic die is down nothing but the level of the
ball is kept, and a retained region's filtered level (R399). -/
def State.pinInput (s : State) (p : Nat) (level : Bool) : State :=
  let x := s.pin p
  if s.start.logicUp then (s.pinChange p level).when (level && !x.raw) fun s => s.noteRise p
  else s.setPin p { x with raw := level, filt := if s.start.retained.testBit (p / 64) then x.filt else level }

/-- Levels of pins of cluster `n` change ahead of an engine clock. -/
def State.pinInputs (s : State) (n : Nat) (l : List (Fin 32 × Bool)) : State :=
  s.each l fun s x => s.pinInput (32 * n + x.1.val) x.2

/-- R152: NOP. -/
def execPNop (e : Fin 64) (s : State) : Host.Outcome State Fault Refusal :=
  .next (s.pClock e.val (fun | .nop => true | _ => false))

/-- R152: STOP. -/
def execPStop (e : Fin 64) (s : State) : Host.Outcome State Fault Refusal :=
  .next (s.pClock e.val (fun | .stop => true | _ => false))

/-- R153: SHO. -/
def execPSho (e : Fin 64) (s : State) : Host.Outcome State Fault Refusal :=
  .next (s.pClock e.val (fun | .sho _ _ _ => true | _ => false))

/-- R153: SHI. -/
def execPShi (e : Fin 64) (levels : List (Fin 32 × Bool)) (s : State) : Host.Outcome State Fault Refusal :=
  if !s.start.logicUp then .next s else
  .next ((s.pinInputs (e.val / 8) levels).pClock e.val (fun | .shi _ _ _ => true | _ => false))

/-- R158: FETCH. -/
def execPFetch (e : Fin 64) (s : State) : Host.Outcome State Fault Refusal :=
  .next (s.pClock e.val (fun | .fetch _ => true | _ => false))

/-- R158: STORE. -/
def execPStore (e : Fin 64) (s : State) : Host.Outcome State Fault Refusal :=
  .next (s.pClock e.val (fun | .store _ => true | _ => false))

/-- R156: WAIT. -/
def execPWait (e : Fin 64) (s : State) : Host.Outcome State Fault Refusal :=
  .next (s.pClock e.val (fun | .wait _ _ => true | _ => false))

/-- R152: JMP. -/
def execPJmp (e : Fin 64) (s : State) : Host.Outcome State Fault Refusal :=
  .next (s.pClock e.val (fun | .jmp _ _ => true | _ => false))

/-- R152: ADDI. -/
def execPAddi (e : Fin 64) (s : State) : Host.Outcome State Fault Refusal :=
  .next (s.pClock e.val (fun | .addi _ _ => true | _ => false))

/-- R152: MOV. -/
def execPMov (e : Fin 64) (s : State) : Host.Outcome State Fault Refusal :=
  .next (s.pClock e.val (fun | .mov _ _ _ => true | _ => false))

/-- R152: SETP. -/
def execPSetp (e : Fin 64) (s : State) : Host.Outcome State Fault Refusal :=
  .next (s.pClock e.val (fun | .setp _ _ => true | _ => false))

/-- R152: CLKSET. -/
def execPClkset (e : Fin 64) (s : State) : Host.Outcome State Fault Refusal :=
  .next (s.pClock e.val (fun | .clkset _ => true | _ => false))

/-- R152: EVT. -/
def execPEvt (e : Fin 64) (s : State) : Host.Outcome State Fault Refusal :=
  .next (s.pClock e.val (fun | .evt _ _ => true | _ => false))

/-- R152: STAMP. -/
def execPStamp (e : Fin 64) (s : State) : Host.Outcome State Fault Refusal :=
  .next (s.pClock e.val (fun | .stamp _ _ => true | _ => false))

/-- Engine `e` waits on cluster event `ev` of its cluster. -/
def State.waitsEvent (s : State) (e ev : Nat) : Bool :=
  match s.waitingOn e with
  | some (.wait 5 arg) => arg.toNat % 8 == ev
  | _ => false

/-- The stalled instruction of engine `e` is over. -/
def State.engResume (s : State) (e : Nat) : State :=
  match (s.eng e).cur with
  | some l => s.engDone e l
  | none => s

/-- R156, R163: the condition of a WAIT or EVT OP 1 is met; every engine that waits on a cluster event that is set
continues, and the event is cleared once. -/
def execEngineWaitResume (e : Fin 64) (s : State) : Host.Outcome State Fault Refusal :=
  if !s.start.logicUp then .next s else
  let n := e.val / 8
  match s.waitingOn e.val with
  | some (.wait 0 arg) => .next (if s.engPin e.val arg.toNat then s.engResume e.val else s)
  | some (.wait 1 arg) => .next (if s.engPin e.val arg.toNat then s else s.engResume e.val)
  | some (.wait 5 arg) =>
    let ev := arg.toNat % 8
    if s.clusterEvent n ev then
      let es := (List.range 8).filter fun k => s.waitsEvent (8 * n + k) ev
      .next ((s.each es fun s k => s.engResume (8 * n + k)).setClusterEvent n ev false)
    else .next s
  | some (.wait 6 _) => .next s
  | some (.wait 2 _) =>
    .next (match (s.eng e.val).cur with
      | some l => if l.edge then s.engResume e.val else s
      | none => s)
  | some (.wait _ _) => .next (s.engResume e.val)
  | some (.evt 1 ev) => .next (if s.clusterEvent n ev.val then s else s.engResume e.val)
  | _ => .next s

/-- R141: a pin's synchronised level changes. -/
def execPinInputChange (pin : Fin 256) (level : Bool) (s : State) : Host.Outcome State Fault Refusal :=
  .next (s.pinInput pin.val level)

/-- An Ephemeris signal is asserted: every engine that waits on it continues (R156). -/
def State.assertEs (s : State) (es : Nat) : State :=
  s.each (List.range 64) fun s e =>
    match s.waitingOn e with
    | some (.wait 6 arg) => if arg.toNat % 32 = es then s.engResume e else s
    | _ => s

/-- R155: the FIFO that stalls an engine allows its next step. -/
def execEngineStallResume (e : Fin 64) (levels : List (Fin 32 × Bool)) (s : State) : Host.Outcome State Fault Refusal :=
  if !s.start.logicUp then .next s else
  let s := s.pinInputs (e.val / 8) levels
  match (s.eng e.val).sync, (s.eng e.val).cur with
  | .stalled, some l => .next (if l.stall = 1 then s else s.pStep e.val l)
  | _, _ => .next s

/-- Start engine `e` (R147); a stop of the same PIN tick wins (R163). -/
def State.engStart (s : State) (e : Nat) : State :=
  let x := s.eng e
  if !s.enabled (engUnit e) || x.stopTick == some s.pinTick then s
  else
    match x.sync with
    | .stopped =>
      s.setEng e { x with sync := match x.cur with | some l => (if l.stall = 0 then .running else .stalled) | none => .running }
    | .faulted => s.setEng e { x with sync := .running, cause := 0, cur := none, under := none }
    | _ => s

/-- A write to ENG_INJECT, or an Ephemeris ENGINE_INJECT: whether the slot took it, and the state (R160, R161). -/
def State.engInject (s : State) (e : Nat) (w : Half) : Bool × State :=
  let x := s.eng e
  let free := x.slot.isNone && (x.sync == .running || x.sync == .stalled)
  if free then (true, s.setEng e { x with slot := some w, slotAt := s.now }) else (false, s.event (Addr.engEvents e) 5)

/-- R160: the injected instruction runs in place of a fetch, at least one PIN tick after its slot was written. -/
def execInjectedInstructionExecute (e : Fin 64) (levels : List (Fin 32 × Bool)) (s : State) :
    Host.Outcome State Fault Refusal :=
  if !s.start.logicUp then .next s else
  let s := s.pinInputs (e.val / 8) levels
  let x := s.eng e.val
  if (x.sync == .running || x.sync == .stalled) && s.slotDue e.val then
    match x.slot with
    | none => .next s
    | some w =>
      let s := s.setEng e.val { x with under := x.cur, cur := none }
      .next (s.pStep e.val { word := w, injected := true })
  else .next s

/-- A write to ENG_TXF (R159). -/
def State.engTxfWrite (s : State) (e : Nat) (v : Word) : State :=
  let x := s.eng e
  if s.flag (Addr.engQbind e) 6 || decide (s.txDepth e ≤ x.tx.length) then s.event (Addr.engEvents e) 2
  else s.setEng e { x with tx := x.tx ++ [v] }

/-- A read of ENG_RXF (R159). -/
def State.engRxfRead (s : State) (e : Nat) : Word × State :=
  let x := s.eng e
  if s.flag (Addr.engQbind e) 14 then (0, s)
  else
    match x.rx with
    | [] => (0, s.event (Addr.engEvents e) 1)
    | w :: r => (w, s.setEng e { x with rx := r })

/-- R159: a word of queue TXQ is taken into the TX FIFO; one marked ABORT is not loaded. -/
def execEngTxqFill (e : Fin 64) (s : State) : Host.Outcome State Fault Refusal :=
  if !s.start.logicUp then .next s else
  let x := s.eng e.val
  if s.flag (Addr.engQbind e.val) 6 && decide (x.tx.length < s.txDepth e.val) then
    match s.qTakeAs (s.field (Addr.engQbind e.val) 0 6) (sourceId (.engine e)) with
    | none => .next s
    | some (w, s) => .next (if w.mark = .abort then s else s.setEng e.val { x with tx := x.tx ++ [w.v] })
  else .next s

/-- R159: a word leaves the RX FIFO into queue RXQ, with END after every PKT_WORDS words. -/
def execEngRxqDrain (e : Fin 64) (s : State) : Host.Outcome State Fault Refusal :=
  if !s.start.logicUp then .next s else
  let x := s.eng e.val
  if s.flag (Addr.engQbind e.val) 14 then
    match x.rx with
    | [] => .next s
    | w :: r =>
      let n := s.field (Addr.engQbind e.val) 16 8
      let last := decide ((if n = 0 then 256 else n) ≤ x.pktWords + 1)
      match s.qOffer (s.field (Addr.engQbind e.val) 8 6) (sourceId (.engine e)) w (if last then .last else .data) with
      | (true, s) => .next (s.setEng e.val { x with rx := r, pktWords := if last then 0 else x.pktWords + 1 })
      | (false, s) => .next s
  else .next s

/-- The engine is STOPPED or FAULTED, so its registers of R148 can be written. -/
def State.engIdle (s : State) (e : Nat) : Bool := (s.eng e).sync == .stopped || (s.eng e).sync == .faulted

/-- A write into an ENGINE block other than UNIT_CTRL. -/
def State.engineWrite (s : State) (e a : Nat) (v : Word) : State :=
  let x := s.eng e
  let held (y : EngineState) : State := if s.engIdle e then s.setEng e y else s
  if a = Addr.engEvents e then s.sqWrite a v
  else if a = Addr.engPc e then held { x with pc := BitVec.ofNat 8 v.toNat, cur := none, under := none, slot := if x.injecting then none else x.slot }
  else if a = Addr.engA e then held { x with a := v }
  else if a = Addr.engB e then held { x with b := v }
  else if a = Addr.engSo e then held { x with so := v, soBits := 0 }
  else if a = Addr.engSi e then held { x with si := v, siBits := 0 }
  else if a = Addr.engPindir e then held { x with pindir := v }
  else if a = Addr.engInject e then (s.engInject e (BitVec.ofNat 16 v.toNat)).2
  else if a = Addr.engTxf e then s.engTxfWrite e v
  else if a = Addr.engCtrl e then
    let s := if bits v 16 2 = s.field a 16 2 then s else s.setEng e { x with tx := [], rx := [] }
    s.plainWrite a v
  else s.plainWrite a v

/-- ENG_STATUS (R164). -/
def State.engStatusWord (s : State) (e : Nat) : Word :=
  let x := s.eng e
  let st : Nat := match x.sync with | .stopped => 0 | .running => 1 | .stalled => 2 | .faulted => 3
  let stall : Nat := match x.sync, x.cur with | .stalled, some l => l.stall | _, _ => 0
  word (x.pc.toNat + st * 2 ^ 8 + stall * 2 ^ 12 + x.cause * 2 ^ 16 + x.tx.length * 2 ^ 20 + x.rx.length * 2 ^ 25)

/-- What a read of an ENGINE word shows instead of the stored word. -/
def State.engineView (s : State) (e a : Nat) : Option Word :=
  let x := s.eng e
  if a = Addr.engStatus e then some (s.engStatusWord e)
  else if a = Addr.engShift e then
    some (word (shownCount x.soBits + shownCount x.siBits * 2 ^ 8
      + (match x.cur with | some l => l.done | none => 0) * 2 ^ 16))
  else if a = Addr.engPc e then some (word x.pc.toNat)
  else if a = Addr.engA e then some x.a
  else if a = Addr.engB e then some x.b
  else if a = Addr.engSo e then some x.so
  else if a = Addr.engSi e then some x.si
  else if a = Addr.engPindir e then some x.pindir
  else none

/-- A write of a program word; the word it replaces is noted for a fetch on the same PIN tick (R162). -/
def State.progWrite (s : State) (n a : Nat) (v : Word) : State :=
  let i := (a - Addr.prog n 0) / 4
  let x := s.bank n
  let now := x.progOld.filter fun y => y.2.1 == s.pinTick
  let old := if now.any fun y => y.1 == i then now else (i, s.pinTick, BitVec.ofNat 16 (s.field a 0 16)) :: now
  (s.setBank n { x with progOld := old }).plainWrite a v

/-- A write into a BANK block other than UNIT_CTRL. -/
def State.bankWrite (s : State) (n a : Nat) (v : Word) : State :=
  if a = Addr.bankEvents n then s.sqWrite a v
  else if a = Addr.bankEngStart n then
    s.each (onesOf 8 v.toNat) fun s k => s.engStart (8 * n + k)
  else if a = Addr.bankEngStop n then
    s.each (onesOf 8 v.toNat) fun s k => s.engStopNow (8 * n + k)
  else if Addr.prog n 0 ≤ a then s.progWrite n a v
  else s.plainWrite a v

/-- What a read of a BANK word shows instead of the stored word. -/
def State.bankView (s : State) (n a : Nat) : Option Word :=
  if a = Addr.bankStatus n then
    let run := ((List.range 8).map fun k =>
      let y := (s.eng (8 * n + k)).sync
      if y == .running || y == .stalled then 2 ^ k else 0).sum
    some (word (run * 2 ^ 8 + ofBool (s.bank n).mismatch * 2 + ofBool (s.bank n).vok))
  else if a = Addr.bankLevel n then some (clusterWord fun i => s.pinLevel (32 * n + i))
  else if a = Addr.bankRaw n then some (s.rawWord n)
  else if a = Addr.bankEngEvent n then some (word (s.bank n).events.toNat)
  else none

end Sys2Proof.Machine
end

