-- ==== Sys2Proof/Machine/SCode.lean ====
section
/-! DEFINITION. The S-profile instructions of the service cores: their formats, decoding and encoding (R312 to R318). -/

namespace Sys2Proof.Machine

/-- A general register number (R307). -/
abbrev Reg := BitVec 5

/-- The ALU group's operations (R314). -/
inductive AluOp where
  | add | sub | and | or | xor | sll | srl | sra | clt | cltu | mul | mulhs | mulhu | div | divu | rem | remu
  | clz | popc | bswap | slli | srli | srai
  deriving DecidableEq, Repr

/-- The operations on an immediate (R313). -/
inductive ImmOp where
  | addi | andi | ori | xori | clti | cltiu
  deriving DecidableEq, Repr

/-- The loads (R313). -/
inductive LoadOp where
  | word | half | halfU | byte | byteU
  deriving DecidableEq, Repr

/-- The stores (R313). -/
inductive StoreOp where
  | word | half | byte
  deriving DecidableEq, Repr

/-- The branch conditions (R313). -/
inductive Cond where
  | eq | ne | lt | ge | ltu | geu
  deriving DecidableEq, Repr

/-- The CRC helpers (R320). -/
inductive CrcOp where
  | c32b | c32h | c32w | c16b
  deriving DecidableEq, Repr

/-- A queue operand (R312): QREG, rq and the QUEUE field. -/
structure QSel where
  byReg : Bool
  rq : Reg
  q : BitVec 6
  deriving DecidableEq, Repr

/-- An S-profile instruction with its fields (R312 to R318). -/
inductive SInstr where
  | alu (op : AluOp) (rd ra rb : Reg)
  | imm (op : ImmOp) (rd ra : Reg) (v : Half)
  | ldhi (rd : Reg) (v : Half)
  | load (op : LoadOp) (rd ra : Reg) (v : Half)
  | store (op : StoreOp) (rs ra : Reg) (v : Half)
  | branch (c : Cond) (ra rb : Reg) (off : Half)
  | jmp (off : BitVec 26)
  | call (off : BitVec 26)
  | jr (ra : Reg) (v : Half)
  | callr (ra : Reg) (v : Half)
  | ret
  | ldf (rd ra : Reg)
  | stf (rs ra : Reg)
  | stfp (rs ra : Reg)
  | fenceL
  | fenceF (rd : Reg)
  | stamp (rd : Reg) (what : Fin 4)
  | lookup (rd ra : Reg) (ktype : Fin 3)
  | crc (op : CrcOp) (rd ra rb : Reg)
  | send (rs rr : Reg) (q : QSel) (nb : Bool) (mark : Fin 3)
  | recv (rd rm : Reg) (q : QSel) (nb : Bool)
  | droppkt (q : QSel)
  | gets (rd : Reg) (sr : Fin 18)
  | puts (sr : Fin 18) (ra : Reg)
  | rtt
  | wfe
  | brk
  deriving DecidableEq, Repr

/-- FN of an ALU operation (R314). -/
def aluFn : AluOp → Nat
  | .add => 0x000 | .sub => 0x001 | .and => 0x002 | .or => 0x003 | .xor => 0x004 | .sll => 0x005 | .srl => 0x006
  | .sra => 0x007 | .clt => 0x008 | .cltu => 0x009 | .mul => 0x00A | .mulhs => 0x00B | .mulhu => 0x00C | .div => 0x00D
  | .divu => 0x00E | .rem => 0x00F | .remu => 0x010 | .clz => 0x018 | .popc => 0x019 | .bswap => 0x01A | .slli => 0x020
  | .srli => 0x021 | .srai => 0x022

/-- The ALU operation of an FN. -/
def aluOfFn : Nat → Option AluOp
  | 0x000 => some .add | 0x001 => some .sub | 0x002 => some .and | 0x003 => some .or | 0x004 => some .xor
  | 0x005 => some .sll | 0x006 => some .srl | 0x007 => some .sra | 0x008 => some .clt | 0x009 => some .cltu
  | 0x00A => some .mul | 0x00B => some .mulhs | 0x00C => some .mulhu | 0x00D => some .div | 0x00E => some .divu
  | 0x00F => some .rem | 0x010 => some .remu | 0x018 => some .clz | 0x019 => some .popc | 0x01A => some .bswap
  | 0x020 => some .slli | 0x021 => some .srli | 0x022 => some .srai | _ => none

/-- The operation uses no rb, which must then be 0 (R314). -/
def aluUnary : AluOp → Bool
  | .clz | .popc | .bswap => true
  | _ => false

/-- Special registers that no PUTS may name (R318, R322). -/
def sregReadOnly (n : Nat) : Bool := n == 2 || n == 3 || n == 4 || n == 8 || n == 9 || n == 13 || n == 16

/-- What decoding guarantees of an instruction (R312, R314, R316, R318). -/
def SInstr.wf : SInstr → Bool
  | .alu op _ _ rb => !aluUnary op || rb == 0
  | .ldf _ ra => ra.toNat % 2 == 0
  | .stf _ ra => ra.toNat % 2 == 0
  | .stfp _ ra => ra.toNat % 2 == 0
  | .stamp rd what => what != 0 || rd.toNat % 2 == 0
  | .lookup _ ra _ => ra.toNat % 2 == 0
  | .puts sr _ => !sregReadOnly sr.val
  | _ => true

/-- Fields of a word (R312). -/
def fRd (w : Word) : Reg := BitVec.ofNat 5 (w.toNat / 2 ^ 6)
def fRa (w : Word) : Reg := BitVec.ofNat 5 (w.toNat / 2 ^ 11)
def fRb (w : Word) : Reg := BitVec.ofNat 5 (w.toNat / 2 ^ 16)
def fFn (w : Word) : Nat := w.toNat / 2 ^ 21 % 2 ^ 11
def fImm (w : Word) : Half := BitVec.ofNat 16 (w.toNat / 2 ^ 16)
def fOff (w : Word) : BitVec 26 := BitVec.ofNat 26 (w.toNat / 2 ^ 6)
def fQ (w : Word) : QSel := ⟨bit w 30, BitVec.ofNat 5 (w.toNat / 2 ^ 25), BitVec.ofNat 6 (w.toNat / 2 ^ 16)⟩

/-- An ALU instruction. -/
def decodeAlu (w : Word) : Option SInstr :=
  match aluOfFn (fFn w) with
  | none => none
  | some op => some (.alu op (fRd w) (fRa w) (fRb w))

/-- The fabric group (R316). -/
def decodeFabric (w : Word) : Option SInstr :=
  match fFn w with
  | 0x001 => some (.ldf (fRd w) (fRa w))
  | 0x002 => some (.stf (fRd w) (fRa w))
  | 0x003 => some (.stfp (fRd w) (fRa w))
  | 0x008 => some .fenceL
  | 0x009 => some (.fenceF (fRd w))
  | 0x010 => if h : (fRb w).toNat < 4 then some (.stamp (fRd w) ⟨(fRb w).toNat, h⟩) else none
  | 0x018 => if h : (fRb w).toNat < 3 then some (.lookup (fRd w) (fRa w) ⟨(fRb w).toNat, h⟩) else none
  | 0x020 => some (.crc .c32b (fRd w) (fRa w) (fRb w))
  | 0x021 => some (.crc .c32h (fRd w) (fRa w) (fRb w))
  | 0x022 => some (.crc .c32w (fRd w) (fRa w) (fRb w))
  | 0x024 => some (.crc .c16b (fRd w) (fRa w) (fRb w))
  | _ => none

/-- The system group (R318). -/
def decodeSystem (w : Word) : Option SInstr :=
  match fFn w with
  | 0x000 => if h : (fRb w).toNat < 18 then some (.gets (fRd w) ⟨(fRb w).toNat, h⟩) else none
  | 0x001 => if h : (fRb w).toNat < 18 then some (.puts ⟨(fRb w).toNat, h⟩ (fRa w)) else none
  | 0x002 => some .rtt
  | 0x003 => some .wfe
  | 0x004 => some .brk
  | _ => none

/-- SEND (R317): MARK 3 is ILLEGAL. -/
def decodeSend (w : Word) : Option SInstr :=
  if h : bits w 22 2 < 3 then
    if bit w 31 then none else some (.send (fRd w) (fRa w) (fQ w) (bit w 24) ⟨bits w 22 2, h⟩)
  else none

/-- The instruction that OP selects, before the checks of `SInstr.wf` (R313). The ALU group's OP is 0x01 (log entry 5). -/
def decodeRaw (w : Word) : Option SInstr :=
  match w.toNat % 2 ^ 6 with
  | 0x01 => decodeAlu w
  | 0x02 => some (.imm .addi (fRd w) (fRa w) (fImm w))
  | 0x03 => some (.imm .andi (fRd w) (fRa w) (fImm w))
  | 0x04 => some (.imm .ori (fRd w) (fRa w) (fImm w))
  | 0x05 => some (.imm .xori (fRd w) (fRa w) (fImm w))
  | 0x06 => some (.imm .clti (fRd w) (fRa w) (fImm w))
  | 0x07 => some (.imm .cltiu (fRd w) (fRa w) (fImm w))
  | 0x08 => if fRa w = 0 then some (.ldhi (fRd w) (fImm w)) else none
  | 0x10 => some (.load .word (fRd w) (fRa w) (fImm w))
  | 0x11 => some (.load .half (fRd w) (fRa w) (fImm w))
  | 0x12 => some (.load .halfU (fRd w) (fRa w) (fImm w))
  | 0x13 => some (.load .byte (fRd w) (fRa w) (fImm w))
  | 0x14 => some (.load .byteU (fRd w) (fRa w) (fImm w))
  | 0x18 => some (.store .word (fRd w) (fRa w) (fImm w))
  | 0x19 => some (.store .half (fRd w) (fRa w) (fImm w))
  | 0x1A => some (.store .byte (fRd w) (fRa w) (fImm w))
  | 0x20 => some (.branch .eq (fRd w) (fRa w) (fImm w))
  | 0x21 => some (.branch .ne (fRd w) (fRa w) (fImm w))
  | 0x22 => some (.branch .lt (fRd w) (fRa w) (fImm w))
  | 0x23 => some (.branch .ge (fRd w) (fRa w) (fImm w))
  | 0x24 => some (.branch .ltu (fRd w) (fRa w) (fImm w))
  | 0x25 => some (.branch .geu (fRd w) (fRa w) (fImm w))
  | 0x28 => some (.jmp (fOff w))
  | 0x29 => some (.call (fOff w))
  | 0x2A => if fRd w = 0 then some (.jr (fRa w) (fImm w)) else none
  | 0x2B => if fRd w = 0 then some (.callr (fRa w) (fImm w)) else none
  | 0x2C => if w.toNat / 2 ^ 6 = 0 then some .ret else none
  | 0x30 => decodeFabric w
  | 0x31 => decodeSend w
  | 0x32 => if bit w 31 || bits w 23 2 != 0 then none else some (.recv (fRd w) (fRa w) (fQ w) (bit w 22))
  | 0x33 => if bit w 31 || bits w 22 3 != 0 then none else some (.droppkt (fQ w))
  | 0x3F => decodeSystem w
  | _ => none

/-- The instruction of a word; `none` is ILLEGAL (R312). -/
def decodeS (w : Word) : Option SInstr :=
  match decodeRaw w with
  | none => none
  | some i => if i.wf then some i else none

/-- A word of format R (R312). -/
def wordR (op fn rb ra rd : Nat) : Word := word (op + rd * 2 ^ 6 + ra * 2 ^ 11 + rb * 2 ^ 16 + fn * 2 ^ 21)
/-- A word of format I or B. -/
def wordI (op imm ra rd : Nat) : Word := word (op + rd * 2 ^ 6 + ra * 2 ^ 11 + imm * 2 ^ 16)
/-- A word of format Q: `k` holds the bits above QUEUE of the per-instruction field. -/
def wordQ (op : Nat) (q : QSel) (k ra rd : Nat) : Word :=
  word (op + rd * 2 ^ 6 + ra * 2 ^ 11 + q.q.toNat * 2 ^ 16 + k * 2 ^ 22 + q.rq.toNat * 2 ^ 25 + ofBool q.byReg * 2 ^ 30)

/-- OP of the operations on an immediate, the loads, the stores and the branches (R313). -/
def immOp : ImmOp → Nat
  | .addi => 0x02 | .andi => 0x03 | .ori => 0x04 | .xori => 0x05 | .clti => 0x06 | .cltiu => 0x07
def loadOp : LoadOp → Nat
  | .word => 0x10 | .half => 0x11 | .halfU => 0x12 | .byte => 0x13 | .byteU => 0x14
def storeOp : StoreOp → Nat
  | .word => 0x18 | .half => 0x19 | .byte => 0x1A
def condOp : Cond → Nat
  | .eq => 0x20 | .ne => 0x21 | .lt => 0x22 | .ge => 0x23 | .ltu => 0x24 | .geu => 0x25
def crcFn : CrcOp → Nat
  | .c32b => 0x020 | .c32h => 0x021 | .c32w => 0x022 | .c16b => 0x024

/-- The word of an instruction (R312 to R318). -/
def encodeS : SInstr → Word
  | .alu op rd ra rb => wordR 0x01 (aluFn op) rb.toNat ra.toNat rd.toNat
  | .imm op rd ra v => wordI (immOp op) v.toNat ra.toNat rd.toNat
  | .ldhi rd v => wordI 0x08 v.toNat 0 rd.toNat
  | .load op rd ra v => wordI (loadOp op) v.toNat ra.toNat rd.toNat
  | .store op rs ra v => wordI (storeOp op) v.toNat ra.toNat rs.toNat
  | .branch c ra rb off => wordI (condOp c) off.toNat rb.toNat ra.toNat
  | .jmp off => word (0x28 + off.toNat * 2 ^ 6)
  | .call off => word (0x29 + off.toNat * 2 ^ 6)
  | .jr ra v => wordI 0x2A v.toNat ra.toNat 0
  | .callr ra v => wordI 0x2B v.toNat ra.toNat 0
  | .ret => word 0x2C
  | .ldf rd ra => wordR 0x30 0x001 0 ra.toNat rd.toNat
  | .stf rs ra => wordR 0x30 0x002 0 ra.toNat rs.toNat
  | .stfp rs ra => wordR 0x30 0x003 0 ra.toNat rs.toNat
  | .fenceL => wordR 0x30 0x008 0 0 0
  | .fenceF rd => wordR 0x30 0x009 0 0 rd.toNat
  | .stamp rd what => wordR 0x30 0x010 what.val 0 rd.toNat
  | .lookup rd ra k => wordR 0x30 0x018 k.val ra.toNat rd.toNat
  | .crc op rd ra rb => wordR 0x30 (crcFn op) rb.toNat ra.toNat rd.toNat
  | .send rs rr q nb mark => wordQ 0x31 q (mark.val + 4 * ofBool nb) rr.toNat rs.toNat
  | .recv rd rm q nb => wordQ 0x32 q (ofBool nb) rm.toNat rd.toNat
  | .droppkt q => wordQ 0x33 q 0 0 0
  | .gets rd sr => wordR 0x3F 0x000 sr.val 0 rd.toNat
  | .puts sr ra => wordR 0x3F 0x001 sr.val ra.toNat 0
  | .rtt => wordR 0x3F 0x002 0 0 0
  | .wfe => wordR 0x3F 0x003 0 0 0
  | .brk => wordR 0x3F 0x004 0 0 0

end Sys2Proof.Machine
end

