-- ==== Sys2Proof/Machine/Capture.lean ====
section
/-! DEFINITION. Whole packets taken from a queue, the size of the DRAM, and the capture channels (R276 to R279). -/

namespace Sys2Proof.Machine

/-- Take words up to a mark: the words without an ABORT's, whether it was one, and the state; `n` bounds their number. -/
def State.qTakeWords (s : State) (q : Nat) : Nat → Option (List Word × Bool × State)
  | 0 => none
  | n + 1 =>
    match s.qTake q with
    | none => none
    | some (w, s) =>
      match w.mark with
      | .last => some ([w.v], false, s)
      | .abort => some ([], true, s)
      | .data =>
        match State.qTakeWords s q n with
        | none => none
        | some (ws, ab, s) => some (w.v :: ws, ab, s)

/-- A unit with source ID `c` takes a whole packet of the queue it consumes. -/
def State.qTakePacket (s : State) (q : Nat) (c : SourceId) : Option (List Word × Bool × State) :=
  if s.qConsumer q == c && (s.queue q).pkts != 0 then s.qTakeWords q (s.queue q).words.length else none

/-- Where DRAM address 0 lies in the model's memory. -/
def dramBase : Nat := 0x1_0000_0000

/-- Bytes of DRAM that a DRAM_CFG describes (R347). -/
def dramSizeOf (cfg : Word) : Nat :=
  let density := 4 * 2 ^ min 2 (bits cfg 4 3)
  let devices := if bit cfg 2 then 2 else 4
  if bit cfg 0 then density * devices * 2 ^ 27 * (if bit cfg 1 then 2 else 1) else 0

/-- Bytes of DRAM in force (R347). -/
def State.dramSize (s : State) : Nat := dramSizeOf s.dram.cfg

/-- Entries of 8 bytes in the ring of channel `c` (R278, R279). -/
def State.capUnits (s : State) (c : Nat) : Nat := 8192 * atLeast1 (s.field (Addr.capSize c) 0 18)

/-- DRAM byte address of the ring of channel `c`. -/
def State.capBase (s : State) (c : Nat) : Nat :=
  s.field (Addr.capBaseLo c) 16 16 * 2 ^ 16 + s.field (Addr.capBaseHi c) 0 2 * 2 ^ 32

def State.capWrOf (s : State) (c : Nat) : Nat := (s.reg (Addr.capWr c)).toNat
def State.capRdOf (s : State) (c : Nat) : Nat := (s.reg (Addr.capRd c)).toNat

/-- Free 8-byte units of the ring: one is always left free (R278). -/
def State.capFree (s : State) (c : Nat) : Nat :=
  (s.capRdOf c + s.capUnits c - s.capWrOf c - 1) % s.capUnits c

/-- Units of the pad that goes before a record of `u` units which would pass the end of the ring (R277). -/
def State.capPad (s : State) (c u : Nat) : Nat := if s.capUnits c < s.capWrOf c + u then s.capUnits c - s.capWrOf c else 0

/-- Units of the record whose header lies at unit `r` of the ring, and whether it is a pad. -/
def State.capRecordAt (s : State) (c r : Nat) : Nat × Bool :=
  let a := dramBase + s.capBase c + 8 * r
  (1 + ((Memory.byte s.mem a).toNat * 256 + (Memory.byte s.mem (a + 1)).toNat + 7) / 8, Memory.byte s.mem (a + 2) == 0)

/-- FULL_MODE 1: CAP_RD passes the oldest whole records until `u` units fit (R278); `n` bounds their number. -/
def State.capMakeRoom (s : State) (c u : Nat) : Nat → State
  | 0 => s
  | n + 1 =>
    if u ≤ s.capFree c || s.capRdOf c == s.capWrOf c then s
    else
      let r := s.capRecordAt c (s.capRdOf c)
      let s := s.setReg (Addr.capRd c) (word ((s.capRdOf c + r.1) % s.capUnits c))
      let s := if r.2 then s else (s.inc (Addr.capOverwriteCount c)).event (Addr.capEvents c) 2
      State.capMakeRoom s c u n

/-- The header of a record (R277). -/
def capHeader (len src : Nat) (aborted gap : Bool) (cseq : Word) : List Byte :=
  beBytes 2 len ++ [BitVec.ofNat 8 src, BitVec.ofNat 8 (ofBool aborted + 2 * ofBool gap)] ++ beBytes 4 cseq.toNat

/-- A record is dropped as under STOP (R278). -/
def State.capDrop (s : State) (c : Nat) : State :=
  let s := (s.inc (Addr.capDropCount c)).event (Addr.capEvents c) 1
  { s with sw := { s.sw with gaps := c :: s.sw.gaps.filter (· != c) } }

/-- A record has been stored. -/
def State.capStored (s : State) (c : Nat) : State :=
  ({ s with sw := { s.sw with gaps := s.sw.gaps.filter (· != c) } }).event (Addr.capEvents c) 0

/-- Write bytes into the ring at CAP_WR and advance it past them. -/
def State.capPut (s : State) (c : Nat) (bs : List Byte) : State :=
  let s := { s with mem := Memory.writeBytes s.mem (dramBase + s.capBase c + 8 * s.capWrOf c) bs }
  s.setReg (Addr.capWr c) (word ((s.capWrOf c + bs.length / 8) % s.capUnits c))

/-- Under WRAP, room for `u` units is made; under STOP the ring is as it is (R278). -/
def State.capClear (s : State) (c u : Nat) : State :=
  if s.flag (Addr.capCtrl c) 2 then s.capMakeRoom c u (s.capUnits c) else s

/-- The pad record of `u` units that fills the ring to its end (R277). -/
def State.capPadPut (s : State) (c u : Nat) : State :=
  if u = 0 then s
  else
    let n := 8 * u - 8
    (s.capClear c u).capPut c (capHeader n 0 false false ((s.capClear c u).reg (Addr.capCseq c)) ++ List.replicate n 0)

/-- A whole record goes into the DRAM ring, behind a pad where it would pass the end (R277, R278). Under WRAP the pad makes
room for itself first, and may then be passed itself to make room for the record. -/
def State.capRing (s : State) (c : Nat) (bs : List Byte) : State :=
  let u := bs.length / 8
  let pad := s.capPad c u
  if s.dram.sync != .ready || decide (s.dramSize < s.capBase c + 8 * s.capUnits c) || decide (s.capUnits c ≤ u) then
    s.capDrop c
  else if !s.flag (Addr.capCtrl c) 2 && decide (s.capFree c < pad + u) then s.capDrop c
  else (((s.capPadPut c pad).capClear c u).capPut c bs).capStored c

/-- A record reaches channel `c`: SRC, ABORTED and its bytes (R276, R277). -/
def State.capRecord (s : State) (c src : Nat) (aborted : Bool) (bytes : List Byte) : State :=
  if !s.enabled .switch || !s.flag (Addr.capCtrl c) 0 then s.inc (Addr.capDropCount c)
  else
    let cseq := s.reg (Addr.capCseq c)
    let s := s.setReg (Addr.capCseq c) (cseq + 1)
    let gap := s.sw.gaps.contains c
    let bs := capHeader bytes.length src aborted gap cseq ++ bytes ++ List.replicate ((8 - bytes.length % 8) % 8) 0
    if 65536 ≤ bytes.length then s.capDrop c
    else if s.flag (Addr.capCtrl c) 1 then
      match s.qOfferPacket (s.field (Addr.capCtrl c) 10 6) 0x02C0 (wordsBE bs) with
      | (true, s) => s.capStored c
      | (false, s) => s.capDrop c
    else s.capRing c bs

/-- The queue feeds a capture channel, so it feeds no switch input (R276). -/
def State.capInput (s : State) (q : Nat) : Bool :=
  (List.range 16).any fun c => s.flag (Addr.capCtrl c) 3 && s.field (Addr.capCtrl c) 4 6 == q

/-- R276: the channel takes a whole packet of its input queue. -/
def execCaptureQueuePacket (c : Fin 16) (s : State) : Host.Outcome State Fault Refusal :=
  if !s.start.logicUp then .next s else
  if s.enabled .switch && s.flag (Addr.capCtrl c.val) 0 && s.flag (Addr.capCtrl c.val) 3 then
    match s.qTakePacket (s.field (Addr.capCtrl c.val) 4 6) 0x02C0 with
    | none => .next s
    | some (ws, ab, s) => .next (s.capRecord c.val 3 ab (bytesBE ws))
  else .next s

/-- A write into a capture channel's registers (R278, R279). -/
def State.captureWrite (s : State) (c a : Nat) (v : Word) : State :=
  if a = Addr.capEvents c then s.sqWrite a v
  else if a = Addr.capRd c then
    let n := s.capUnits c
    let rd := s.capRdOf c
    if v.toNat < n ∧ (v.toNat + n - rd) % n ≤ (s.capWrOf c + n - rd) % n then s.setReg a v
    else s.event (Addr.capEvents c) 3
  else if a = Addr.capCtrl c then
    if s.flag a 0 then s.setFlag a 0 (bit v 0)
    else if bit v 0 then ((s.plainWrite a v).setReg (Addr.capWr c) 0).setReg (Addr.capRd c) 0
    else s.plainWrite a v
  else if s.flag (Addr.capCtrl c) 0 then s
  else s.plainWrite a v

end Sys2Proof.Machine
end

