-- ==== Sys2Proof/Machine/Classify.lean ====
section
/-! DEFINITION. Classification (R282 to R287): parsing a frame, the exact-match table, the rules, and the result. -/

namespace Sys2Proof.Machine

/-- What the parser reads of a frame (R282). -/
structure Parsed where
  dst : Nat
  src : Nat
  tagged : Bool
  vid : Nat
  pcp : Nat
  dei : Bool
  etype : Nat
  appid : Nat
  ipv4 : Bool
  proto : Nat
  dscp : Nat
  laterFragment : Bool
  sip : Nat
  dip : Nat
  sport : Nat
  dport : Nat
  deriving DecidableEq, Repr

/-- Parse a frame of an input whose PVID and PPCP are given. -/
def parseFrame (pvid ppcp : Nat) (bs : List Byte) : Parsed :=
  let t := tagBytes (bs.drop 12)
  let tci := beAt bs 14 2
  let et := beAt bs (12 + t) 2
  let l3 := 14 + t
  let ip := et == 0x0800
  let later := ip && beAt bs (l3 + 6) 2 % 8192 != 0
  let proto := if ip then beAt bs (l3 + 9) 1 else 0
  let l4 := l3 + 4 * (beAt bs l3 1 % 16)
  let ports := ip && !later && (proto == 6 || proto == 17)
  { dst := beAt bs 0 6, src := beAt bs 6 6, tagged := t != 0,
    vid := if t = 0 then pvid else tci % 4096, pcp := if t = 0 then ppcp else tci / 8192 % 8,
    dei := t != 0 && tci / 4096 % 2 == 1, etype := et, appid := beAt bs l3 2, ipv4 := ip, proto := proto,
    dscp := if ip then beAt bs (l3 + 1) 1 / 4 else 0, laterFragment := later,
    sip := if ip then beAt bs (l3 + 12) 4 else 0, dip := if ip then beAt bs (l3 + 16) 4 else 0,
    sport := if ports then beAt bs l4 2 else 0, dport := if ports then beAt bs (l4 + 2) 2 else 0 }

/-- The hash's bucket for a key (R283). -/
def bucketOf (ktype key : Nat) : Nat := (crc32c (BitVec.ofNat 8 ktype :: beBytes 8 key)).toNat % 4096

/-- Entry `e` matches a key (R285): valid, equal, and with no uncorrectable ECC error. -/
def State.entryMatches (s : State) (ktype key e : Nat) : Bool :=
  let w (k : Nat) : Word := s.reg (Addr.classEntry e k)
  bit (w 0) 31 && bits (w 0) 0 8 == ktype && (w 1).toNat == key / 2 ^ 32 && (w 2).toNat == key % 2 ^ 32
    && !((List.range 5).any fun k => Store.get 0 s.ecc (Addr.classEntry e k) == 2)

/-- Look a key up in its bucket: the lowest matching entry (R285). -/
def State.exactLookup (s : State) (ktype key : Nat) : Option Nat × State :=
  let es := (List.range 4).map fun k => 4 * bucketOf ktype key + k
  let hits := es.filter fun e => s.entryMatches ktype key e
  let s := s.each es fun s e => s.each (List.range 5) fun s k => s.eccLoad .classify (Addr.classEntry e k)
  let s := if 2 ≤ hits.length then (s.inc Addr.classDupKeyCount).event Addr.classEvents 2 else s
  (hits.head?, s)

/-- The match vector of a frame from input `p` with source zone `z` (R286). -/
def matchVector (p z : Nat) (f : Parsed) : List Nat :=
  [p + ofBool f.tagged * 8 + f.pcp * 16 + ofBool f.dei * 128 + f.vid * 256 + z * 2 ^ 20,
   f.etype + f.proto * 2 ^ 16 + f.dscp * 2 ^ 24 + ofBool f.ipv4 * 2 ^ 30 + ofBool f.laterFragment * 2 ^ 31,
   f.dst / 2 ^ 16, f.dst % 2 ^ 16 * 2 ^ 16 + f.src / 2 ^ 32, f.src % 2 ^ 32, f.sip, f.dip,
   f.sport * 2 ^ 16 + f.dport]

/-- The field that RANGE_SEL names (R286). -/
def rangeField (sel : Nat) (f : Parsed) : Option Nat :=
  match sel with
  | 1 => some f.sport
  | 2 => some f.dport
  | 3 => some f.vid
  | 4 => some f.etype
  | _ => none

/-- Rule `r` with the mode given matches (R286): MODE 0 OVERRIDE, 1 FALLBACK. -/
def State.ruleMatches (s : State) (mode r : Nat) (mv : List Nat) (f : Parsed) : Bool :=
  let ctl := s.reg (Addr.classRule r 0x44)
  let range := s.reg (Addr.classRule r 0x40)
  bit ctl 31 && bits ctl 29 2 == mode
    && (List.range 8).all (fun i =>
          ((mv.getD i 0) ^^^ (s.reg (Addr.classRule r (4 * i))).toNat)
            &&& (s.reg (Addr.classRule r (0x20 + 4 * i))).toNat == 0)
    && (match rangeField (bits ctl 0 3) f with
        | none => true
        | some v => decide (bits range 0 16 ≤ v) && decide (v ≤ bits range 16 16))

/-- The rules whose RCTRL is listed, lowest first. -/
def State.rulesListed (s : State) : List Nat :=
  s.regs.filterMap fun p =>
    if decide (0x48_0000 ≤ p.1 ∧ p.1 < 0x4A_0000 ∧ (p.1 - 0x48_0000) % 0x80 = 0x44) then some ((p.1 - 0x48_0000) / 0x80)
    else none

/-- Where a frame goes (R284, R287): PORTS, destination node and ring, node list, class, policer and queue. -/
structure Dest where
  ports : Nat := 0
  node : Nat := 0xFF
  ring : Nat := 0
  nodelist : Nat := 0
  cls : Nat := 0
  policer : Option Nat := none
  queue : Nat := 0
  /-- CAPTURE is named (R340). -/
  capture : Bool := false
  deriving DecidableEq, Repr

/-- The egress class of a PCP (R287). -/
def State.pcpClass (s : State) (pcp : Nat) : Nat := s.field Addr.classPcpMap (3 * pcp) 3

/-- The result that words W3 and W4 give (R284). -/
def State.destOf (s : State) (w3 w4 : Word) (f : Parsed) : Dest :=
  { ports := if bit w3 24 then 0 else bits w3 0 8 &&& 0xFD, node := bits w3 8 8, ring := bits w3 16 4,
    nodelist := bits w4 24 6, cls := if bit w3 23 then bits w3 20 3 else s.pcpClass f.pcp,
    policer := if bit w4 10 then some (bits w4 0 10) else none, queue := bits w4 16 6 }

/-- The result of a lookup (R287), with its counters. -/
def State.classify (s : State) (p z : Nat) (f : Parsed) : Dest × State :=
  let mv := matchVector p z f
  let key := if f.etype == 0x88B8 || f.etype == 0x88BA then (1, f.appid * 2 ^ 48 + f.dst) else (0, f.vid * 2 ^ 48 + f.dst)
  let rules := s.rulesListed
  let x := s.exactLookup key.1 key.2
  let rule (t : State) (r : Nat) : Dest × State :=
    (t.destOf (t.reg (Addr.classRule r 0x48)) (t.reg (Addr.classRule r 0x4C)) f, t.inc (Addr.classRule r 0x50))
  match rules.find? fun r => s.ruleMatches 0 r mv f with
  | some r => rule x.2 r
  | none =>
    match x.1 with
    | some e => (x.2.destOf (x.2.reg (Addr.classEntry e 3)) (x.2.reg (Addr.classEntry e 4)) f,
        x.2.inc (Addr.classEntry e 5))
    | none =>
      match rules.find? fun r => s.ruleMatches 1 r mv f with
      | some r => rule x.2 r
      | none =>
        let t := (x.2.inc (Addr.classMissCount p)).event Addr.classEvents 1
        let cfg := t.reg (Addr.classPortCfg p)
        if bit cfg 22 then ({ ports := 0x20, cls := t.pcpClass f.pcp, queue := bits cfg 16 6 }, t) else ({}, t)

/-- The bits of W3 and W4 that a KTYPE gives a meaning (R284); the others are Reserved. -/
def entryMasks (ktype : Nat) : Word × Word := if ktype = 2 then (0x1FF, 0) else (0x1FFFFFD, 0x3F3F07FF)

/-- W3 and W4 of entry `e` without the bits that are Reserved for its KTYPE (R6, R284). -/
def State.entryTrim (s : State) (e : Nat) : State :=
  let m := entryMasks (s.field (Addr.classEntry e 0) 0 8)
  let s := s.setReg (Addr.classEntry e 3) (s.reg (Addr.classEntry e 3) &&& m.1)
  s.setReg (Addr.classEntry e 4) (s.reg (Addr.classEntry e 4) &&& m.2)

/-- A write into the exact-match table: the word is stored with its check bits (R284, R446); the Reserved words W6 and W7 hold
nothing. -/
def State.classEntryWrite (s : State) (a : Nat) (v : Word) : State :=
  if 0x14 ≤ a % 32 then s else ((s.plainWrite a v).entryTrim ((a - 0x40_0000) / 32)).eccStore 5 0 a

/-- A write into the CLASS control block other than UNIT_CTRL and the guarded pairs. -/
def State.classWrite (s : State) (a : Nat) (v : Word) : State :=
  if a = Addr.classEvents then s.sqWrite a v else s.plainWrite a v

/-- The nodes of a node list (R302). -/
def State.nodesOf (s : State) (l : Nat) : List Nat :=
  ((List.range 16).map fun j => s.field (Addr.classNodelist l (j / 4)) (8 * (j % 4)) 8).filter (· != 0xFF)

end Sys2Proof.Machine
end

