-- ==== Sys2Proof/Machine/Traffic.lean ====
section
/-! DEFINITION. Policers (R289, R290) and shapers with their calendar wheel (R291 to R293). Token counts are in units of
1/400,000 byte, in which a rate of 8 kbit/s adds 1 each CORE cycle. -/

namespace Sys2Proof.Machine

/-- Token units of a byte. -/
def tokenUnit : Nat := 400000

def State.policer (s : State) (p : Nat) : Policer := Store.get {} s.policers p
def State.setPolicer (s : State) (p : Nat) (x : Policer) : State := { s with policers := Store.put {} s.policers p x }

/-- CBS and PBS of a policer in token units. -/
def State.polCbs (s : State) (p : Nat) : Nat := s.field (Addr.trfPolBurst p) 0 16 * 64 * tokenUnit
def State.polPbs (s : State) (p : Nat) : Nat := s.field (Addr.trfPolBurst p) 16 16 * 64 * tokenUnit

/-- The buckets filled for the time since the policer's last frame (R289). -/
def State.polFill (s : State) (p : Nat) : Policer :=
  let x := s.policer p
  let dt := s.now - x.last
  { tc := min (s.polCbs p) (x.tc + s.field (Addr.trfPolCir p) 0 24 * dt),
    tp := min (s.polPbs p) (x.tp + s.field (Addr.trfPolPir p) 0 24 * dt), last := s.now }

/-- Meter a frame of `b` bytes (R289): `none` is red, else whether it is yellow. -/
def State.meter (s : State) (p b : Nat) (dei : Bool) : Option Bool × State :=
  let x := s.polFill p
  let n := b * tokenUnit
  if x.tp < n then
    (none, ((s.setPolicer p x).inc (Addr.trfPolRed p)).event Addr.trfEvents 0)
  else if (s.flag (Addr.trfPolCtrl p) 0 && dei) || decide (x.tc < n) then
    (some true, (s.setPolicer p { x with tp := x.tp - n }).inc (Addr.trfPolYellow p))
  else (some false, (s.setPolicer p { x with tp := x.tp - n, tc := x.tc - n }).inc (Addr.trfPolGreen p))

def State.shaper (s : State) (h : Nat) : Shaper := Store.get {} s.shapers h
def State.setShaper (s : State) (h : Nat) (x : Shaper) : State := { s with shapers := Store.put {} s.shapers h x }

def State.shRate (s : State) (h : Nat) : Nat := s.field (Addr.trfShRate h) 0 24
def State.shBurst (s : State) (h : Nat) : Nat := s.field (Addr.trfShBurst h) 0 24

/-- TOKENS now, in token units (R291). -/
def State.shTokens (s : State) (h : Nat) : Int :=
  let x := s.shaper h
  min (Int.ofNat (s.shBurst h * tokenUnit)) (x.tokens + Int.ofNat (s.shRate h * (s.now - x.last)))

/-- The tokens that a head frame of `b` bytes needs. -/
def State.shNeed (s : State) (h b : Nat) : Int := Int.ofNat (min b (s.shBurst h) * tokenUnit)

/-- The shaper that queue `q` is bound to and that limits it (R291). -/
def State.shaperOf (s : State) (q : Nat) : Option Nat :=
  let h := s.field (Addr.trfQshaper q) 0 9
  if s.enabled .traffic && s.flag (Addr.trfQshaper q) 9 && s.shRate h != 0 then some h else none

/-- The shaper is on the wheel for a head frame that needs no more tokens than one of `b` bytes: that one waits as well. -/
def State.shHolds (s : State) (h b : Nat) : Bool :=
  match (s.shaper h).due with
  | none => false
  | some (_, _, b0) => decide (s.shNeed h b0 ≤ s.shNeed h b)

/-- The shaper of queue `q` makes its head frame of `b` bytes eligible (R291); once a head frame has been found not
eligible, it is eligible when the wheel says so (R292). -/
def State.shReady (s : State) (q b : Nat) : Bool :=
  match s.shaperOf q with
  | none => true
  | some h => !s.shHolds h b && decide (s.shNeed h b ≤ s.shTokens h)

/-- The start of a frame subtracts its bytes. -/
def State.shTake (s : State) (q b : Nat) : State :=
  match s.shaperOf q with
  | none => s
  | some h => s.setShaper h { s.shaper h with tokens := s.shTokens h - Int.ofNat (b * tokenUnit), last := s.now }

/-- CORE cycles that the coarse wheel spans, 256 slots of 5.12 µs (R292). -/
def wheelSpan : Nat := 524288

/-- A shaper that does not make its head frame of `b` bytes eligible goes on the wheel: the time of eligibility rounded
up to 20 ns, and its slot (R292). -/
def State.shEnter (s : State) (h b : Nat) : State :=
  let miss := (s.shNeed h b - s.shTokens h).toNat
  if miss = 0 || s.shRate h == 0 then s.setShaper h { s.shaper h with due := none }
  else
    let t := s.now + (miss + s.shRate h - 1) / s.shRate h
    let t := (t + 7) / 8 * 8
    s.setShaper h { s.shaper h with due := some (t, min t (s.now + wheelSpan), b) }

/-- The head frame of queue `q` has `b` bytes and waits for its shaper, at the time of the least of those that wait. -/
def State.shWait (s : State) (q b : Nat) : State :=
  match s.shaperOf q with
  | none => s
  | some h => if s.shHolds h b || s.shReady q b then s else s.shEnter h b

/-- R292: the shaper's slot is reached. -/
def execShaperEligible (sh : Fin 512) (s : State) : Host.Outcome State Fault Refusal :=
  if !s.start.logicUp then .next s else
  let x := s.shaper sh.val
  match x.due with
  | none => .next s
  | some (t, slot, b) =>
    .next (s.setShaper sh.val { x with due := if t ≤ slot then none else some (t, min t (slot + wheelSpan), b) })

/-- A configuration write of a shaper has committed (R293). -/
def State.shReset (s : State) (h : Nat) : State :=
  let x := s.shaper h
  let tokens : Int := if s.flag (Addr.trfShCtrl h) 0 then Int.ofNat (s.shBurst h * tokenUnit) else 0
  let s := (s.setShaper h { tokens := tokens, last := s.now, due := none }).event Addr.trfEvents 1
  match x.due with
  | none => s
  | some (_, _, b) => s.shEnter h b

/-- A configuration write of a policer has committed: both buckets are full (R290). -/
def State.polReset (s : State) (p : Nat) : State := s.setPolicer p { tc := s.polCbs p, tp := s.polPbs p, last := s.now }

/-- A write into the TRAFFIC block other than UNIT_CTRL. -/
def State.trafficWrite (s : State) (a : Nat) (v : Word) : State :=
  if a = Addr.trfEvents then s.sqWrite a v
  else
    let t := s.plainWrite a v
    if 0x31_8000 ≤ a then t.polReset ((a - 0x31_8000) / 0x20)
    else if 0x31_4000 ≤ a then t.shReset ((a - 0x31_4000) / 0x10)
    else t

/-- What a read of a TRAFFIC word shows instead of the stored word: TOKENS in whole bytes. -/
def State.trafficView (s : State) (a : Nat) : Option Word :=
  if 0x31_4000 ≤ a ∧ a < 0x31_8000 ∧ a % 16 = 12 then
    some (wordSat (floorDiv (s.shTokens ((a - 0x31_4000) / 0x10)) tokenUnit))
  else none

end Sys2Proof.Machine
end

