-- ==== Sys2Proof/Machine/Gate.lean ====
section
/-! DEFINITION. The commands and registers of the station ports' gates (R295 to R298, R304), and the MAC's link state (R305,
R306). -/

namespace Sys2Proof.Machine

/-- R295: an entry boundary is crossed. -/
def execGateEntryBoundary (p : Fin 2) (s : State) : Host.Outcome State Fault Refusal :=
  if !s.start.logicUp then .next s else
  if s.flag (Addr.staGateCtrl p.val) 0 && s.listRuns p.val then .next (s.gateRefresh p.val) else .next s

/-- R296: the HOLD time of a class's override ends; a later GATE_WRITE has replaced it where its own HOLD still runs. -/
def execGateOverrideExpiry (p : Fin 2) (c : Fin 8) (s : State) : Host.Outcome State Fault Refusal :=
  if !s.start.logicUp then .next s else
  let x := s.sta p.val
  match x.overOf c.val with
  | none => .next s
  | some o =>
    if !(o.stop.any (· ≤ s.time16)) then .next s
    else
      let t := s.setSta p.val { x with overrides := x.overrides.filter fun o => o.cls != c.val }
      .next (s.gateOverrun t p.val)

/-- The change time in ns (R298): ADMIN_BASE, or the first whole cycle after it, at least 1 µs ahead. -/
def State.changeTime (s : State) (p : Nat) : Nat :=
  let b := s.adminBase p
  let c := (s.reg (Addr.staGateAdminCycle p)).toNat
  let earliest := ((s.time16 + 65535) / 65536).toNat + 1000
  if earliest ≤ b then b else b + (earliest - b + c - 1) / c * c

/-- A committed CONFIG_CHANGE (R298). -/
def State.gateConfigChange (s : State) (p : Nat) (v : Word) : State :=
  let len := s.field (Addr.staGateAdminLen p) 0 11
  if !bit v 0 then s
  else if len = 0 ∨ 1024 < len ∨ (s.reg (Addr.staGateAdminCycle p)).toNat < 1000 then s.event (Addr.staGateEvents p) 1
  else
    let t := s.changeTime p
    ((s.setReg (Addr.staGateChangeTimeLo p) (word t)).setReg (Addr.staGateChangeTimeHi p) (word (t / 2 ^ 32))).setSta p
      { s.sta p with pending := true }

/-- R298: the change time is reached. -/
def execGateChangeTime (p : Fin 2) (s : State) : Host.Outcome State Fault Refusal :=
  if !s.start.logicUp then .next s else
  .next (s.gateApply p.val)

/-- STA_GATE_STATUS (R304). -/
def State.gateStatus (s : State) (p : Nat) : Word :=
  let x := s.sta p
  word (s.effGates p + (x.overrides.map fun o => 2 ^ (8 + o.cls)).sum + x.entry % 1024 * 2 ^ 16
    + ofBool x.operValid * 2 ^ 26 + ofBool x.pending * 2 ^ 27)

/-- STA_STATUS (R306). -/
def State.staStatus (s : State) (p : Nat) : Word :=
  let x := s.sta p
  word (ofBool x.link + x.sync.toNat * 2 + ofBool x.aligned * 2 ^ 5 + ofBool x.localFault * 2 ^ 6
    + ofBool x.remoteFault * 2 ^ 7 + s.field (Addr.staCtrl p) 0 1 * 2 ^ 8)

/-- A write into a STA block other than UNIT_CTRL, 64-bit values and the guarded pair (R304, R305). -/
def State.staWrite (s : State) (p a : Nat) (v : Word) : State :=
  if a = Addr.staEvents p ∨ a = Addr.staGateEvents p ∨ a = Addr.prpEvents p then s.sqWrite a v
  else if a = Addr.staCtrl p then (if s.enabled (.sta (fin 1 p)) then s else s.plainWrite a v)
  else if a = Addr.staGateCtrl p then s.gateOverrun ((s.plainWrite a v).gateRefresh p) p
  else s.plainWrite a v

/-- What a read of a STA word shows instead of the stored word. -/
def State.staView (s : State) (p a : Nat) : Option Word :=
  if a = Addr.staStatus p then some (s.staStatus p)
  else if a = Addr.staGateStatus p then some (s.gateStatus p)
  else none

/-- The link state of a station port changes: LINK, its events and those of the faults (R306). -/
def State.staLink (s : State) (p : Nat) (sync : BitVec 4) (aligned localFault remoteFault : Bool) : State :=
  let x := s.sta p
  let link := if s.flag (Addr.staCtrl p) 0 then bit sync 0 else sync == 15 && aligned && !localFault
  let s := s.setSta p
    { x with link := link, sync := sync, aligned := aligned, localFault := localFault, remoteFault := remoteFault }
  let s := if localFault && !x.localFault then s.event (Addr.staEvents p) 2 else s
  let s := if remoteFault && !x.remoteFault then s.event (Addr.staEvents p) 3 else s
  if link && !x.link then s.event (Addr.staEvents p) 0
  else if !link && x.link then s.event (Addr.staEvents p) 1
  else s

/-- R306: the receiver's condition changes. At 1 Gb/s only lane 0 runs (R305). -/
def execStaLinkChange (p : Fin 2) (sync : BitVec 4) (aligned localFault remoteFault : Bool) (s : State) :
    Host.Outcome State Fault Refusal :=
  if !s.start.logicUp then .next s else
  if !s.enabled (.sta p) then .next s
  else if s.flag (Addr.staCtrl p.val) 0 then .next (s.staLink p.val (sync &&& 1) false false false)
  else .next (s.staLink p.val sync aligned localFault remoteFault)

end Sys2Proof.Machine
end

