-- ==== Sys2Proof/Machine/Switch.lean ====
section
/-! DEFINITION. The switch core (chapter 11) and the path of a frame through it (R280): entry, zones, policing, admission,
selection and delivery. -/

namespace Sys2Proof.Machine

/-- Egress rate of a port in Gb/s (R260). -/
def State.portRate (s : State) (p : Nat) : Nat :=
  if p < 2 then 20 else if s.flag (Addr.staCtrl (p - 2)) 0 then 1 else 10

/-- PRP is in operation (R299). -/
def State.prpOn (s : State) : Bool := s.flag (Addr.prpCtrl 0) 0

/-- Input `p` forwards cut-through to output `o` (R266, R299). -/
def State.cutThrough (s : State) (p o : Nat) : Bool :=
  decide (p < 4 ∧ o < 4) && s.flag Addr.swCtrl p
    && (decide (p < 2) || (s.portRate p == 10 && !s.prpOn)) && decide (s.portRate o ≤ s.portRate p)

/-- The generator of an output (R269); its seed is the model's (log entry 60). -/
def State.lfsr (s : State) (o : Nat) : Half := Store.get 1 s.sw.lfsrs o

/-- The next value of a generator x^16 + x^14 + x^13 + x^11 + 1 (R269). -/
def lfsrNext (r : Half) : Half :=
  let b := (bits r 0 1 + bits r 2 1 + bits r 3 1 + bits r 5 1) % 2
  BitVec.ofNat 16 (r.toNat / 2 + b * 2 ^ 15)

/-- AVG after an update with depth `d` (R269). -/
def avgNext (w avg d : Nat) : Nat := (Int.ofNat avg + floorDiv (Int.ofNat (d * 65536) - Int.ofNat avg) (2 ^ atLeast1 w)).toNat

/-- A profile drops a frame (R269): `avg` in 2^-16 cells, `r` the generator's value. -/
def redDrops (profile : Word) (avg r : Nat) : Bool :=
  let lo := bits profile 0 12 * 16 * 65536
  let hi := bits profile 12 12 * 16 * 65536
  if bits profile 0 12 = 0xFFF then false
  else if avg < lo then false
  else if hi ≤ lo ∨ hi ≤ avg then true
  else decide (r < bits profile 24 8 * 256 * (avg - lo) / (hi - lo))

/-- Random early drop of a frame offered to queue `q` of depth `d` (R269): whether it is dropped. -/
def State.redTest (s : State) (q d : Nat) (yellow : Bool) : Bool × State :=
  let o := q / 8
  let avg := avgNext (s.field (Addr.swQcfg q) 20 4) (s.avg q) d
  let r := lfsrNext (s.lfsr o)
  let s := s.setAvg q avg
  let s := { s with sw := { s.sw with lfsrs := Store.put 1 s.sw.lfsrs o r } }
  (redDrops (s.reg (Addr.swRed q (ofBool yellow))) avg r.toNat, s)

/-- R269: the average of an empty queue is updated. -/
def execRedIdleUpdate (q : Fin 64) (s : State) : Host.Outcome State Fault Refusal :=
  if !s.start.logicUp then .next s else
  if s.enabled .switch && s.depth q.val == 0 then
    .next (s.setAvg q.val (avgNext (s.field (Addr.swQcfg q.val) 20 4) (s.avg q.val) 0))
  else .next s

/-- The admission tests of R264 for one queue, on the counts of `c`: whether it takes the frame. -/
def State.admitQueue (s c : State) (q : Nat) (yellow : Bool) : Bool × State :=
  let d := c.depth q
  let o := q / 8
  match s.redTest q d yellow with
  | (true, s) => (false, s.inc (if yellow then Addr.swQDropYellow q else Addr.swQDropGreen q))
  | (false, s) =>
    let low := decide (d < c.qmin q)
    let free := c.sharedFree
    if !low && !decide (c.sharedOf q < free * 2 ^ s.field (Addr.swQcfg q) 16 3 / 8) then
      (false, s.inc (Addr.swPortDropLimit o))
    else if !low && !decide (c.headroom ≤ free) then (false, s.inc (Addr.swPortDropBuffer o))
    else (true, s.inc (Addr.swQEnq q))

/-- The queues that take a frame, of those it is offered to (R264). -/
def State.admitAll (s c : State) (yellow : Bool) : List Nat → List Nat × State
  | [] => ([], s)
  | q :: r =>
    let x := s.admitQueue c q yellow
    let y := State.admitAll x.2 c yellow r
    (if x.1 then q :: y.1 else y.1, y.2)

/-- The copies of a destination: egress queue and destination zone (R287, R288, R294). USB delivery leaves at output 4. -/
def State.copiesOf (s : State) (d : Dest) : List (Nat × Option Nat) :=
  let ec := min (max d.cls 1) 5
  let b (i : Nat) : Bool := d.ports.testBit i
  (if b 0 && s.active .east then [(ec, some 0)] else [])
    ++ (if b 0 && s.active .west then [(8 + ec, some 1)] else [])
    ++ (if b 2 then [(16 + d.cls, some 2)] else []) ++ (if b 3 then [(24 + d.cls, some 3)] else [])
    ++ (if b 4 then [(32 + d.cls, some 4)] else []) ++ (if b 5 then [(40 + d.cls, some 5)] else [])
    ++ (if b 6 then [(48 + d.cls, some 6)] else []) ++ (if b 7 then [(32 + d.cls, some 7)] else [])
    ++ (if d.capture then [(56 + d.cls, none)] else [])

/-- The zone test of R288: the queues that remain. -/
def State.zoneTest (s : State) (z : Nat) : List (Nat × Option Nat) → List Nat × State
  | [] => ([], s)
  | (q, y) :: r =>
    let ok := match y with
      | none => true
      | some y => s.flag (Addr.classZoneAllow z) y
    let s := if ok then s else (s.inc (Addr.classFwDenyCount z)).event Addr.classEvents 0
    let x := State.zoneTest s z r
    (if ok then q :: x.1 else x.1, x.2)

/-- The bytes of a yellow tagged frame under DEI_MARK (R289). -/
def deiMark (bs : List Byte) : List Byte := setAt bs 14 (bs.getD 14 0 ||| 0x10)

/-- The ring frames of a frame that enters the ring (R238, R262, R287), one for each node; none goes to node 254 or 255
(R215, R238). What E0 says of the egress at
the destination is a free value (log entry 61). -/
def State.ringCopies (s : State) (d : Dest) (bytes : List Byte) : List RingFrame × State :=
  let nodes := (if d.node = 0xFE then s.nodesOf d.nodelist else [d.node]).filter (· < 254)
  let egress := bits (Config.freeWord s.free) 0 2
  let e0 := word (egress + min (max d.cls 1) 5 * 2 ^ 8)
  nodes.foldl (fun x n =>
      let f := { x.2.newFrame .e 0 n d.ring [e0] (wordsBE bytes) with pad := BitVec.ofNat 2 ((4 - bytes.length % 4) % 4) }
      let y := x.2.sequence f none
      (x.1 ++ [y.1], y.2))
    ([], s.nextFree)

/-- A frame as it enters, before its destination is known. -/
structure Entering where
  input : Nat
  zone : Nat
  kind : Nat := 0
  bytes : List Byte
  opened : Bool := false
  origin : Option PortFrame := none
  deriving DecidableEq, Repr

/-- The queues that destination `d` leaves the frame of `e` after the zone test (R280, stages 2 and 3): ring copies of a
long frame are dropped (R287), PRP names both station ports (R299), and what this hub would send while it is no MEMBER is
discarded (R226). -/
def State.swAim (s : State) (e : Entering) (d : Dest) : List Nat × State :=
  let long := d.ports.testBit 0 && decide (2040 < e.bytes.length)
  let s := if long then (s.inc Addr.classRingLongCount).event Addr.classEvents 3 else s
  let ports := if long then d.ports &&& 0xFE else d.ports
  let ports := if s.prpOn && (ports.testBit 2 || ports.testBit 3) then ports ||| 0xC else ports
  let z := s.zoneTest e.zone (s.copiesOf { d with ports := ports })
  if z.2.ring.sync == .member || !z.1.any (· < 16) then z
  else (z.1.filter (16 ≤ ·), (z.2.inc Addr.ringTransitDropCount).event Addr.ringEvents 9)

/-- The frame of `e`, and whether its colour is yellow, is offered to the queues `qs` of destination `d` (R264, R280,
stage 5). -/
def State.swStore (s : State) (e : Entering) (d : Dest) (yellow : Bool) (qs : List Nat) : State :=
  let cutOff := decide (9216 < e.bytes.length)
  let bytes := e.bytes.take 9216
  let a := s.admitAll s yellow qs
  let outs := a.1
  let s := a.2
  let r := if outs.any (· < 16) then s.ringCopies d bytes else ([], s)
  let s := r.2
  let prp := s.prpOn && outs.any fun q => decide (16 ≤ q) && decide (q < 32)
  let seqNr := BitVec.ofNat 16 (s.field (Addr.prpTxSeq 0) 0 16)
  let s := if prp then s.setReg (Addr.prpTxSeq 0) (word ((seqNr.toNat + 1) % 65536)) else s
  let room := bufferCells - s.usedCells
  let full := !outs.isEmpty && decide (room < cellsOf bytes.length)
  let s := if full then s.event Addr.swEvents 2 else s
  let x := if outs.isEmpty then (0, s) else s.inject 3 0 Addr.swUnitCtrl
  let f : SwFrame :=
    { input := e.input, kind := e.kind, bytes := if full then bytes.take (64 * room) else bytes, cls := d.cls,
      yellow := yellow, queue := d.queue, copies := r.1, outs := outs,
      cut := if e.opened then (List.range 4).filter fun o => s.cutThrough e.input o else [], started := [],
      cells := if outs.isEmpty then 0 else min room (cellsOf bytes.length), opened := true, bad := cutOff || full,
      dup := false, ecc := x.1, seqNr := if prp then some seqNr else none, origin := e.origin }
  let s := { x.2 with sw := { x.2.sw with frames := x.2.sw.frames ++ [f] } }.swCheck
  if e.opened then s else s.swEnd f false false

/-- The frame's policer (R289): `none` when red. -/
def State.police (s : State) (e : Entering) (f : Parsed) (d : Dest) : Option Bool × State :=
  match d.policer with
  | some p =>
    if s.enabled .traffic then s.meter p (e.bytes.length + 4) f.dei else (some false, s)
  | none => (some (f.dei && s.flag (Addr.classPortCfg e.input) 15), s)

/-- A frame that no destination is left for; one that is still arriving is received to its end. -/
def State.swDrop (s : State) (e : Entering) : State := if e.opened then s.swStore e {} false [] else s

/-- Stages 3 to 5 for a frame whose destination is known (R280); a red frame is dropped for all its destinations. -/
def State.swPass (s : State) (e : Entering) (f : Parsed) (d : Dest) : State :=
  let z := s.swAim e d
  if z.1.isEmpty then z.2.swDrop e
  else
    match z.2.police e f d with
    | (none, s) => s.swDrop e
    | (some yellow, s) =>
      let mark := yellow && f.tagged && s.flag Addr.trfCtrl 0
      s.swStore { e with bytes := if mark then deiMark e.bytes else e.bytes } d yellow z.1

/-- Stages 3 and 5 for a ring frame, which skips stages 2 and 4 and has no colour (R269, R280). -/
def State.swPassRing (s : State) (e : Entering) (d : Dest) : State :=
  let z := s.swAim e d
  if z.1.isEmpty then z.2.swDrop e else z.2.swStore e d false z.1

/-- PVID and PPCP of an input. -/
def State.parse (s : State) (p : Nat) (bs : List Byte) : Parsed :=
  parseFrame (s.field (Addr.classPortCfg p) 0 12) (s.field (Addr.classPortCfg p) 12 3) bs

/-- A frame enters and is classified (R280); with the classification engine disabled it goes nowhere. -/
def State.swClassified (s : State) (e : Entering) : State :=
  let s := s.inc (Addr.swPortRxFrames e.input)
  let f := s.parse e.input e.bytes
  if s.enabled .classify then
    let x := s.classify e.input e.zone f
    x.2.swPass e f x.1
  else s.swPass e f {}

/-- The stored bytes of a ring frame's payload. -/
def ringBytes (f : RingFrame) : List Byte := (bytesBE f.payload).take (4 * f.payload.length - f.pad.toNat)

/-- A ring frame of TYPE 0 or 6 enters from a ring port (R261, R280). -/
def State.swRing (s : State) (x : PortFrame) (opened : Bool) : State :=
  let p : Nat := match x.port with | .east => 0 | .west => 1
  let h := x.frame.hdr.getD 0 0
  let bytes := ringBytes x.frame
  let e : Entering := { input := p, zone := p, bytes := bytes, opened := opened, origin := if opened then some x else none }
  let s := s.inc (Addr.swPortRxFrames p)
  if x.frame.typ = 0 then s.swPassRing e { ports := bits h 0 2 * 4, cls := bits h 8 3 }
  else s.swPassRing { e with kind := bits h 8 4 } { ports := 0x20, cls := 7, queue := bits h 0 6 }

/-- A frame of the switch among ring frames: TYPE 0 or 6 (R261). -/
def isSwitchFrame (f : RingFrame) : Bool := f.typ == 0 || f.typ == 6

/-- A delivered frame that goes before `x` in the same in-order stream (R79, R237). -/
def State.streamAhead (s : State) (x : PortFrame) : Bool :=
  x.frame.inOrd && (s.ring.inbox.takeWhile (· != x)).any fun y =>
    y.frame.inOrd && isSwitchFrame y.frame && streamKey y.frame == streamKey x.frame

/-- The next ring frame for the switch at a port: cut-through before its EOF unless it is for another ring (R241), or one
delivered, in the order of its stream (R229, R237). -/
def State.swRingNext (s : State) (port : RingPort) : State :=
  match s.ring.cut.find? fun x => x.port == port && isSwitchFrame x.frame && !x.frame.inOrd && !s.across x.frame
      && (s.swOfRing x).isNone with
  | some x => s.swRing x true
  | none =>
    match s.ring.inbox.find? fun x => x.port == port && isSwitchFrame x.frame && !s.streamAhead x with
    | some x => { s with ring := { s.ring with inbox := s.ring.inbox.erase x } }.swRing x false
    | none => s

/-- A directed frame's destination (R340): W3 gives PORTS, DST_NODE and DST_RING; the node list it would use is a free
value (log entry 61). -/
def directedDest (d0 d1 : Word) (free : Nat) : Dest :=
  { ports := bits d1 0 8 &&& 0xFD, node := bits d1 8 8, ring := bits d1 16 4, nodelist := bits (Config.freeWord free) 0 6,
    cls := bits d0 16 3, policer := if bit d0 30 then some (bits d0 20 10) else none, queue := bits d1 25 6,
    capture := bit d1 1 }

/-- Input of a queue whose consumer is the switch, and its source zone (R340). -/
def queueInput (producer : SourceId) : Nat × Nat :=
  if producer = 0x0540 then (4, 4)
  else if producer = 0x0580 then (4, 7)
  else if (List.range 4).any (fun n => producer == sourceId (.core (fin 3 n))) then (5, 5)
  else (6, 6)

/-- A frame packet of a queue (R340): false when it is dropped. -/
def packetGood (ws : List Word) : Bool :=
  let len := bits (ws.getD 0 0) 0 16
  let d1 := ws.getD 1 0
  decide (2 ≤ ws.length) && decide (60 ≤ len) && decide (len ≤ 9216) && ws.length - 2 == (len + 3) / 4
    && !(bit (ws.getD 0 0) 31 && bit d1 1 && (bits d1 0 8 != 2 || bits d1 29 2 != 0))

/-- A packet of queue `q` enters the switch at input `p` (R340). -/
def State.swQueue (s : State) (p q : Nat) : State :=
  let inp := queueInput (s.qProducer q)
  if inp.1 ≠ p || s.capInput q then s
  else
    match s.qTakePacket q 0x02C0 with
    | none => s
    | some (ws, ab, s) =>
      if ab || !packetGood ws then s.addTo (Addr.qDroppedWords q) (ws.length + ofBool ab)
      else
        let d0 := ws.getD 0 0
        let e : Entering := { input := p, zone := inp.2, bytes := (bytesBE (ws.drop 2)).take (bits d0 0 16) }
        if bit d0 31 then
          let d := directedDest d0 (ws.getD 1 0) s.free
          let s := (s.inc (Addr.swPortRxFrames p)).nextFree
          s.swPass e (s.parse p e.bytes) d
        else s.swClassified e

/-- MAC checks of a received frame without its FCS (R305): runts and MAC control frames are discarded and counted. PTP
messages end at the port (R101, R238): PTP_MESSAGE_RECEIVE says what they do. -/
def State.macTakes (s : State) (p : Nat) (bytes : List Byte) : Bool × State :=
  if bytes.length < 60 then (false, s.inc (Addr.staRxRuntCount p))
  else if beAt bytes 12 2 = 0x8808 then (false, s.inc (Addr.staRxCtrlCount p))
  else if beAt bytes 12 2 = 0x88F7 then (false, s)
  else (true, s)

/-- R264: a frame's first cell enters at input `p`: from the ring at 0 and 1, `bytes` at a station port without PRP, a
packet of queue `q` at 4 to 6. A station input that is still receiving a frame takes no other. -/
def execSwitchFrameArrive (p : Fin 7) (q : Fin 64) (bytes : List Byte) (s : State) :
    Host.Outcome State Fault Refusal :=
  if !s.start.logicUp then .next s else
  if !s.enabled .switch then .next s
  else if p.val = 0 then .next (s.swRingNext .east)
  else if p.val = 1 then .next (s.swRingNext .west)
  else if p.val < 4 then
    if !(s.sta (p.val - 2)).link || s.prpOn || (s.sw.frames.any fun f => f.opened && f.input == p.val) then .next s
    else
      match s.macTakes (p.val - 2) bytes with
      | (false, s) => .next s
      | (true, s) => .next (s.swClassified { input := p.val, zone := p.val, bytes := bytes, opened := true })
  else .next (s.swQueue p.val q.val)

/-- R266: the open frame of a station input ends; ring frames end with RING_FRAME_COMMIT, those of queues as they enter. -/
def execSwitchFrameEnd (p : Fin 7) (e : FrameEnd) (s : State) : Host.Outcome State Fault Refusal :=
  if !s.start.logicUp then .next s else
  match s.sw.frames.find? fun f => f.opened && f.input == p.val && f.origin.isNone with
  | none => .next s
  | some f =>
    match e with
    | .good => .next ((s.inc (Addr.staRxFrames (p.val - 2))).swEnd f false false)
    | .fcs => .next ((s.inc (Addr.staRxFcsErrCount (p.val - 2))).swEnd f true false)
    | .code n => .next ((s.addTo (Addr.staRxCodeErrCount (p.val - 2)) n).swEnd f true false)

/-- Bytes of a frame as the shapers and the guard count them (R289, R297): with the FCS for Ethernet, and with the RCT at
a station port. -/
def frameB (o : Nat) (f : SwFrame) : Nat :=
  f.bytes.length + (if f.kind = 0 then 4 else 0) + (if (o == 2 || o == 3) && f.seqNr.isSome then 6 else 0)

/-- The head frame of an egress queue. -/
def State.swHead (s : State) (q : Nat) : Option SwFrame := s.sw.frames.find? fun f => f.outs.contains q

/-- A reader of queue `q` is done with `f`. -/
def State.swDequeue (s : State) (f : SwFrame) (q : Nat) : State := s.swReplace f { f with outs := f.outs.erase q }

/-- The packet that delivers a frame (R339). -/
def deliverWords (f : SwFrame) (q : Nat) : List Word :=
  word (f.kind % 16 * 2 ^ 28 + f.input * 2 ^ 25 + q % 8 * 2 ^ 22 + ofBool f.yellow * 2 ^ 20 + f.bytes.length % 65536)
    :: wordsBE f.bytes

/-- The cells of a frame are read (R266, R275, R446): an uncorrectable error marks the frame bad. -/
def State.swRead (s : State) (f : SwFrame) : SwFrame × State :=
  ({ f with bad := f.bad || f.ecc == 2 }, s.eccSeen .switch f.ecc Addr.swUnitCtrl)

/-- Deliver the head frame of queue `q` at output 4 to 6, which is its start; it waits while its queue has no room (R291,
R339). -/
def State.swDeliver (s : State) (q : Nat) (f : SwFrame) : State :=
  match s.qOfferPacket f.queue 0x02C0 (deliverWords f q) with
  | (true, s) => ((s.shTake q (frameB (q / 8) f)).inc (Addr.swPortTxFrames (q / 8))).swDequeue f q
  | (false, s) => s

/-- Output `o` sends frames: a ring port of a MEMBER that is ACTIVE, a station port with link, or the capture channels
(R226, R262, R306). -/
def State.outLive (s : State) (o : Nat) : Bool :=
  if o < 2 then s.ring.sync == .member && s.active (ringLink (if o = 0 then .east else .west))
  else if o < 4 then (s.sta (o - 2)).link
  else true

/-- A frame starts at output `o` 0 to 3 or 7, which takes its bytes from the shaper and occupies a station port (R291,
R297); one that is discarded does not start. -/
def State.swBegin (s : State) (q : Nat) (f : SwFrame) : State :=
  let o := q / 8
  if !s.outLive o then s
  else
    let s := s.shTake q (frameB o f)
    if o = 2 ∨ o = 3 then
      s.setSta (o - 2) { s.sta (o - 2) with sending := some (q % 8, 10 * s.time16 + s.wireTime (o - 2) (frameB o f)) }
    else s

/-- The head frame of queue `q` starts at its output (R262, R266, R294). -/
def State.swStart (s : State) (q : Nat) (f : SwFrame) : State :=
  let o := q / 8
  let r := s.swRead f
  let g := r.1
  let s := r.2
  if g.bad && !g.cut.contains o then (s.inc (Addr.swPortDropBad o)).swReplace f { g with outs := g.outs.erase q }
  else if o = 7 then
    (((s.swBegin q f).capRecord f.queue 2 false (bytesBE ((deliverWords f q).take 1) ++ f.bytes)).inc (Addr.swPortTxFrames o)).swDequeue f q
  else if 4 ≤ o then s.swDeliver q f
  else if f.opened then (s.swBegin q f).swReplace f { g with outs := g.outs.erase q, started := g.started ++ [o] }
  else ((s.swBegin q f).swLeave o g).swReplace f { g with outs := g.outs.erase q }

/-- The head frame of queue `q` has its last cell, or goes cut-through. -/
def swStored (o : Nat) (f : SwFrame) : Bool := !f.opened || f.cut.contains o

/-- The head frame of queue `q` may start now: stored, shaper, gate and guard, and room where it is delivered (R294). -/
def State.swReady (s : State) (q : Nat) : Bool :=
  match s.swHead q with
  | none => false
  | some f =>
    let o := q / 8
    swStored o f &&
      (((o == 2 || o == 3) && !(s.sta (o - 2)).link)
        || (s.shReady q (frameB o f)
            && (!(o == 2 || o == 3) || s.gateReady (o - 2) (q % 8) (frameB o f))
            && (!(o == 4 || o == 5 || o == 6) || s.qRoom f.queue 0x02C0 (deliverWords f q).length)))

/-- Heads that wait for their shaper go on its wheel (R292). -/
def State.swWait (s : State) (q : Nat) : State :=
  match s.swHead q with
  | none => s
  | some f => if swStored (q / 8) f then s.shWait q (frameB (q / 8) f) else s

/-- R294: output `o` is idle and selects its next frame, strictly from class 7 down. -/
def execEgressTxStart (o : Fin 8) (s : State) : Host.Outcome State Fault Refusal :=
  if !s.start.logicUp then .next s else
  let qs := (List.range 8).reverse.map fun c => 8 * o.val + c
  if !s.enabled .switch then .next s
  else
    match qs.find? fun q => s.swReady q with
    | none => .next (s.each qs fun s q => s.swWait q)
    | some q =>
      match s.swHead q with
      | none => .next s
      | some f =>
        let s := s.each (qs.takeWhile (· != q)) fun s k => s.swWait k
        .next (s.swStart q f)

/-- R339: the head frame of class `c` at output 4 to 6 is offered to its queue. -/
def execSwitchQueueDeliver (o c : Fin 8) (s : State) : Host.Outcome State Fault Refusal :=
  if !s.start.logicUp then .next s else
  let q := 8 * o.val + c.val
  match s.swHead q with
  | none => .next s
  | some f =>
    if s.enabled .switch && (o.val == 4 || o.val == 5 || o.val == 6) && swStored o.val f && s.shReady q (frameB o.val f) then
      if f.bad || f.ecc == 2 then .next (s.swStart q f)
      else if s.qRoom f.queue 0x02C0 (deliverWords f q).length then .next (s.swStart q f)
      else .next (s.swDeliver q f)
    else .next s

/-- R339: a frame has waited QUEUE_SWITCH_WAIT at the head of its egress queue. -/
def execQueueSwitchWaitExpiry (o c : Fin 8) (s : State) : Host.Outcome State Fault Refusal :=
  if !s.start.logicUp then .next s else
  let q := 8 * o.val + c.val
  match s.swHead q with
  | none => .next s
  | some f =>
    if (o.val == 4 || o.val == 5 || o.val == 6) && !f.opened then
      .next ((s.inc (Addr.qFullDropCount f.queue)).swDequeue f q)
    else .next s

/-- A write into the SWITCH block other than UNIT_CTRL and the capture channels (R265). -/
def State.switchWrite (s : State) (a : Nat) (v : Word) : State :=
  if a = Addr.swEvents then s.sqWrite a v else (s.plainWrite a v).swCheck

/-- What a read of a SWITCH word shows instead of the stored word. -/
def State.switchView (s : State) (a : Nat) : Option Word :=
  if a = Addr.swStatus then some (word (ofBool s.sw.qminOver))
  else if a = Addr.swFreeCells then some (word s.sharedFree)
  else if a = Addr.swUsedCells then some (word s.usedCells)
  else if 0x30_1400 ≤ a ∧ a < 0x30_1600 then
    let q := (a - 0x30_1400) / 8
    if a % 8 = 0 then some (word (s.depth q)) else some (word (s.avg q / 65536))
  else none

/-- A frame from the hub's own edge units enters at input 6 (R134). -/
def State.swEdge (s : State) (bytes : List Byte) : State :=
  if s.enabled .switch then s.swClassified { input := 6, zone := 6, bytes := bytes } else s

end Sys2Proof.Machine
end

