-- ==== Sys2Proof/Machine/Station.lean ====
section
/-! DEFINITION. PRP (R299 to R301): the RCT of a received frame, the duplicate windows, and supervision frames. -/

namespace Sys2Proof.Machine

/-- The RCT of a received frame, if its suffix and LSDUsize are valid (R300): SeqNr and LanId. -/
def rctRead (bytes : List Byte) : Option (Half × Nat) :=
  let n := bytes.length
  let size := n - 12 - tagBytes (bytes.drop 12)
  if 18 ≤ n ∧ beAt bytes (n - 2) 2 = 0x88FB ∧ beAt bytes (n - 4) 2 % 4096 = size % 4096 ∧ size < 4096 then
    some (BitVec.ofNat 16 (beAt bytes (n - 6) 2), beAt bytes (n - 4) 2 / 4096)
  else none

def State.prpWindow (s : State) (w : Nat) : PrpWindow := Store.get {} s.prp.windows w

/-- A window that starts again with number `q`. -/
def prpRestart (q : Half) (now : Nat) : PrpWindow :=
  { valid := true, high := q, seen := setBit 0 (q.toNat % 256) true, last := now }

/-- What a window does with a frame (R300): whether it is delivered, and the window's new state and counters. -/
def State.prpApply (s : State) (w : Nat) (q : Half) : Bool × State :=
  let x := s.prpWindow w
  let put (s : State) (y : PrpWindow) : State := { s with prp := { s.prp with windows := Store.put {} s.prp.windows w y } }
  let forget := atLeast1 (s.field (Addr.prpCtrl 0) 16 16) * 400000
  if !x.valid || decide (x.last + forget ≤ s.now) then (true, put s (prpRestart q s.now))
  else
    let d := (x.high - q).toNat
    if 32768 ≤ d then
      (true, put s { x with high := q, seen := setBit (clearBetween x.seen x.high q) (q.toNat % 256) true, last := s.now })
    else if 256 ≤ d then
      (true, put ((s.inc (Addr.prpRestartCount 0)).event (Addr.prpEvents 0) 1) (prpRestart q s.now))
    else if bit x.seen (q.toNat % 256) then (false, put (s.inc (Addr.prpDupCount 0)) { x with last := s.now })
    else (true, put s { x with seen := setBit x.seen (q.toNat % 256) true, last := s.now })

/-- A supervision frame goes to SUP_QUEUE at SERVICE, others are classified (R301). -/
def State.prpDeliver (s : State) (p : Nat) (bytes : List Byte) : State :=
  let e : Entering := { input := 2 + p, zone := 2 + p, bytes := bytes }
  let f := s.parse (2 + p) bytes
  if f.etype = 0x88FB then
    (s.inc (Addr.swPortRxFrames (2 + p))).swPass e f
      { ports := 0x20, cls := s.pcpClass f.pcp, queue := s.field (Addr.prpCtrl 0) 8 6 }
  else s.swClassified e

/-- A frame with a valid RCT: LanId, the source's window, and delivery (R300). -/
def State.prpAccept (s : State) (p : Nat) (bytes : List Byte) (q : Half) (lan : Nat) : State :=
  let s := if lan = 0xA + p then s else (s.inc (Addr.prpWrongLanCount 0)).event (Addr.prpEvents 0) 0
  let body := bytes.take (bytes.length - 6)
  match s.exactLookup 2 (beAt bytes 6 6) with
  | (none, s) => ((s.inc (Addr.prpUnknownCount 0)).event (Addr.prpEvents 0) 2).prpDeliver p body
  | (some e, s) =>
    let s := s.inc (Addr.classEntry e 5)
    match s.prpApply (s.field (Addr.classEntry e 3) 0 9) q with
    | (true, s) => s.prpDeliver p body
    | (false, s) => s

/-- R300: a frame, without its FCS, ends at a station input while PRP is enabled; `good` when its FCS is right. -/
def execPrpFrameReceive (p : Fin 2) (bytes : List Byte) (good : Bool) (s : State) : Host.Outcome State Fault Refusal :=
  if !s.start.logicUp then .next s else
  if !s.prpOn || !s.enabled .switch || !(s.sta p.val).link then .next s
  else if !good then .next (s.inc (Addr.staRxFcsErrCount p.val))
  else
    match s.macTakes p.val bytes with
    | (false, s) => .next s
    | (true, s) =>
      let s := s.inc (Addr.staRxFrames p.val)
      match rctRead bytes with
      | some (q, lan) => .next (s.prpAccept p.val bytes q lan)
      | none => .next (s.prpDeliver p.val bytes)

/-- A supervision frame without its RCT (R301): TLV 20 names the node's address (log entry 62). -/
def State.supervisionBytes (s : State) : List Byte :=
  let mac := bytesBE [word (s.field (Addr.prpMacHi 0) 0 16)] |>.drop 2
  let mac := mac ++ bytesBE [s.reg (Addr.prpMacLo 0)]
  let body := [0x01, 0x15, 0x4E, 0x00, 0x01, BitVec.ofNat 8 (s.field (Addr.prpMacHi 0) 16 8)] ++ mac
    ++ beBytes 2 0x88FB ++ beBytes 2 1 ++ beBytes 2 s.prp.supSeq.toNat ++ [20, 6] ++ mac ++ [0, 0]
  body ++ List.replicate (60 - body.length) 0

/-- R301: a supervision frame leaves both ports, each copy with its RCT. -/
def execPrpSupervisionSend (s : State) : Host.Outcome State Fault Refusal :=
  if !s.start.logicUp then .next s else
  if s.prpOn && s.flag (Addr.prpCtrl 0) 1 then
    let b := s.supervisionBytes
    let q := BitVec.ofNat 16 (s.field (Addr.prpTxSeq 0) 0 16)
    let s := s.setReg (Addr.prpTxSeq 0) (word ((q.toNat + 1) % 65536))
    let s := { s with prp := { s.prp with supSeq := s.prp.supSeq + 1 } }
    .next (s.each [0, 1] fun s p =>
      if (s.sta p).link then (s.ethSend p (b ++ rctOf p q b) false).inc (Addr.staTxFrames p)
      else s.inc (Addr.staTxDiscardCount p))
  else .next s

end Sys2Proof.Machine
end

