-- ==== Sys2Proof/Machine/CoreBase.lean ====
section
/-! DEFINITION. The service cores below the register interface (R307, R315, R321 to R330): registers, the return stack,
exceptions, interrupts, halting, and the registers of the control block. -/

namespace Sys2Proof.Machine

def State.core (s : State) (n : Nat) : CoreState := Store.get {} s.cores n
def State.setCore (s : State) (n : Nat) (x : CoreState) : State := { s with cores := Store.put {} s.cores n x }

def coreUnit (n : Nat) : HubUnit := .core (fin 3 n)

/-- General register `r` of core `n`: g0 reads as zero (R307). -/
def State.greg (s : State) (n : Nat) (r : Reg) : Word := if r = 0 then 0 else s.reg (Addr.svcGreg n r.toNat)

/-- A write of general register `r`: one to g0 is discarded. -/
def State.setGreg (s : State) (n : Nat) (r : Reg) (v : Word) : State :=
  if r = 0 then s else s.setReg (Addr.svcGreg n r.toNat) v

def State.corePc (s : State) (n : Nat) : Word := s.reg (Addr.svcPc n)
def State.setCorePc (s : State) (n : Nat) (v : Word) : State := s.setReg (Addr.svcPc n) v

/-- Bits of CTX (R322). -/
def State.ctxBit (s : State) (n i : Nat) : Bool := s.flag (Addr.svcSreg n 0) i
def State.setCtxBit (s : State) (n i : Nat) (b : Bool) : State := s.setFlag (Addr.svcSreg n 0) i b

/-- The queues that raise IPEND.QUEUE: one that SVC_QMASK enables has a word available (R323). -/
def State.queuePending (s : State) (n : Nat) : Bool :=
  (List.range 64).any fun q =>
    (if q < 32 then s.flag (Addr.svcQmaskLo n) q else s.flag (Addr.svcQmaskHi n) (q - 32)) && s.qAvail q

/-- IPEND (R322, R323). -/
def State.ipend (s : State) (n : Nat) : Word := setBit (s.reg (Addr.svcSreg n 7)) 2 (s.queuePending n)

/-- The interrupts pending and unmasked, lowest first (R324). -/
def State.interrupts (s : State) (n : Nat) : List Nat := onesOf 6 ((s.ipend n) &&& (s.reg (Addr.svcSreg n 6))).toNat

/-- Cycles counted since the unit reset, halts excluded (R322). -/
def State.coreCycles (s : State) (n : Nat) : Nat :=
  let x := s.core n
  x.cycles + (if x.sync = .halted then 0 else s.now - x.since)

/-- The core halts for a reason (R326, R330). -/
def State.coreHalt (s : State) (n reason : Nat) : State :=
  let s := s.dropFence (.core (fin 3 n))
  let s := s.setCore n { s.core n with
    sync := .halted, reason := reason, stall := 0, cycles := s.coreCycles n, since := s.now, stepping := false,
    haltDue := false }
  s.events (Addr.svcEvents n) (if reason = 2 ∨ reason = 3 ∨ reason = 4 then 3 else 1)

/-- The core runs from its PC (R327); the instruction there is not matched against the breakpoints (R328). -/
def State.coreRun (s : State) (n : Nat) (step : Bool) : State :=
  let x := s.core n
  if x.sync = .halted && s.enabled (coreUnit n) then
    s.setCore n { x with sync := .running, stall := 0, since := s.now, kicked := s.now, skipBp := true, stepping := step }
  else s

/-- An instruction boundary: STEP and a waiting HALT end here (R327). -/
def State.coreBoundary (s : State) (n : Nat) : State :=
  let x := s.core n
  let s := s.setCore n { x with sync := .running, stall := 0, skipBp := false }
  if x.haltDue then s.coreHalt n 1 else if x.stepping then s.coreHalt n 4 else s

/-- Trap entry (R324): the resume address, TRAPCODE and the vector; while INTRAP is 1 the core halts with reason 5. -/
def State.coreTrap (s : State) (n : Nat) (rpc code vector : Word) : State :=
  if s.ctxBit n 2 then (s.event (Addr.svcEvents n) 2).coreHalt n 5
  else
    let s := s.setReg (Addr.svcSreg n 1) rpc
    let s := ((s.setCtxBit n 1 (s.ctxBit n 0)).setCtxBit n 0 false).setCtxBit n 2 true
    let s := s.setReg (Addr.svcSreg n 2) code
    (s.setCorePc n (s.reg (Addr.svcSreg n 5) + vector)).coreBoundary n

/-- An exception of code `c` at `rpc` (R321, R324). -/
def State.coreException (s : State) (n : Nat) (rpc : Word) (c : Nat) (imprecise : Bool := false) : State :=
  s.coreTrap n rpc (word (c + ofBool imprecise * 16)) (word (c * 0x20))

/-- An exception that loads TRAPADDR and TRAPADDR_HI (R321, R322). -/
def State.coreExceptionAt (s : State) (n : Nat) (rpc : Word) (c : Nat) (a : FabricAddr) (cause : Nat)
    (imprecise : Bool := false) : State :=
  if s.ctxBit n 2 then s.coreException n rpc c imprecise
  else
    let s := s.setReg (Addr.svcSreg n 3) (word a.toNat)
    (s.setReg (Addr.svcSreg n 4) (word (bits a 32 16 + cause * 2 ^ 16))).coreException n rpc c imprecise

/-- An interrupt of bit `b` with its resume address (R324). -/
def State.coreInterrupt (s : State) (n : Nat) (rpc : Word) (b : Nat) : State :=
  s.coreTrap n rpc (word (2 ^ 31 + b * 2 ^ 8)) (word (0x200 + b * 0x20))

/-- A push on the return stack; `none` when it is full (R315). -/
def State.corePush (s : State) (n : Nat) (v : Word) : Option State :=
  let x := s.core n
  if x.rstack.length < 16 then some (s.setCore n { x with rstack := v :: x.rstack }) else none

/-- A pop from the return stack; `none` when it is empty. -/
def State.corePop (s : State) (n : Nat) : Option (Word × State) :=
  let x := s.core n
  match x.rstack with
  | [] => none
  | v :: r => some (v, s.setCore n { x with rstack := r })

/-- CORE_ID (R322). -/
def State.coreId (s : State) (n : Nat) : Word := word (n + s.node.toNat * 2 ^ 8 + s.ringNo.toNat * 2 ^ 16)

/-- The value of special register `i`, without the effects of reading it (R322). -/
def State.sregValue (s : State) (n i : Nat) : Word :=
  match i with
  | 7 => s.ipend n
  | 8 => word (s.coreCycles n)
  | 9 => word (s.coreCycles n / 2 ^ 32)
  | 13 => s.coreId n
  | 14 => 0
  | 16 => word (s.core n).rstack.length
  | 17 => (s.core n).rstack.headD 0
  | i => s.reg (Addr.svcSreg n i)

/-- A write of special register `i`, other than RS_TOP and the read-only ones (R322, R323, R329). -/
def State.sregWrite (s : State) (n i : Nat) (v : Word) : State :=
  let a := Addr.svcSreg n i
  match i with
  | 0 =>
    let old := s.reg a
    s.setReg a (setBits (setBits old 0 2 (bits v 0 2)) 3 2 (bits (old &&& v) 3 2))
  | 5 => s.setReg a (v &&& 0x0001_FC00)
  | 6 => s.setReg a (v &&& 0x3F)
  | 7 => s.setReg a (s.reg a &&& v)
  | 11 => (s.setReg a v).setCore n { s.core n with timerArmed := true }
  | 12 => s.setReg a (v &&& 0xFFFF)
  | 14 => s.setCore n { s.core n with kicked := s.now }
  | 15 => s.setReg a (s.reg a &&& v)
  | i => if sregReadOnly i then s else s.setReg a v

/-- SVC_SREG_17 by another initiator while the core is HALTED (R315). -/
def State.rsTopWrite (s : State) (n : Nat) (v : Word) : State :=
  let x := s.core n
  s.setCore n { x with rstack := v :: x.rstack.drop 1 }

/-- SVC_CMD (R327): HALT wins over STEP, and STEP over START. A stall that R325 abandons is left at its instruction. -/
def State.svcCmd (s : State) (n : Nat) (v : Word) : State :=
  let x := s.core n
  if bit v 1 then
    if x.sync = .halted then s
    else if x.sync = .stalled && !(x.stall == 1 || x.stall == 2 || x.stall == 4) then s.setCore n { x with haltDue := true }
    else s.coreHalt n 1
  else if bit v 2 then s.coreRun n true
  else if bit v 0 then s.coreRun n false
  else s

/-- A write into the control block of core `n` other than UNIT_CTRL, by an initiator (R323, R328, R330). -/
def State.svcWrite (s : State) (i : Initiator) (n a : Nat) (v : Word) : State :=
  let halted := (s.core n).sync == .halted
  if a = Addr.svcEvents n then s.sqWrite a v
  else if a = Addr.svcCmd n then s.svcCmd n v
  else if a = Addr.svcDoorbell n then
    let s := s.plainWrite a v
    if i = .core (fin 3 n) then s else s.pend n 1
  else if a = Addr.svcPc n ∨ (Addr.svcGreg n 0 < a ∧ a < Addr.svcSreg n 0) then (if halted then s.plainWrite a v else s)
  else if a = Addr.svcGreg n 0 then s
  else if Addr.svcSreg n 0 ≤ a ∧ a < Addr.svcBpAddr n 0 then
    let k := (a - Addr.svcSreg n 0) / 4
    if !halted then s else if k = 17 then s.rsTopWrite n v else s.sregWrite n k v
  else s.plainWrite a v

/-- SVC_STATUS (R330). -/
def State.svcStatusWord (s : State) (n : Nat) : Word :=
  let x := s.core n
  let st : Nat := match x.sync with | .halted => 0 | .running => 1 | .stalled => 2 | .waiting => 3
  word (st + x.reason * 2 ^ 4 + x.stall * 2 ^ 8 + ofBool (s.ctxBit n 2) * 2 ^ 11 + ofBool (s.ctxBit n 0) * 2 ^ 12)

/-- What a read of the control block shows instead of the stored word. -/
def State.svcView (s : State) (n a : Nat) : Option Word :=
  if a = Addr.svcStatus n then some (s.svcStatusWord n)
  else if a = Addr.svcCycleLo n then some (word (s.coreCycles n))
  else if a = Addr.svcCycleHi n then some (word (s.coreCycles n / 2 ^ 32))
  else if a = Addr.svcGreg n 0 then some 0
  else if Addr.svcSreg n 0 ≤ a ∧ a < Addr.svcBpAddr n 0 then some (s.sregValue n ((a - Addr.svcSreg n 0) / 4))
  else none

/-- The Ephemeris asserts signal `es` to the cores (R323). -/
def State.assertEsCores (s : State) (es : Nat) : State :=
  s.each (List.range 4) fun s n =>
    if s.flag (Addr.svcEsmask n) es then (s.pend n 3).setFlag (Addr.svcSreg n 15) es true else s

/-- INITIATOR memory target: IMEM 1, DMEM 2 (R446). -/
def coreRamTarget (off : Nat) : Nat := if off < 0x2_0000 then 1 else 2

/-- A word of the memories of core `n` is written at window offset `off` (R309, R310). -/
def State.coreRamWrite (s : State) (n off : Nat) (v : Word) : State :=
  let a := Addr.coreRam n + off
  ({ s with mem := Memory.setWord s.mem a v }).eccStore (coreRamTarget off) n a

/-- A word of the memories of core `n` is read, with its error reports; `none` is an uncorrectable error (R309). -/
def State.coreRamRead (s : State) (n off : Nat) : Word × Bool × State :=
  let a := Addr.coreRam n + off
  (Memory.word s.mem a, Store.get 0 s.ecc a == 2, s.eccLoad (coreUnit n) a)

/-- R309: the scrubber reads a word of a core memory. -/
def execMemoryScrubRead (n : Fin 4) (addr : Nat) (s : State) : Host.Outcome State Fault Refusal :=
  if !s.start.logicUp then .next s else
  if addr % 4 = 0 ∧ addr < 0x6_0000 then .next (s.coreRamRead n.val addr).2.2 else .next s

/-- R323: fabric time reaches the armed TIMER. -/
def execSvcTimerCompare (n : Fin 4) (s : State) : Host.Outcome State Fault Refusal :=
  if !s.start.logicUp then .next s else
  let x := s.core n.val
  let t := (s.reg (Addr.svcSreg n.val 10)).toNat + (s.reg (Addr.svcSreg n.val 11)).toNat * 2 ^ 32
  if x.timerArmed && decide (t ≤ s.timeNs) then
    .next ((s.setCore n.val { x with timerArmed := false }).pend n.val 0)
  else .next s

/-- R329: TIMEOUT µs have passed since the watchdog's last restart. -/
def execWatchdog (n : Fin 4) (s : State) : Host.Outcome State Fault Refusal :=
  if !s.start.logicUp then .next s else
  let x := s.core n.val
  let t := s.field (Addr.svcWdog n.val) 0 16
  if x.sync != .halted && t != 0 && s.elapsed x.kicked (cyclesUs t) then
    .next (((s.event (Addr.svcEvents n.val) 3).raise (coreUnit n.val) .watchdog 0 none).unwait (.core n) |>.coreHalt n.val 6)
  else .next s

/-- An enabled breakpoint matches the PC (R328). -/
def State.bpMatch (s : State) (n : Nat) : Bool :=
  !(s.core n).skipBp && (List.range 4).any fun b => s.flag (Addr.svcBpCtrl n b) 0 && s.reg (Addr.svcBpAddr n b) == s.corePc n

/-- R328: the address of the next instruction matches a breakpoint. -/
def execBreakpointHit (n : Fin 4) (s : State) : Host.Outcome State Fault Refusal :=
  if !s.start.logicUp then .next s else
  if (s.core n.val).sync == .running && s.bpMatch n.val then .next (s.coreHalt n.val 2) else .next s

/-- A posted store's bus error has returned: the exception at this boundary (R321). -/
def State.coreImprecise (s : State) (n : Nat) : State :=
  let x := s.core n
  match x.badStores with
  | [] => s
  | a :: r =>
    (s.setCore n { x with badStores := r }).coreExceptionAt n (s.corePc n) 4 (BitVec.ofNat 48 a.toNat) 0 true

/-- R321: an imprecise ACCESS at the next boundary, or at the FENCE.L that waits for the store. -/
def execImpreciseAccessException (n : Fin 4) (s : State) : Host.Outcome State Fault Refusal :=
  if !s.start.logicUp then .next s else
  let x := s.core n.val
  if !x.badStores.isEmpty && (x.sync == .running || (x.sync == .stalled && x.stall == 4)) then .next (s.coreImprecise n.val)
  else .next s

/-- Stalls that an interrupt abandons (R325). -/
def CoreState.abandons (x : CoreState) : Bool := x.sync == .stalled && (x.stall == 1 || x.stall == 2 || x.stall == 4)

/-- Take the lowest pending interrupt at the present boundary; a WFE that waits ends with it (R318, R324, R325). -/
def State.takeInterrupt (s : State) (n : Nat) : State :=
  let x := s.core n
  match s.interrupts n with
  | [] => s
  | b :: _ =>
    if s.ctxBit n 0 && !s.ctxBit n 2 then
      let s := s.dropFence (.core (fin 3 n))
      if x.sync == .waiting then s.coreInterrupt n (s.corePc n + 4) b else s.coreInterrupt n (s.corePc n) b
    else s

/-- R324: interrupt entry. -/
def execInterruptEntry (n : Fin 4) (s : State) : Host.Outcome State Fault Refusal :=
  if !s.start.logicUp then .next s else
  let x := s.core n.val
  if (x.sync == .running && !s.bpMatch n.val && x.badStores.isEmpty) || x.sync == .waiting || x.abandons then
    .next (s.takeInterrupt n.val)
  else .next s

end Sys2Proof.Machine
end

