-- ==== Sys2Proof/Machine/Dram.lean ====
section
/-! DEFINITION. The DRAM controller (R343 to R347): bring-up, errors and its registers. Its contents are read and written
by the capture channels and by space 2. -/

namespace Sys2Proof.Machine

/-- Fabric address under which a DRAM error is recorded: space 2 of this node (R345). -/
def State.dramFabric (s : State) (addr : Nat) : FabricAddr := fabricAddr s.ringNo.toNat s.node.toNat 2 addr

/-- The controller starts with the configuration `cfg` (R344, R347): after a logic reset, once start-up has written DRAM_CFG,
or after a unit reset. -/
def State.dramStart (s : State) (cfg : Word) : State :=
  { s with dram := { sync := if bit cfg 0 then .init else .absent, failStep := 0, cfg := cfg } }

/-- Memory without the bytes of the DRAM: every DRAM word is zero. -/
def Memory.clearDram (m : Memory) : Memory := m.filter fun e => !decide (dramBase ≤ e.1 ∧ e.1 < dramBase + 2 ^ 34)

/-- Bring-up fails at a step (R344). -/
def State.dramFail (s : State) (step : Nat) : State :=
  ({ s with dram := { s.dram with sync := .failed, failStep := step } }.event Addr.dramEvents 3).raise .dram .eccUncorr 32
    none

/-- R344: reset and initialisation are complete. -/
def execDramInitComplete (s : State) : Host.Outcome State Fault Refusal :=
  if !s.start.logicUp then .next s else
  if s.dram.sync == .init then .next { s with dram := { s.dram with sync := .training } } else .next s

/-- R344: training is complete on every byte lane. -/
def execDramTrainingComplete (s : State) : Host.Outcome State Fault Refusal :=
  if !s.start.logicUp then .next s else
  if s.dram.sync == .training then .next { s with dram := { s.dram with sync := .fill } } else .next s

/-- R344: every word has been written with zeros; `ok` when no error was found. -/
def execDramFillComplete (ok : Bool) (s : State) : Host.Outcome State Fault Refusal :=
  if !s.start.logicUp then .next s else
  if s.dram.sync == .fill then
    if ok then
      .next ({ s with dram := { s.dram with sync := .ready }, mem := Memory.clearDram s.mem }.event Addr.dramEvents 2)
    else .next (s.dramFail 7)
  else .next s

/-- R344: 20 ms without completion, or a step that finds no passing setting. -/
def execDramBringupFail (failStep : Fin 8) (s : State) : Host.Outcome State Fault Refusal :=
  if !s.start.logicUp then .next s else
  if s.dram.sync == .init || s.dram.sync == .training || s.dram.sync == .fill then .next (s.dramFail failStep.val)
  else .next s

/-- A read of DRAM finds `n` bits in error (R345): 1 is corrected and written back. -/
def State.dramError (s : State) (addr n : Nat) : State :=
  if n = 0 then s
  else
    let s := (s.setReg Addr.dramEccAddrLo (word addr)).setReg Addr.dramEccAddrHi (word (addr / 2 ^ 32 % 4))
    if n = 1 then
      ((s.inc Addr.dramCorrCount).event Addr.dramEvents 0).raise .dram .eccCorr 0 (some (s.dramFabric addr))
    else ((s.inc Addr.dramUncorrCount).event Addr.dramEvents 1).raise .dram .eccUncorr 0 (some (s.dramFabric addr))

/-- R345: the scrubber reads the word at `addr`, in which `bits` bits are in error. -/
def execDramScrubRead (addr : Nat) (bits : Fin 3) (s : State) : Host.Outcome State Fault Refusal :=
  if !s.start.logicUp then .next s else
  if s.dram.sync == .ready && s.field Addr.dramScrub 0 16 != 0 && decide (addr < s.dramSize) then
    .next (s.dramError addr bits.val)
  else .next s

/-- A write into the DRAM block other than UNIT_CTRL. -/
def State.dramWrite (s : State) (a : Nat) (v : Word) : State :=
  if a = Addr.dramEvents then s.sqWrite a v else s.plainWrite a v

/-- DRAM_STATUS (R347). -/
def State.dramStatus (s : State) : Word :=
  let st : Nat := match s.dram.sync with
    | .absent => 0 | .init => 1 | .training => 2 | .fill => 3 | .ready => 4 | .failed => 5
  word (st + s.dram.failStep * 16 + s.dramSize / 2 ^ 28 * 2 ^ 16)

/-- What a read of a DRAM word shows instead of the stored word. -/
def State.dramView (s : State) (a : Nat) : Option Word := if a = Addr.dramStatus then some s.dramStatus else none

end Sys2Proof.Machine
end

