-- ==== Sys2Proof/Machine/Power.lean ====
section
/-! DEFINITION. The power die: card feeds, output groups, trip memory and thermal sensors (chapter 16). A command that
names an event of the power path carries what is measured then; its expiry commands are the expiry. -/

namespace Sys2Proof.Machine

def State.feed (s : State) (f : Nat) : FeedState := Store.get {} s.power.feeds f
def State.setFeed (s : State) (f : Nat) (x : FeedState) : State :=
  { s with power := { s.power with feeds := Store.put {} s.power.feeds f x } }

def State.group (s : State) (g : Nat) : GroupState := Store.get {} s.power.groups g
def State.setGroup (s : State) (g : Nat) (x : GroupState) : State :=
  { s with power := { s.power with groups := Store.put {} s.power.groups g x } }

def State.sensor (s : State) (k : Nat) : Sensor := Store.get {} s.power.sensors k
def State.setSensor (s : State) (k : Nat) (x : Sensor) : State :=
  { s with power := { s.power with sensors := Store.put {} s.power.sensors k x } }

/-- CLOCK periods in 10 ms and in 0.1 s. -/
def periods10ms : Nat := 4_000_000
def periods100ms : Nat := 40_000_000

/-- UV_FALL + 1 V of a feed, in 10 mV (R377, R394). -/
def State.feedRise (s : State) (f : Nat) : Nat := 50 * clamp 32 140 (s.field (Addr.feedCtrl f) 8 8) + 100

/-- The units of a feed, a group and a sensor. -/
def feedUnit (f : Nat) : HubUnit := .feed (fin 1 f)
def groupUnit (g : Nat) : HubUnit := .group (fin 7 g)
def sensorUnit (k : Nat) : HubUnit := .therm (fin 3 k)

/-- Feed `f` with voltage `v` may be selected: EN is 1 and it is above UV_FALL + 1 V. -/
def State.feedFit (s : State) (f v : Nat) : Bool := s.enabled (feedUnit f) && decide (s.feedRise f < v)

/-- MODE 1, priority, and the preferred feed (R379, R394). -/
def State.priority (s : State) : Bool := s.flag (Addr.pwrFeedMode 0) 0
def State.preferred (s : State) : Nat := s.field (Addr.pwrFeedMode 0) 1 1

/-- A feed's switch conducts. -/
def FeedState.conducts (x : FeedState) : Bool := x.sync == .ramp || x.sync == .on

/-- Some card feed is ON (R384). -/
def State.feedOn (s : State) : Bool := (s.feed 0).sync == .on || (s.feed 1).sync == .on

/-- A feed moves to a state; entering ON or OFF sets its event (R394). -/
def State.feedTo (s : State) (f : Nat) (st : FeedSync) : State :=
  let x := s.feed f
  let t := s.setFeed f { x with sync := st }
  if x.sync == st then t
  else match st with
    | .on => t.event (Addr.feedEvents f) 0
    | .off => t.event (Addr.feedEvents f) 1
    | .uv => t.event (Addr.feedEvents f) 2
    | _ => t

/-- The voltage of a feed as measured now, in 10 mV. -/
def State.feedVolt (s : State) (f v : Nat) : State := s.setFeed f { s.feed f with voltage := v }

/-- The power die lowers LOGIC_EN (R499). -/
def State.lowerLogic (s : State) : State := { s with power := { s.power with logicEn := false } }

/-- The present COMET edge: a period is 30.517578125 µs (R411). -/
def State.cometEdge (s : State) : Nat := s.clock * 32 / 390625

/-- A wake source fires: its flag, and FIRST with the lowest code of this COMET edge (R415, R469). -/
def State.wakeMark (s : State) (flag code : Nat) : State :=
  let old := s.field Addr.cometWakeInfo 0 3
  let first := if s.comet.wokeAt == some s.cometEdge && old != 0 then min old code else code
  let s := (s.event Addr.cometWakeStatus flag).event Addr.cometMgmtEvents 1
  { s.setField Addr.cometWakeInfo 0 3 first with comet := { s.comet with wokeAt := some s.cometEdge } }

/-- A hibernating hub wakes: a start follows (R416). -/
def State.wakeStart (s : State) : State :=
  let s := s.event Addr.globalResetCause 6
  { s with
    comet := { s.comet with power := .starting }
    power := { s.power with logicEn := true }
    start := { s.start with phase := 2 } }

/-- The power die raises LOGIC_EN and the logic die starts with phase 2 (R377, R400), while the always-on supply is
present (R482); a hub that hibernates wakes by the source FEED (R415). -/
def State.feedStart (s : State) : State :=
  if s.power.logicEn || !s.comet.vaon then s
  else if s.comet.power == .hibernate then (s.wakeMark 5 6).wakeStart
  else { s with power := { s.power with logicEn := true }, start := { s.start with phase := 2 } }

/-- R377: ENABLE rises. -/
def execEnableRise (s : State) : Host.Outcome State Fault Refusal :=
  .next { s with power := { s.power with enable := true } }

/-- R377 steps 2 and 3: the feeds that qualify pass WAIT and ramp; in priority mode the preferred one only, or else the
other. -/
def execFeedEnableQualified (va vb : Half) (s : State) : Host.Outcome State Fault Refusal :=
  if !s.power.enable || s.power.qualified then .next s
  else
    let s := { s with power := { s.power with qualified := true } }
    let s := (s.feedVolt 0 va.toNat).feedVolt 1 vb.toNat
    let fit (f : Nat) : Bool := s.feedFit f (s.feed f).voltage
    let p := s.preferred
    let sel :=
      if s.priority then if fit p then [p] else if fit (1 - p) then [1 - p] else []
      else [0, 1].filter fit
    .next (s.each sel fun s f => s.feedTo f .ramp)

/-- R377 steps 4 and 5: the card rail is within 0.5 V of the feed. -/
def execFeedRampComplete (f : Fin 2) (v : Half) (s : State) : Host.Outcome State Fault Refusal :=
  let s := s.feedVolt f.val v.toNat
  if (s.feed f.val).sync == .ramp then .next ((s.feedTo f.val .on).feedStart) else .next s

/-- A group moves to OFF (R383). -/
def State.groupOff (s : State) (g : Nat) : State :=
  let x := s.group g
  if x.sync == .off then s
  else (s.setGroup g { x with sync := .off }).event (Addr.grpEvents g) 1

/-- Every group moves to OFF. -/
def State.groupsOff (s : State) : State := s.each (List.range 8) State.groupOff

/-- A group in RAMP, ON or LIMITING. -/
def GroupState.live (x : GroupState) : Bool := x.sync == .ramp || x.sync == .on || x.sync == .limiting

/-- The link-loss hold has ended: groups in RAMP, ON or LIMITING go to OFF (R26, R391). -/
def State.groupsRelease (s : State) : State :=
  s.each (List.range 8) fun s g => if (s.group g).live then s.groupOff g else s

/-- R377, R499: ENABLE falls: feeds and groups off, any switchover abandoned, LOGIC_EN low. -/
def execEnableFall (s : State) : Host.Outcome State Fault Refusal :=
  let s := { s with power := { s.power with enable := false, qualified := false, dead := none } }
  .next (((s.feedTo 0 .off).feedTo 1 .off).groupsOff).lowerLogic

/-- R378: the reverse turn-off of an ON feed; FEED_REVERSE at most once per second. -/
def execFeedReverseTurnoff (f : Fin 2) (v : Half) (s : State) : Host.Outcome State Fault Refusal :=
  let s := s.feedVolt f.val v.toNat
  if (s.feed f.val).sync != .on then .next s
  else
    let s := ((s.feedTo f.val .blocked).event (Addr.feedEvents f.val) 3).inc (Addr.feedReverseCount f.val)
    let due := match (s.feed f.val).told with
      | none => true
      | some t => decide (t + 10 * periods100ms ≤ s.clock)
    if due then
      .next ((s.setFeed f.val { s.feed f.val with told := some s.clock }).raise (feedUnit f.val) .feedReverse)
    else .next s

/-- R378: a BLOCKED feed is 50 mV above the card rail again. -/
def execFeedReverseRecover (f : Fin 2) (v : Half) (s : State) : Host.Outcome State Fault Refusal :=
  let s := s.feedVolt f.val v.toNat
  if (s.feed f.val).sync == .blocked then .next (s.feedTo f.val .on) else .next s

/-- R380: a feed has stayed below UV_FALL for 10 µs. -/
def execFeedUv (f : Fin 2) (v : Half) (s : State) : Host.Outcome State Fault Refusal :=
  let s := s.feedVolt f.val v.toNat
  if !s.power.qualified || !s.enabled (feedUnit f.val) || (s.feed f.val).sync == .uv then .next s
  else
    let sev : Severity := if (s.feed (1 - f.val)).sync == .on then .degraded else .major
    .next ((s.feedTo f.val .uv).raiseAs (feedUnit f.val) .feedUv sev 0 none)

/-- R380: a feed has stayed above UV_FALL + 1 V for 10 ms; `rail` is the card rail. In priority mode it is selected only
under R379. -/
def execFeedUvRecover (f : Fin 2) (v rail : Half) (s : State) : Host.Outcome State Fault Refusal :=
  let s := s.feedVolt f.val v.toNat
  let st := (s.feed f.val).sync
  if !s.power.qualified || !s.feedFit f.val v.toNat || !(st == .uv || st == .off) then .next s
  else if s.priority then .next (s.setFeed f.val { s.feed f.val with sync := .off })
  else if rail.toNat + 200 < v.toNat then .next (s.feedTo f.val .ramp)
  else if v.toNat + 1 ≤ rail.toNat then .next (s.feedTo f.val .blocked)
  else .next (s.feedTo f.val .on)

/-- R379: the conducting feed falls below UV_FALL, or its reverse turn-off has acted; it is off and DEAD begins. -/
def execFeedSwitchoverStart (f : Fin 2) (s : State) : Host.Outcome State Fault Refusal :=
  if s.priority && s.power.qualified && ((s.feed f.val).conducts || (s.feed f.val).sync == .blocked) then
    let s := (s.feedTo f.val .off).event (Addr.feedEvents f.val) 4
    .next { s with power := { s.power with dead := some (fin 1 (1 - f.val)) } }
  else .next s

/-- R379: DEAD has elapsed; the other feed is turned on, without slew, if it qualifies. -/
def execFeedDeadTimeEnd (v : Half) (s : State) : Host.Outcome State Fault Refusal :=
  match s.power.dead with
  | none => .next s
  | some f =>
    let s := ({ s with power := { s.power with dead := none } }).feedVolt f.val v.toNat
    if s.feedFit f.val v.toNat then .next (s.feedTo f.val .on) else .next s

/-- R379: the preferred feed has held for RETURN_HOLD: the other feed is turned off and DEAD begins. -/
def execFeedReturnHoldEnd (v : Half) (s : State) : Host.Outcome State Fault Refusal :=
  let p := s.preferred
  let s := s.feedVolt p v.toNat
  if s.priority && s.power.qualified && !(s.feed p).conducts && s.feedFit p v.toNat then
    let s :=
      if (s.feed (1 - p)).conducts then (s.feedTo (1 - p) .off).event (Addr.feedEvents (1 - p)) 4 else s
    .next { s with power := { s.power with dead := some (fin 1 p) } }
  else .next s

/-- EN 0 turns a feed off, unless it is the only feed ON, when EN keeps 1 and REFUSED is set (R382). -/
def State.feedDisable (s : State) (f : Nat) : State :=
  if (s.feed f).sync == .on && (s.feed (1 - f)).sync != .on then s.event (Addr.feedEvents f) 5
  else
    let s := s.setFlag (Addr.feedUnitCtrl f) 0 false
    if (s.feed f).sync == .off then s else s.feedTo f .off

/-- The register words of the power die. -/
def powerReg (a : Nat) : Bool := decide (0xA0_0000 ≤ a ∧ a < 0xA1_0000)

/-- R376, R389: both feeds are below 12.0 V. POWER registers return to reset, PRIO_SEL and TMEM (in mV) are read, every
switch is off, the die link is lost and the records the power die holds with it. -/
def execPowerDieReset (prio : Bool) (tmem : Half) (s : State) : Host.Outcome State Fault Refusal :=
  let s := { s with
    regs := s.regs.filter fun e => !powerReg e.1
    guards := s.guards.filter fun e => !powerReg e.1
    power :=
      { enable := s.power.enable, logicEn := false, prio := prio,
        block := if 25 ≤ tmem.toNat then some (2 * tmem.toNat, s.clock) else none }
    dieLink := { up := false }
    fault := { s.fault with powerHeld := [], powerLost := 0 } }
  let s := if prio then s.setFlag (Addr.pwrFeedMode 0) 0 true else s
  .next (s.event Addr.globalResetCause 1)

/-- PRIO_SEL's value of PWR_FEED_MODE after a unit reset of feed A (R376). -/
def State.loadPrio (s : State) : State := if s.power.prio then s.setFlag (Addr.pwrFeedMode 0) 0 true else s

/-- I_LIMIT × SHUNT lies within 2.5 mV to 25 mV; mA times µΩ are nV (R384). -/
def State.shuntOk (s : State) (g : Nat) : Bool :=
  let nv := s.field (Addr.grpLimit g) 0 16 * s.field (Addr.grpShunt g) 0 20
  decide (2_500_000 ≤ nv ∧ nv ≤ 25_000_000)

/-- A reason of R384, other than TRIPPED itself, refuses an ON command. -/
def State.groupBlocked (s : State) (g : Nat) : Bool :=
  (s.group g).interval || s.power.block.isSome || !s.enabled (groupUnit g) || s.power.shutdown || !s.feedOn
    || !s.shuntOk g

/-- A group reads as tripped: TRIPPED, or its retry interval runs on (R124, R383). -/
def State.groupTripped (s : State) (g : Nat) : Bool := (s.group g).sync == .tripped || (s.group g).interval

/-- An ON command at the power die (R384). -/
def State.groupOnCmd (s : State) (g : Nat) : State :=
  let x := s.group g
  if x.live then s
  else if x.sync == .tripped || s.groupBlocked g then s.event (Addr.grpEvents g) 6
  else s.setGroup g { x with sync := .ramp, retries := 0, noRetry := false }

/-- An OFF command at the power die (R383, R384). -/
def State.groupOffCmd (s : State) (g : Nat) : State :=
  let s := s.setGroup g { s.group g with noRetry := true }
  if (s.group g).live then s.groupOff g else s

/-- A command sets out for the power die (R384). -/
def State.groupSend (s : State) (g : Nat) (on : Bool) : State :=
  s.setGroup g { s.group g with cmds := (s.group g).cmds ++ [on] }

/-- Every output group is commanded OFF. -/
def State.groupsSendOff (s : State) : State := s.each (List.range 8) fun s g => s.groupSend g false

/-- I_LIMIT in mA, FT_MULT in 0.5, P_LIMIT in W, E_FAULT and E_CAP in mJ of a group (R395). -/
def State.iLimit (s : State) (g : Nat) : Nat := s.field (Addr.grpLimit g) 0 16
def State.ftMult (s : State) (g : Nat) : Nat := clamp 3 16 (s.field (Addr.grpCfg g) 8 5)
def State.pLimit (s : State) (g : Nat) : Nat :=
  let w := s.field (Addr.grpLimit g) 16 8
  if w = 0 ∨ 250 < w then 250 else w
def State.eFault (s : State) (g : Nat) : Nat := clamp 100 20000 (s.field (Addr.grpEnergy g) 0 16)
def State.eCap (s : State) (g : Nat) : Nat := clamp 1 20000 (s.field (Addr.grpEnergy g) 16 16)

/-- The current has reached I_LIMIT (R383, R386). -/
def State.atLimit (s : State) (g : Nat) (m : GroupMeas) : Bool := decide (s.iLimit g ≤ m.current.toNat)

/-- The current has reached FT_MULT × I_LIMIT (R386); GRP_MEAS.current ends at 65,535 mA, which stands for any current above
(log entry 122). -/
def State.atFastTrip (s : State) (g : Nat) (m : GroupMeas) : Bool :=
  decide (min 131070 (s.ftMult g * s.iLimit g) ≤ 2 * m.current.toNat)

/-- The limit of R387 is passed: 0 E_FAULT, 1 P_LIMIT, 2 E_CAP. -/
def State.limitPassed (s : State) (g : Nat) (limit : Fin 3) (m : GroupMeas) : Bool :=
  match limit.val with
  | 0 => decide (s.eFault g ≤ m.episode.toNat)
  | 1 => decide (100 * s.pLimit g < m.power.toNat)
  | _ => decide (s.eCap g ≤ m.ramp.toNat)

/-- V_OUT lies within 0.5 V of V_SUPPLY (R383). -/
def measRisen (m : GroupMeas) : Bool :=
  decide (m.supply.toNat ≤ m.vout.toNat + 50 ∧ m.vout.toNat ≤ m.supply.toNat + 50)

/-- A committed GRP_CMD: OFF wins over ON (R384). -/
def State.groupCommit (s : State) (g : Nat) (v : Word) : State :=
  if bit v 1 then s.groupSend g false else if bit v 0 then s.groupSend g true else s

/-- R384: the oldest command, if it is ON, reaches the power die over the die link (R26). -/
def execGrpOn (g : Fin 8) (s : State) : Host.Outcome State Fault Refusal :=
  if !s.dieLink.up then .next s else
  match (s.group g.val).cmds with
  | true :: r => .next ((s.setGroup g.val { s.group g.val with cmds := r }).groupOnCmd g.val)
  | _ => .next s

/-- R384: the oldest command, if it is OFF, reaches the power die over the die link (R26). -/
def execGrpOff (g : Fin 8) (s : State) : Host.Outcome State Fault Refusal :=
  if !s.dieLink.up then .next s else
  match (s.group g.val).cmds with
  | false :: r => .next ((s.setGroup g.val { s.group g.val with cmds := r }).groupOffCmd g.val)
  | _ => .next s

/-- The measurement words of a group (R393, R395). -/
def State.measure (s : State) (g : Nat) (m : GroupMeas) : State :=
  ((((((s.setReg (Addr.grpMeas g) (word (m.current.toNat + m.vout.toNat * 65536))).setReg (Addr.grpSupply g)
    (word m.supply.toNat)).setReg (Addr.grpPower g) (word m.power.toNat)).setReg (Addr.grpEnergyTotalLo g)
    (word m.total.toNat)).setReg (Addr.grpEnergyTotalHi g) (word (bits m.total 32 32))).setReg
    (Addr.grpEpisodeEnergy g) (word m.episode.toNat)).setReg (Addr.grpRampEnergy g) (word m.ramp.toNat)

/-- R383: V_OUT is within 0.5 V of V_SUPPLY. -/
def execGrpRampComplete (g : Fin 8) (m : GroupMeas) (s : State) : Host.Outcome State Fault Refusal :=
  let s := s.measure g.val m
  if (s.group g.val).sync == .ramp && measRisen m then
    .next ((s.setGroup g.val { s.group g.val with sync := .on }).event (Addr.grpEvents g.val) 0)
  else .next s

/-- RETRY of a group in 0.1 s (R395). -/
def State.retryTime (s : State) (g : Nat) : Nat := clamp 1 600 (s.field (Addr.grpTimer g) 20 10)

/-- Event flag and fault of a trip cause (R385 to R387, R395). -/
def tripKind (cause : Nat) : FaultKind × Nat :=
  match cause with
  | 1 => (.groupFastTrip, 2)
  | 2 => (.groupSlowTrip, 3)
  | 6 => (.shortDuringRamp, 5)
  | _ => (.groupEnergyLimit, 4)

/-- An entry to TRIPPED (R383, R389, R391). -/
def State.groupTrip (s : State) (g cause : Nat) : State :=
  let x := s.group g
  let s := s.setGroup g
    { x with sync := .tripped, cause := cause, noRetry := x.noRetry || s.dieLink.holding,
             ends := some (s.clock + s.retryTime g * periods100ms) }
  let k := tripKind cause
  ((s.inc (Addr.grpTripCount g)).event (Addr.grpEvents g) k.2).raise (groupUnit g) k.1 cause

/-- R385: a short, or a ramp timeout. -/
def execShortDuringRamp (g : Fin 8) (m : GroupMeas) (s : State) : Host.Outcome State Fault Refusal :=
  let s := s.measure g.val m
  if (s.group g.val).sync == .ramp then .next (s.groupTrip g.val 6) else .next s

/-- R383: an ON group with the slow breaker reaches I_LIMIT. -/
def execGrpLimitEnter (g : Fin 8) (m : GroupMeas) (s : State) : Host.Outcome State Fault Refusal :=
  let s := s.measure g.val m
  if (s.group g.val).sync == .on && !s.flag (Addr.grpCfg g.val) 0 && s.atLimit g.val m then
    .next (s.setGroup g.val { s.group g.val with sync := .limiting })
  else .next s

/-- R383: the current has stayed below I_LIMIT for 1 ms. -/
def execGrpLimitExit (g : Fin 8) (m : GroupMeas) (s : State) : Host.Outcome State Fault Refusal :=
  let s := s.measure g.val m
  if (s.group g.val).sync == .limiting && !s.atLimit g.val m then
    .next (s.setGroup g.val { s.group g.val with sync := .on })
  else .next s

/-- A group that is ON or LIMITING. -/
def GroupState.closed (x : GroupState) : Bool := x.sync == .on || x.sync == .limiting

/-- R386: FT_MULT × I_LIMIT is reached. -/
def execGroupFastTrip (g : Fin 8) (m : GroupMeas) (s : State) : Host.Outcome State Fault Refusal :=
  let s := s.measure g.val m
  if (s.group g.val).closed && s.atFastTrip g.val m then .next (s.groupTrip g.val 1) else .next s

/-- R386: the fault timer, which runs at I_LIMIT and above, reaches FAULT_TIME. -/
def execGroupSlowTrip (g : Fin 8) (m : GroupMeas) (s : State) : Host.Outcome State Fault Refusal :=
  let s := s.measure g.val m
  if (s.group g.val).closed && s.atLimit g.val m then .next (s.groupTrip g.val 2) else .next s

/-- R387: limit 0 E_FAULT, not in RAMP; 1 P_LIMIT, in every state that conducts; 2 E_CAP, in RAMP only. -/
def execGroupEnergyLimit (g : Fin 8) (limit : Fin 3) (m : GroupMeas) (s : State) : Host.Outcome State Fault Refusal :=
  let s := s.measure g.val m
  let x := s.group g.val
  let hit : Bool := match limit.val with
    | 0 => x.closed
    | 1 => x.live
    | _ => x.sync == .ramp
  if hit && s.limitPassed g.val limit m then .next (s.groupTrip g.val (3 + limit.val)) else .next s

/-- R388: RETRY has elapsed. The interval of a trip before a unit reset ends likewise (R383). -/
def execGrpRetryExpiry (g : Fin 8) (s : State) : Host.Outcome State Fault Refusal :=
  let x := s.group g.val
  if x.sync == .tripped then
    let s := (s.setGroup g.val { x with ends := none }).event (Addr.grpEvents g.val) 7
    if s.flag (Addr.grpCfg g.val) 1 && decide (x.retries < s.field (Addr.grpCfg g.val) 4 4) && !x.noRetry
        && !s.groupBlocked g.val then
      .next (s.setGroup g.val { s.group g.val with sync := .ramp, retries := x.retries + 1 })
    else .next (s.groupOff g.val)
  else if x.interval then .next (s.setGroup g.val { x with interval := false, ends := none })
  else .next s

/-- R388: 1 s of ON or LIMITING without a trip. -/
def execGrpRetriesClear (g : Fin 8) (s : State) : Host.Outcome State Fault Refusal :=
  if (s.group g.val).closed then .next (s.setGroup g.val { s.group g.val with retries := 0 }) else .next s

/-- EN 0 at a group: as an OFF command (R383). -/
def State.groupDisable (s : State) (g : Nat) : State :=
  (s.setFlag (Addr.grpUnitCtrl g) 0 false).groupOffCmd g

/-- The unit reset of a group: off, and a trip's interval runs on (R383). -/
def State.groupReset (s : State) (g : Nat) : State :=
  let x := s.group g
  let run := x.sync == .tripped || x.interval
  s.setGroup g { interval := run, ends := if run then x.ends else none, cmds := x.cmds }

/-- R389: the interval that the trip memory kept has elapsed. -/
def execTmemBlockEnd (s : State) : Host.Outcome State Fault Refusal :=
  .next { s with power := { s.power with block := none } }

/-- A sensor's thresholds in 0.1 °C (R396). -/
def State.warnAt (s : State) (k : Nat) : Int := Int.ofNat (10 * clamp 85 140 (s.field (Addr.thermCtrl k) 0 8))
def State.shutAt (s : State) (k : Nat) : Int := Int.ofNat (10 * clamp 110 150 (s.field (Addr.thermCtrl k) 8 8))

/-- R392: a sensor reaches WARN. -/
def execThermalWarn (k : Fin 4) (t : Half) (s : State) : Host.Outcome State Fault Refusal :=
  let x := { s.sensor k.val with temp := t }
  if !x.warn && decide (s.warnAt k.val ≤ t.toInt) then
    .next (((s.setSensor k.val { x with warn := true }).event (Addr.thermEvents k.val) 0).raiseAs (sensorUnit k.val)
      .overtemp .degraded 0 none)
  else .next (s.setSensor k.val x)

/-- R392: a sensor reaches SHUT; every group goes to OFF with cause 7. -/
def execThermalShut (k : Fin 4) (t : Half) (s : State) : Host.Outcome State Fault Refusal :=
  let x := { s.sensor k.val with temp := t }
  if !x.shut && decide (s.shutAt k.val ≤ t.toInt) then
    let s := ((s.setSensor k.val { x with shut := true }).event (Addr.thermEvents k.val) 1).raiseAs (sensorUnit k.val)
      .overtemp .major 0 none
    let s := { s with power := { s.power with shutdown := true } }
    .next ((s.groupsOff).each (List.range 8) fun s g => s.setGroup g { s.group g with cause := 7 })
  else .next (s.setSensor k.val x)

/-- R392: a sensor is 10 °C below a threshold; the shutdown ends when no sensor stands above SHUT. -/
def execThermalClear (k : Fin 4) (t : Half) (s : State) : Host.Outcome State Fault Refusal :=
  let x := { s.sensor k.val with temp := t }
  let w := x.warn && decide (s.warnAt k.val - 100 ≤ t.toInt)
  let h := x.shut && decide (s.shutAt k.val - 100 ≤ t.toInt)
  let cleared := (x.warn && !w) || (x.shut && !h)
  let s := s.setSensor k.val { x with warn := w, shut := h }
  let s := if cleared then s.event (Addr.thermEvents k.val) 2 else s
  let stands := (List.range 4).any fun k => (s.sensor k).shut
  .next { s with power := { s.power with shutdown := s.power.shutdown && stands } }

/-- R499: the card rail is below 12.0 V. -/
def execCardRailLoss (s : State) : Host.Outcome State Fault Refusal := .next s.lowerLogic

/-- FEED_STATUS (R394). -/
def State.feedStatus (s : State) (f : Nat) : Word :=
  let x := s.feed f
  let st := match x.sync with
    | .off => 0 | .wait => 1 | .ramp => 2 | .on => 3 | .blocked => 4 | .uv => 5
  word (st + ofBool x.conducts * 8 + x.voltage % 65536 * 65536)

/-- Units of 10 ms that remain of the trip memory's block. -/
def State.blockLeft (s : State) : Nat :=
  match s.power.block with
  | none => 0
  | some (n, t) => n - (s.clock - t) / periods10ms

/-- V_TMEM in mV: 50 mV/s over the longest interval that remains (R389). -/
def State.tmemMv (s : State) : Nat :=
  let left := (List.range 8).map fun g => match (s.group g).ends with
    | none => 0
    | some t => (t - s.clock) / periods10ms
  left.foldl max s.blockLeft / 2

/-- HEALTH_OUT conducts (R391); it is open until release (R399). -/
def State.healthOut (s : State) : Bool := s.dieLink.up && s.start.released && s.flag (Addr.pwrHealth 0) 0 && !s.power.shutdown

/-- PWR_STATUS (R394). -/
def State.pwrStatus (s : State) : Word :=
  word (ofBool s.dieLink.holding + ofBool s.healthOut * 2 + ofBool s.power.block.isSome * 4
    + ofBool s.power.enable * 8 + ofBool s.power.shutdown * 16)

/-- GRP_STATUS (R395). -/
def State.groupStatus (s : State) (g : Nat) : Word :=
  let x := s.group g
  let st := match x.sync with
    | .off => 0 | .ramp => 1 | .on => 2 | .limiting => 3 | .tripped => 4
  word (st + x.cause % 8 * 16 + x.retries % 16 * 256)

/-- THERM_STATUS (R396). -/
def State.thermStatus (s : State) (k : Nat) : Word :=
  let x := s.sensor k
  word (x.temp.toNat + ofBool x.warn * 2 ^ 16 + ofBool x.shut * 2 ^ 17)

/-- What a read of a POWER word shows instead of the stored word. -/
def State.powerView (s : State) (b : Block) (o : Nat) : Option Word :=
  match b with
  | .feed f =>
    if o = 0x14 then some (s.feedStatus f)
    else if o = 0x4C then some (word (s.blockLeft % 65536 + s.tmemMv % 65536 * 65536))
    else if o = 0x50 then some s.pwrStatus
    else none
  | .group g => if o = 0x14 then some (s.groupStatus g) else none
  | .therm k => if o = 0x14 then some (s.thermStatus k) else none
  | _ => none

end Sys2Proof.Machine
end

