-- ==== Sys2Proof/Machine/Can.lean ====
section
/-! DEFINITION. The CAN FD controllers (R165 to R179): states and fault confinement, filters and receive buffers,
transmission and cancel, sleep. -/

namespace Sys2Proof.Machine

def State.can (s : State) (n : Nat) : CanState := Store.get {} s.cans n
def State.setCan (s : State) (n : Nat) (x : CanState) : State := { s with cans := Store.put {} s.cans n x }
def State.canWakeOf (s : State) (n : Nat) : CanWake := Store.get {} s.canWakes n
def State.setCanWake (s : State) (n : Nat) (x : CanWake) : State := { s with canWakes := Store.put {} s.canWakes n x }

def canUnit (n : Nat) : HubUnit := .can (fin 7 n)

/-- A set of buffers with one of them added or taken out. -/
def bufSet (w : BitVec 16) (b : Nat) (v : Bool) : BitVec 16 := setBit w b v

/-- CAN_NBT and CAN_DBT hold valid timing (R170). -/
def State.canTimingValid (s : State) (n : Nat) : Bool :=
  let nb := s.reg (Addr.canNbt n)
  let db := s.reg (Addr.canDbt n)
  let prop := bits nb 18 6 + 1
  let ph1 := bits nb 13 5 + 1
  let ph2 := bits nb 8 5 + 1
  let sjw := bits nb 0 5 + 1
  let dprop := bits db 12 4
  let dph1 := bits db 8 4 + 1
  let dph2 := bits db 4 4 + 1
  let dsjw := bits db 0 4 + 1
  decide (8 ≤ 1 + prop + ph1 + ph2) && decide (2 ≤ ph2) && decide (sjw ≤ min ph1 ph2)
    && decide (5 ≤ 1 + dprop + dph1 + dph2) && decide (2 ≤ dph2) && decide (dsjw ≤ min dph1 dph2)

/-- A pending request ends cancelled (R176). -/
def State.canCancelled (s : State) (n b : Nat) : State :=
  let x := s.can n
  (s.setCan n { x with pend := bufSet x.pend b false, cncl := bufSet x.cncl b true }).event (Addr.canEvents n) 3

/-- The frame in transmission ends without success: cancelled, failed under ONE_SHOT, or still pending for a retry
(R176). -/
def State.canTxEnds (s : State) (n : Nat) : State :=
  let x := s.can n
  match x.sending with
  | none => s
  | some t =>
    let s := s.setCan n { x with sending := none, cancelled := false }
    if x.cancelled then s.canCancelled n t.buf
    else if s.flag (Addr.canCtrl n) 3 then
      (s.setCan n { s.can n with pend := bufSet x.pend t.buf false }).event (Addr.canEvents n) 4
    else s

/-- The frame in transmission is abandoned: it stays pending unless it was cancelled (R168, R176). -/
def State.canAbandon (s : State) (n : Nat) : State :=
  let x := s.can n
  match x.sending with
  | none => s
  | some t =>
    let s := s.setCan n { x with sending := none, cancelled := false }
    if x.cancelled then s.canCancelled n t.buf else s

/-- The controller enters INIT: locks are released and the FIFO is emptied (R168, R174). -/
def State.canToInit (s : State) (n : Nat) : State :=
  let s := s.canAbandon n
  let s := s.setCanWake n { s.canWakeOf n with asleep := false }
  s.setCan n { s.can n with sync := .init, get := 0, fill := 0, lock := none }

/-- Leaving INIT: with INIT 0 in an enabled unit and valid timing the controller integrates; invalid timing is shown
(R168, R170). -/
def State.canReview (s : State) (n : Nat) : State :=
  let x := s.can n
  if x.sync == .init && !s.flag (Addr.canCtrl n) 0 then
    s.setCan n { x with
      timingBad := !s.canTimingValid n
      sync := if s.canTimingValid n && s.enabled (canUnit n) then .integrating else .init }
  else s

/-- A controller in SLEEP wakes with a cause (R177, R178). -/
def State.canWakeUp (s : State) (n cause : Nat) : State :=
  let s := s.setCanWake n { s.canWakeOf n with asleep := false, woke := 0 }
  (s.setCan n { s.can n with sync := .integrating, wakeCause := cause }).event (Addr.canEvents n) 9

/-- Fault confinement after a counter has changed (R168). -/
def State.canConfine (s : State) (n : Nat) : State :=
  let x := s.can n
  let s :=
    match x.sync with
    | .errorActive =>
      if 128 ≤ x.txErr ∨ 128 ≤ x.rxErr then
        ((s.setCan n { x with sync := .errorPassive }).event (Addr.canEvents n) 5).raise (canUnit n) .canErrorPassive 0 none
      else s
    | .errorPassive => if x.txErr < 128 ∧ x.rxErr < 128 then s.setCan n { x with sync := .errorActive } else s
    | _ => s
  let x := s.can n
  if (x.sync == .errorActive || x.sync == .errorPassive) && decide (255 < x.txErr) then
    let dest := if s.flag (Addr.canCtrl n) 4 then CanSync.recovering else .busOff
    ((s.setCan n { x with sync := dest }).event (Addr.canEvents n) 6).raise (canUnit n) .canBusOff 0 none
  else s

/-- A write of CAN_CTRL (R168, R177). -/
def State.canCtrlWrite (s : State) (n : Nat) (v : Word) : State :=
  let s := s.setReg (Addr.canCtrl n) (v &&& 0x3DF#32)
  let s :=
    if bit v 0 then s.canToInit n
    else
      match (s.can n).sync with
      | .busOff => if bit v 5 || bit v 4 then s.setCan n { s.can n with sync := .recovering } else s
      | .sleep => if bit v 6 then s else s.canWakeUp n 4
      | _ => s
  s.canReview n

/-- Requested buffers (R175). -/
def State.canTxAdd (s : State) (n : Nat) (v : Word) : State :=
  s.each (onesOf 16 v.toNat) fun s b =>
    let x := s.can n
    s.setCan n { x with pend := bufSet x.pend b true, ok := bufSet x.ok b false, cncl := bufSet x.cncl b false }

/-- Cancelled buffers (R176). -/
def State.canTxCancel (s : State) (n : Nat) (v : Word) : State :=
  s.each (onesOf 16 v.toNat) fun s b =>
    let x := s.can n
    if !bit x.pend b then s
    else
      match x.sending with
      | some t => if t.buf = b then s.setCan n { x with cancelled := true } else s.canCancelled n b
      | none => s.canCancelled n b

/-- A write into a CAN block other than UNIT_CTRL: the registers, the filters and the transmit buffers. -/
def State.canWrite (s : State) (n a : Nat) (v : Word) : State :=
  if a = Addr.canEvents n then s.sqWrite a v
  else if a = Addr.canCtrl n then s.canCtrlWrite n v
  else if a = Addr.canNbt n ∨ a = Addr.canDbt n then (if s.flag (Addr.canCtrl n) 0 then s.plainWrite a v else s)
  else if a = Addr.canTxadd n then s.canTxAdd n v
  else if a = Addr.canTxcancel n then s.canTxCancel n v
  else s.plainWrite a v

/-- A counter shown in 8 bits; the spec does not say what TEC above 255 shows (log entry 3). -/
def shownTec (n : Nat) : Nat := if n < 256 then n else bits (Config.freeWord n) 0 8

/-- What a read of a CAN word shows instead of the stored word. -/
def State.canView (s : State) (n a : Nat) : Option Word :=
  let x := s.can n
  if a = Addr.canStatus n then
    let st : Nat :=
      match x.sync with
      | .init => 0 | .integrating => 1 | .errorActive => 2 | .errorPassive => 3 | .busOff => 4 | .recovering => 5
      | .sleep => 6
    some (word (st + ofBool x.timingBad * 8 + x.lec * 16 + x.wakeCause * 2 ^ 8 + shownTec x.txErr * 2 ^ 16
      + min 255 x.rxErr * 2 ^ 24))
  else if a = Addr.canTxpend n then some (word x.pend.toNat)
  else if a = Addr.canTxok n then some (word x.ok.toNat)
  else if a = Addr.canTxcncl n then some (word x.cncl.toNat)
  else if a = Addr.canRxf n then
    some (word (x.fill + x.get * 2 ^ 8 + (if x.lock.isSome then 2 ^ (16 + x.get) else 0)))
  else none

/-- Data bytes of a frame by its DLC (R171). -/
def canLength (dlc : Nat) (fdf rtr : Bool) : Nat :=
  if rtr then 0
  else if dlc ≤ 8 then dlc
  else if !fdf then 8
  else
    match dlc with
    | 9 => 12 | 10 => 16 | 11 => 20 | 12 => 24 | 13 => 32 | 14 => 48 | _ => 64

/-- The length of the frame in a buffer with words 0 and 1 given. -/
def bufLength (w0 w1 : Word) : Nat := canLength (bits w1 0 4) (bit w1 5) (bit w0 29)

/-- A read of a receive buffer word locks or frees the buffer GET (R174). -/
def State.canRxRead (s : State) (i : Initiator) (n b w : Nat) : State :=
  let x := s.can n
  if b ≠ x.get ∨ x.fill = 0 then s
  else
    let last := 3 + (bufLength (s.reg (Addr.canRx n b 0)) (s.reg (Addr.canRx n b 1)) + 3) / 4
    if w = 0 then (if x.lock.isNone then s.setCan n { x with lock := some i } else s)
    else if w = last ∧ x.lock = some i then
      s.setCan n { x with lock := none, get := (x.get + 1) % 16, fill := x.fill - 1 }
    else s

/-- One entry of a filter list (R172). -/
structure CanFilter where
  value1 : Word
  value2 : Word
  deriving DecidableEq, Repr

/-- The entries of filter list `l` that take part: 0 mask, 1 range, 2 pair. -/
def State.canFilters (s : State) (n l : Nat) : List CanFilter :=
  (List.range (min 32 (s.field (Addr.canFltCfg n) (8 * l) 6))).map fun e =>
    ⟨s.reg (Addr.canFilter n l e 0), s.reg (Addr.canFilter n l e 1)⟩

/-- A filter entry matches a frame (R172). -/
def canMatches (l : Nat) (e : CanFilter) (f : CanFrame) : Bool :=
  let key (v : Nat) : Nat := if f.xtd then v % 2 ^ 29 else v % 2 ^ 29 / 2 ^ 18
  let id := key f.id.toNat
  let v1 := key e.value1.toNat
  let v2 := key e.value2.toNat
  bit e.value1 31 && bit e.value1 29 == f.xtd &&
    (match l with
     | 0 => (id ^^^ v1) &&& v2 == 0
     | 1 => decide (v1 ≤ id ∧ id ≤ v2)
     | _ => id == v1 || id == v2)

/-- The matches of a frame, the first one foremost: list, index and REJECT. -/
def State.canMatchList (s : State) (n : Nat) (f : CanFrame) : List (Nat × Nat × Bool) :=
  (List.range 3).flatMap fun l =>
    ((s.canFilters n l).zipIdx.filter fun e => canMatches l e.1 f).map fun e => (l, e.2, bit e.1.value1 30)

/-- The MATCH field under which a frame is stored; `none` when it is discarded (R172). -/
def State.canAccept (s : State) (n : Nat) (f : CanFrame) : Option Nat :=
  let ms := s.canMatchList n f
  if f.rtr && s.flag (Addr.canCtrl n) 8 then none
  else if ms.any fun m => m.2.2 then none
  else
    match ms with
    | m :: _ => some (m.1 * 32 + m.2.1)
    | [] => if s.flag (Addr.canCtrl n) 9 then some 96 else none

/-- The receive buffer words of a frame (R171); `sof` is its start of frame in fabric ns. -/
def canRxWords (f : CanFrame) (m sof : Nat) : List Word :=
  [word (ofBool f.esi * 2 ^ 31 + ofBool f.xtd * 2 ^ 30 + ofBool f.rtr * 2 ^ 29 + f.id.toNat),
   word (f.dlc.toNat + ofBool f.brs * 16 + ofBool f.fdf * 32 + m * 2 ^ 8), word sof, word (sof / 2 ^ 32)]
    ++ wordsOfBytes (f.data.take (canLength f.dlc.toNat f.fdf f.rtr))

/-- A frame is lost (R173). -/
def State.canLost (s : State) (n : Nat) : State := (s.inc (Addr.canRxLostCount n)).event (Addr.canEvents n) 1

/-- Store an accepted frame in the FIFO or the queue (R173). -/
def State.canStore (s : State) (n : Nat) (f : CanFrame) (m sof : Nat) : State :=
  let ws := canRxWords f m sof
  if s.flag (Addr.canQbind n) 6 then
    match s.qOfferPacket (s.field (Addr.canQbind n) 0 6) (sourceId (canUnit n)) ws with
    | (true, s) => s.event (Addr.canEvents n) 0
    | (false, s) => s.canLost n
  else
    let x := s.can n
    if 16 ≤ x.fill then s.canLost n
    else
      let b := (x.get + x.fill) % 16
      let s := s.each ws.zipIdx fun s e => s.setReg (Addr.canRx n b e.2) e.1
      (s.setCan n { s.can n with fill := x.fill + 1 }).event (Addr.canEvents n) 0

/-- The controller takes part in bus traffic. -/
def State.canOnBus (s : State) (n : Nat) : Bool :=
  (s.can n).sync == .errorActive || (s.can n).sync == .errorPassive

/-- REC after a good reception (ISO 11898-1): one less, or a value from 119 to 127 when it was above 127, which the
standard leaves open. -/
def recAfterGood (r free : Nat) : Nat :=
  if r = 0 then 0 else if r ≤ 127 then r - 1 else 119 + (Config.freeWord free).toNat % 9

/-- R172, R173: a frame received to its end without error. -/
def execCanFrameReceive (n : Fin 8) (f : CanFrame) (sof : Nat) (s : State) : Host.Outcome State Fault Refusal :=
  if !s.start.logicUp then .next s else
  if s.canOnBus n.val then
    let x := s.can n.val
    let s := s.setCan n.val { x with rxErr := recAfterGood x.rxErr s.free }
    let s := (if 127 < x.rxErr then s.nextFree else s).canConfine n.val
    match s.canAccept n.val f with
    | none => .next s
    | some m => .next (s.canStore n.val f m sof)
  else .next s

/-- R168: 11 consecutive recessive bits. -/
def execCanIntegrationComplete (n : Fin 8) (s : State) : Host.Outcome State Fault Refusal :=
  if !s.start.logicUp then .next s else
  if (s.can n.val).sync == .integrating then
    .next ((s.setCan n.val { s.can n.val with sync := .errorActive }).canConfine n.val)
  else .next s

/-- R168: 128 occurrences of 11 consecutive recessive bits. -/
def execCanRecoveryComplete (n : Fin 8) (s : State) : Host.Outcome State Fault Refusal :=
  if !s.start.logicUp then .next s else
  if (s.can n.val).sync == .recovering then
    .next ((s.setCan n.val { s.can n.val with sync := .errorActive, txErr := 0, rxErr := 0 }).event (Addr.canEvents n.val) 7)
  else .next s

/-- R177: bus idle with SLEEP_REQ 1. -/
def execCanSleepEnter (n : Fin 8) (s : State) : Host.Outcome State Fault Refusal :=
  if !s.start.logicUp then .next s else
  let k := n.val
  if s.canOnBus k && s.flag (Addr.canCtrl k) 6 && (s.can k).sending.isNone then
    let w : CanWake :=
      { asleep := true, frameMode := s.flag (Addr.canCtrl k) 7, errLimit := s.field (Addr.canWake k) 8 8, errs := 0,
        wufId := s.reg (Addr.canWufId k), wufMask := s.reg (Addr.canWufMask k), wufCtrl := s.reg (Addr.canWufCtrl k),
        dataLo := s.reg (Addr.canWufDataLo k), dataHi := s.reg (Addr.canWufDataHi k) }
    .next (((s.setCanWake k w).setCan k { s.can k with sync := .sleep }).event (Addr.canEvents k) 10)
  else .next s

/-- The arbitration order of a transmit buffer: a lower key wins (R175). -/
def State.canTxKey (s : State) (n b : Nat) : Nat :=
  let w := s.reg (Addr.canTx n b 0)
  (bits w 18 11 * 2 ^ 19 + (if bit w 30 then 2 ^ 18 + bits w 0 18 else 0)) * 16 + b

/-- The pending buffer that is sent next (R175). -/
def State.canNext (s : State) (n : Nat) : Option Nat :=
  (onesOf 16 (s.can n).pend.toNat).foldl (fun best b =>
    match best with
    | none => some b
    | some c => if s.canTxKey n b < s.canTxKey n c then some b else some c) none

/-- An identifier as a frame carries it: a base identifier sits in bits 28 to 18 (R171). -/
def canId (xtd : Bool) (id : BitVec 29) : BitVec 29 := if xtd then id else id &&& 0x1FFC_0000

/-- The frame in a transmit buffer as the controller sends it (R171). -/
def State.canTxFrame (s : State) (n b : Nat) : CanFrame :=
  let w0 := s.reg (Addr.canTx n b 0)
  let w1 := s.reg (Addr.canTx n b 1)
  let fdf := bit w1 5
  let rtr := bit w0 29 && !fdf
  let len := canLength (bits w1 0 4) fdf rtr
  { esi := (s.can n).sync == .errorPassive && fdf, xtd := bit w0 30, rtr := rtr,
    id := canId (bit w0 30) (BitVec.ofNat 29 w0.toNat),
    fdf := fdf, brs := fdf && bit w1 4 && s.flag (Addr.canCtrl n) 1, dlc := BitVec.ofNat 4 w1.toNat,
    data := (bytesOfWords ((List.range 16).map fun k => s.reg (Addr.canTx n b (2 + k)))).take len }

/-- R175: the highest pending buffer starts. -/
def execCanTxStart (n : Fin 8) (s : State) : Host.Outcome State Fault Refusal :=
  if !s.start.logicUp then .next s else
  let k := n.val
  let x := s.can k
  if s.canOnBus k && x.sending.isNone && !s.flag (Addr.canCtrl k) 6 then
    match s.canNext k with
    | none => .next s
    | some b =>
      .next ((s.setCan k { x with sending := some ⟨b, s.timeNs⟩, cancelled := false }).emit (.can k (s.canTxFrame k b)))
  else .next s

/-- R176: arbitration is lost. -/
def execCanArbitrationLost (n : Fin 8) (s : State) : Host.Outcome State Fault Refusal :=
  if !s.start.logicUp then .next s else
  .next (s.canTxEnds n.val)

/-- R176: the frame in transmission succeeds; `tdc` is the transmitter delay measured in an FD frame (R169). -/
def execCanTxComplete (n : Fin 8) (tdc : BitVec 7) (s : State) : Host.Outcome State Fault Refusal :=
  if !s.start.logicUp then .next s else
  let k := n.val
  let x := s.can k
  match x.sending with
  | none => .next s
  | some t =>
    let fdf := s.flag (Addr.canTx k t.buf 1) 5
    let s := s.setCan k { x with sending := none, cancelled := false, pend := bufSet x.pend t.buf false,
                                 ok := bufSet x.ok t.buf true, txErr := x.txErr - 1 }
    let s := (s.setReg (Addr.canTx k t.buf 18) (word t.sof)).setReg (Addr.canTx k t.buf 19) (word (t.sof / 2 ^ 32))
    let s := if fdf then s.setReg (Addr.canTdcMeas k) (word tdc.toNat) else s
    .next ((s.event (Addr.canEvents k) 2).canConfine k)

/-- What an error adds to the counter of the sender, or of a receiver, by ISO 11898-1 (R167, log entry 143); `passive` for
an error-passive node. The exemptions are an acknowledgement error of a passive sender and a stuff error. -/
def canErrRise (sender passive : Bool) (lec : Nat) : CanErrCount → Nat
  | .flag => 8
  | .inFrame => if sender then 8 else 1
  | .exempt => if !sender then 1 else if lec = 1 ∨ (lec = 3 ∧ passive) then 0 else 8

/-- R167, R168: a protocol error with its LEC code is counted against the present role, which an error about a flag keeps,
and a frame in transmission fails; the delay measured in an FD frame that had passed FDF is kept (R169). -/
def execCanProtocolError (n : Fin 8) (lec : Fin 8) (e : CanError) (s : State) : Host.Outcome State Fault Refusal :=
  if !s.start.logicUp then .next s else
  let k := n.val
  if s.canOnBus k then
    let x := s.can k
    let sender := if e.count = .flag then x.sentLast else x.sending.isSome
    let rise := canErrRise sender (x.sync == .errorPassive) lec.val e.count
    let fdf := match x.sending with | some t => s.flag (Addr.canTx k t.buf 1) 5 | none => false
    let s :=
      match e.tdc with
      | some d => if fdf && decide (d ≤ 127) then s.setReg (Addr.canTdcMeas k) (word d) else s
      | none => s
    let x := { x with lec := lec.val, sentLast := sender }
    let x := if sender then { x with txErr := x.txErr + rise } else { x with rxErr := x.rxErr + rise }
    let s := ((s.setCan k x).inc (Addr.canErrCount k)).event (Addr.canEvents k) 8
    .next ((s.canTxEnds k).canConfine k)
  else .next s

/-- A frame matches the wake-frame filter (R178). -/
def wakeMatch (w : CanWake) (f : CanFrame) : Bool :=
  let want := bytesOfWords [w.dataLo, w.dataHi]
  f.xtd == bit w.wufId 29 && ((f.id.toNat ^^^ bits w.wufId 0 29) &&& bits w.wufMask 0 29) == 0
    && (!bit w.wufCtrl 4 || f.dlc.toNat == bits w.wufCtrl 0 4)
    && (List.range 8).all fun k => !bit w.wufCtrl (8 + k) || f.data[k]? == want[k]?

end Sys2Proof.Machine
end

