-- ==== Sys2Proof/Machine/Uart.lean ====
section
/-! DEFINITION. The UARTs and RS-485 (R180 to R185), and the output of a field pin from all its sources (R138, R165,
R166). -/

namespace Sys2Proof.Machine

def State.uart (s : State) (u : Nat) : UartState := Store.get {} s.uarts u
def State.setUart (s : State) (u : Nat) (x : UartState) : State := { s with uarts := Store.put {} s.uarts u x }

def uartUnit (u : Nat) : HubUnit := .uart (fin 15 u)

/-- MODE: 3 acts as 0 (R185). -/
def State.uartMode (s : State) (u : Nat) : Nat :=
  let m := s.field (Addr.uartCtrl u) 0 2
  if m = 3 then 0 else m

/-- Data bits of a character: 5 to 9, and codes 5 to 7 act as 3 (R185). -/
def State.uartBits (s : State) (u : Nat) : Nat :=
  let n := s.field (Addr.uartCtrl u) 2 3
  if n ≤ 4 then n + 5 else 8

def State.echoCheck (s : State) (u : Nat) : Bool := s.flag (Addr.uartCtrl u) 9 && s.uartMode u == 1

/-- The character of a transmit word as the line carries it. -/
def State.uartChar (s : State) (u : Nat) (w : Half) : Nat := bits w 0 9 % 2 ^ s.uartBits u

/-- The parity bit that PARITY asks for beside data `d`; `none` where no parity is sent (R180, R185). -/
def State.uartParity (s : State) (u d : Nat) : Option Bool :=
  let odd := (List.range 9).foldl (fun b i => b != d.testBit i) false
  match s.field (Addr.uartCtrl u) 5 3 with
  | 1 => some odd
  | 2 => some (!odd)
  | 3 => some true
  | 4 => some false
  | _ => none

/-- Start the next character of a frame in progress, if a word waits (R180, R182). -/
def State.uartKick (s : State) (u : Nat) : State :=
  let x := s.uart u
  if x.active && x.sending.isNone then
    match x.tx with
    | [] => s
    | w :: r =>
      let es := if s.echoCheck u then x.echoes ++ [w] else x.echoes
      (s.setUart u { x with tx := r, sending := some w, echoes := es, lineBusy := true }).emit
        (.uart u (BitVec.ofNat 9 (s.uartChar u w)) (s.uartParity u (s.uartChar u w)) (s.flag (Addr.uartCtrl u) 8))
  else s

/-- A transmit word enters the FIFO, or is discarded with the rest of a frame that collided (R181, R182). -/
def State.uartLoad (s : State) (u : Nat) (w : Half) : State :=
  let x := s.uart u
  if x.discarding then s.setUart u { x with discarding := !bit w 9 }
  else (s.setUart u { x with tx := x.tx ++ [w] }).uartKick u

/-- A write to UART_TXF (R159, R182). -/
def State.uartTxfWrite (s : State) (u : Nat) (v : Word) : State :=
  if s.flag (Addr.uartQbind u) 6 || decide (32 ≤ (s.uart u).tx.length) then s.event (Addr.uartEvents u) 8
  else s.uartLoad u (BitVec.ofNat 16 (v.toNat % 2 ^ 10))

/-- A read of UART_RXF (R159, R184). -/
def State.uartRxfRead (s : State) (u : Nat) : Word × State :=
  let x := s.uart u
  if s.flag (Addr.uartQbind u) 14 then (0, s)
  else
    match x.rx with
    | [] => (0, s.event (Addr.uartEvents u) 9)
    | w :: r => (w, s.setUart u { x with rx := r })

/-- FRAME_GAP and CHAR_GAP (R183). -/
def State.frameGap (s : State) (u : Nat) : Nat := s.field (Addr.uartGap u) 16 16
def State.charGap (s : State) (u : Nat) : Nat := s.field (Addr.uartGap u) 0 16

/-- R181: words wait, and in MODE 1 the line has been idle for FRAME_GAP; DE rises and the frame starts. -/
def execUartTxFrameStart (u : Fin 16) (s : State) : Host.Outcome State Fault Refusal :=
  if !s.start.logicUp then .next s else
  let x := s.uart u.val
  let idle := s.uartMode u.val != 1 || s.frameGap u.val == 0 || !x.lineBusy
  if s.enabled (.uart u) && !x.active && !x.lag && !x.tx.isEmpty && idle then
    .next ((s.setUart u.val { x with active := true, de := s.uartMode u.val == 1, collided := false }).uartKick u.val)
  else .next s

/-- A transmit frame ends: DE falls after DE_LAG in MODE 1 (R181). -/
def State.uartFrameEnd (s : State) (u : Nat) : State :=
  let x := s.uart u
  s.setUart u { x with active := false, sending := none, lag := x.de }

/-- The words left of a frame that collided are discarded up to its LAST (R181). -/
def State.uartDiscard (s : State) (u : Nat) (last : Bool) : State :=
  let x := s.uart u
  if last then s
  else
    let n := (x.tx.takeWhile fun w => !bit w 9).length
    s.setUart u { x with tx := x.tx.drop (n + 1), discarding := decide (x.tx.length ≤ n) }

/-- R181, R182: the stop bit of the character being sent ends. -/
def execUartCharSent (u : Fin 16) (s : State) : Host.Outcome State Fault Refusal :=
  if !s.start.logicUp then .next s else
  let x := s.uart u.val
  match x.sending with
  | none => .next s
  | some w =>
    if x.collided then .next ((s.uartDiscard u.val (bit w 9)).uartFrameEnd u.val)
    else if bit w 9 then .next ((s.uartFrameEnd u.val).event (Addr.uartEvents u.val) 6)
    else .next ((s.setUart u.val { x with sending := none }).uartKick u.val)

/-- R181: DE_LAG after the last stop bit; the echo of the last character may still be out. -/
def execUartDeLagEnd (u : Fin 16) (s : State) : Host.Outcome State Fault Refusal :=
  if !s.start.logicUp then .next s else
  let x := s.uart u.val
  .next (if x.lag then s.setUart u.val { x with de := false, lag := false, collided := false } else s)

/-- A collision is seen (R181): the transmitter stops after its current character. -/
def State.uartCollision (s : State) (u : Nat) : State :=
  let s := s.event (Addr.uartEvents u) 7
  let x := s.uart u
  if x.active && x.sending.isNone then
    ((s.setUart u { x with echoes := [] }).uartDiscard u false).uartFrameEnd u
  else s.setUart u { x with collided := true, echoes := [] }

/-- A receive word enters the FIFO or the queue, or is lost (R184). -/
def State.uartDeliver (s : State) (u : Nat) (w : Word) (last : Bool) : State :=
  let lost (s : State) : State := (s.setUart u { s.uart u with overrun := true }).event (Addr.uartEvents u) 4
  if s.flag (Addr.uartQbind u) 14 then
    match s.qOffer (s.field (Addr.uartQbind u) 8 6) (sourceId (uartUnit u)) w (if last then .last else .data) with
    | (true, s) => s
    | (false, s) => lost s
  else if 32 ≤ (s.uart u).rx.length then lost s
  else s.setUart u { s.uart u with rx := (s.uart u).rx ++ [w] }

/-- The receive frame ends: its last word carries LAST and the frame's flags (R183, R184). When that word itself finds no
room, OVERRUN stands for the frame that its words then run on into (log entry 144). -/
def State.uartRxFrameEnd (s : State) (u : Nat) : State :=
  let x := s.uart u
  if !x.inFrame then s
  else
    let s := s.setUart u { x with overrun := false }
    let s :=
      match x.hold with
      | none => s
      | some w =>
        s.uartDeliver u (word (w.toNat + 2 ^ 15 + ofBool x.gapViolation * 2 ^ 16 + ofBool x.overrun * 2 ^ 17)) true
    let s := s.event (Addr.uartEvents u) 0
    let s := if x.framing then s.raise (uartUnit u) .uartFraming 0 none else s
    s.setUart u { s.uart u with inFrame := false, hold := none, gapViolation := false, framing := false }

/-- A received character as the receiver judges it (R180): its data bits, a wrong parity bit, a low stop bit, and a break,
which is a framing error with all data bits 0 and a line low for a character time. -/
structure UartSeen where
  c : Nat
  parityErr : Bool
  framingErr : Bool
  brk : Bool
  deriving DecidableEq, Repr

def State.uartSee (s : State) (u : Nat) (c : UartChar) : UartSeen :=
  let d := c.c.toNat % 2 ^ s.uartBits u
  { c := d, framingErr := !c.stop, brk := !c.stop && d == 0 && c.lowLong
    parityErr := match s.uartParity u d with | some p => p != c.parity | none => false }

/-- Flags and count of a character in error (R180, R184, R185). -/
def State.uartCharFlags (s : State) (u : Nat) (c : UartSeen) : State :=
  let s := if c.parityErr || c.framingErr then s.inc (Addr.uartErrCount u) else s
  let s := if c.parityErr then s.event (Addr.uartEvents u) 1 else s
  let s := if c.framingErr then s.event (Addr.uartEvents u) 2 else s
  if c.brk then s.event (Addr.uartEvents u) 3 else s

/-- A character is stored: the one before it enters the FIFO, and it waits for its place in the frame (R183, R184). -/
def State.uartStore (s : State) (u : Nat) (c : UartSeen) : State :=
  let w := word (c.c + ofBool c.parityErr * 2 ^ 12 + ofBool c.framingErr * 2 ^ 13 + ofBool c.brk * 2 ^ 14)
  let s := s.uartCharFlags u c
  let x := s.uart u
  let s :=
    match x.hold with
    | none => s
    | some v => s.uartDeliver u v false
  if s.frameGap u = 0 then
    (s.setUart u { s.uart u with inFrame := false, hold := none, gapViolation := false, overrun := false,
                                 framing := false }).uartDeliver u w false
  else
    s.setUart u { s.uart u with inFrame := true, hold := some w, framing := x.framing || c.framingErr }

/-- R180, R181, R183: a character is received, `gap` (in units of GAP_UNIT) after the one before it. -/
def execUartCharReceive (u : Fin 16) (c : UartChar) (gap : Nat) (s : State) : Host.Outcome State Fault Refusal :=
  if !s.start.logicUp then .next s else
  let k := u.val
  if !s.enabled (.uart u) then .next s
  else
    let s := s.setUart k { s.uart k with lineBusy := true }
    let x := s.uart k
    let y := s.uartSee k c
    if s.uartMode k == 1 && x.de && !s.echoCheck k then .next s
    else
      match s.echoCheck k, x.echoes with
      | true, e :: r =>
        let s := s.setUart k { x with echoes := r }
        .next (if !y.parityErr && !y.framingErr && y.c == s.uartChar k e then s else s.uartCollision k)
      | _, _ =>
        let s := if x.inFrame && s.frameGap k != 0 && decide (s.frameGap k ≤ gap) then s.uartRxFrameEnd k else s
        let x := s.uart k
        let s :=
          if x.inFrame && s.charGap k != 0 && decide (s.charGap k < gap) then
            (s.setUart k { x with gapViolation := true }).event (Addr.uartEvents k) 5
          else s
        .next (s.uartStore k y)

/-- R181: an echo is missing one character time after its character. -/
def execUartEchoTimeout (u : Fin 16) (s : State) : Host.Outcome State Fault Refusal :=
  if !s.start.logicUp then .next s else
  .next (if (s.uart u.val).echoes.isEmpty then s else s.uartCollision u.val)

/-- R181, R183: the line has been idle for FRAME_GAP, which ends a receive frame; 0 disables the timer. -/
def execUartFrameGapExpiry (u : Fin 16) (s : State) : Host.Outcome State Fault Refusal :=
  if !s.start.logicUp then .next s else
  if s.frameGap u.val = 0 then .next s
  else .next ((s.setUart u.val { s.uart u.val with lineBusy := false }).uartRxFrameEnd u.val)

/-- R182: a word of queue TXQ is taken into the transmitter; its end mark acts as LAST. -/
def execUartTxqFill (u : Fin 16) (s : State) : Host.Outcome State Fault Refusal :=
  if !s.start.logicUp then .next s else
  if s.flag (Addr.uartQbind u.val) 6 && decide ((s.uart u.val).tx.length < 32) then
    match s.qTakeAs (s.field (Addr.uartQbind u.val) 0 6) (sourceId (.uart u)) with
    | none => .next s
    | some (w, s) =>
      let c := w.v.toNat % 2 ^ 10
      match w.mark with
      | .abort => .next s
      | .last => .next (s.uartLoad u.val (BitVec.ofNat 16 (c % 2 ^ 9 + 2 ^ 9)))
      | .data => .next (s.uartLoad u.val (BitVec.ofNat 16 c))
  else .next s

/-- A disabled UART stops transmitting and receiving (R14, R166). -/
def State.uartDisable (s : State) (u : Nat) : State :=
  let x := s.uart u
  s.setUart u { x with active := false, sending := none, de := false, lag := false, echoes := [], collided := false,
                       inFrame := false, hold := none, gapViolation := false, overrun := false, framing := false }

/-- DE of a UART: high while enabled in MODE 2 (R181). -/
def State.uartDe (s : State) (u : Nat) : Bool := s.enabled (uartUnit u) && (s.uartMode u == 2 || (s.uart u).de)

/-- A write into a UART block other than UNIT_CTRL. -/
def State.uartWrite (s : State) (u a : Nat) (v : Word) : State :=
  if a = Addr.uartEvents u then s.sqWrite a v
  else if a = Addr.uartTxf u then s.uartTxfWrite u v
  else s.plainWrite a v

/-- What a read of a UART word shows instead of the stored word. -/
def State.uartView (s : State) (u a : Nat) : Option Word :=
  let x := s.uart u
  if a = Addr.uartStatus u then
    some (word (x.tx.length + x.rx.length * 2 ^ 8 + ofBool x.active * 2 ^ 16 + ofBool (s.uartDe u) * 2 ^ 17
      + ofBool (x.inFrame && s.frameGap u != 0) * 2 ^ 18))
  else none

/-- The level of a UART's output on cluster pin `p`, if it names the pin (R165, R166); the level of TX while a character
is on the line is not modelled. -/
def State.uartDrive (s : State) (u p : Nat) : Option Bool :=
  let w := s.reg (Addr.uartPins u)
  let on := s.enabled (uartUnit u)
  if bits w 0 5 = p then some true
  else if bit w 21 ∧ bits w 16 5 = p then some (on && s.uartDe u)
  else if bit w 29 ∧ bits w 24 5 = p then some (!on || (s.uartDe u && !s.flag (Addr.uartCtrl u) 9))
  else none

/-- The level of the CAN controller's output on cluster pin `p`, if it names the pin (R165, R166); TX is shown recessive,
its bits on the bus are not modelled. -/
def State.canDrive (s : State) (n p : Nat) : Option Bool :=
  let w := s.reg (Addr.canPins n)
  if bits w 0 5 = p then some true
  else if bit w 21 ∧ bits w 16 5 = p then some ((s.can n).sync == .sleep)
  else none

/-- The pins of bank `n` follow their sources: in no reset, in a region not fenced, with the bank unit enabled and its
supply right (R21, R138, R140). A retained region holds its levels while the logic die sleeps (R399, R413). -/
def State.bankLive (s : State) (n : Nat) : Bool :=
  ((s.start.logicUp && s.start.driven) || s.start.retained.testBit (n / 2)) && s.enabled (bankUnit n)
    && !(s.bank n).mismatch && !s.fenced (n / 2)

/-- What a field pin drives: `none` is high impedance (R138, R165). -/
def State.pinDrive (s : State) (q : Nat) : Option Bool :=
  let n := q / 32
  let p := q % 32
  if !s.bankLive n then none
  else
    let od (v : Bool) : Option Bool := if s.flag (pinCfgAddr q) 6 && v then none else some v
    match s.pinMux q with
    | 1 => od (s.flag (Addr.bankGpioOut n) p)
    | 2 =>
      let x := s.eng (8 * n + s.field (pinCfgAddr q) 3 3)
      let hiZ := x.sync == .faulted && s.flag (Addr.engCtrl (8 * n + s.field (pinCfgAddr q) 3 3)) 18
      if bit x.pindir p && !hiZ then od (bit x.level p) else none
    | 3 => od (s.pin q).ephLevel
    | 4 =>
      match s.uartDrive (2 * n) p with
      | some v => od v
      | none => (s.uartDrive (2 * n + 1) p).bind od
    | 5 => (s.canDrive n p).bind od
    | _ => none

/-- A ball: what the hub drives, or the pull of a pin at high impedance: its PULL, and the weak pull-down while the bank is
not live (R137, R138, R140). -/
def State.pinBall (s : State) (q : Nat) : PinBall :=
  match s.pinDrive q with
  | some b => .driven b
  | none =>
    if !s.bankLive (q / 32) then .pullDown
    else
      match s.field (pinCfgAddr q) 8 2 with
      | 1 => .noPull
      | 2 => .pullUp
      | _ => .pullDown

end Sys2Proof.Machine
end

