-- ==== Sys2Proof/Machine/UnitReset.lean ====
section
/-! DEFINITION. Unit resets, enabling and disabling (R11 to R14), and the logic power-on reset (R397). -/

namespace Sys2Proof.Machine

/-- The list without the words of unit `u`. -/
def dropUnit {α : Type} (u : HubUnit) (m : Store α) : Store α := m.filter fun e => !decide (ownerOf e.1 = some u)

/-- The registers of unit `u`, its guard states and what initiators have latched and staged there (R12). -/
def State.eraseUnit (s : State) (u : HubUnit) : State :=
  { s with
    regs := dropUnit u s.regs, guards := dropUnit u s.guards,
    shadows := s.shadows.filter fun e => !decide (ownerOf e.addr = some u),
    staged := s.staged.filter fun e => !decide (ownerOf e.addr = some u) }

/-- The initiator that a unit is, if it is one (R257). -/
def unitInitiator : HubUnit → Option Initiator
  | .host => some .host
  | .mgmt => some .mgmt
  | .usb => some .usb
  | .core n => some (.core n)
  | .ephem => some .ephem
  | .boot => some .boot
  | _ => none

/-- Semaphores held by a unit's initiator break with reason 3 (R257). -/
def State.semOwnerReset (s : State) (u : HubUnit) : State :=
  match unitInitiator u with
  | none => s
  | some i => s.semBreakWhere 3 fun o => o.node == s.node && o.ring == s.ringNo && o.who.toNat == initCode i

/-- The pins of bank `n` as after reset; the ball levels stay what they are. -/
def State.pinsReset (s : State) (n : Nat) : State :=
  s.each (List.range 32) fun s i => let x := s.pin (32 * n + i); s.setPin (32 * n + i) { raw := x.raw, filt := x.raw }

/-- A transaction that a reset of BRIDGE ends: a posted write fails with cause 2 and is reported by R76, any other ends at
its initiator with cause 2 (log entry 98). -/
def State.txnLost (s : State) (kind : TxnKind) (role : TxnRole) (who : Initiator) (a : FabricAddr) (order entry : Nat) :
    State :=
  if kind == .posted then s.postedLost role who a order entry 2 0 else s.giveEnd who a 2 0 []

/-- Every transaction of this hub, waiting or live, is lost. -/
def State.bridgeLost (s : State) : State :=
  (s.each s.liveTxns fun s e => s.txnLost e.2.kind e.2.role e.2.who e.2.addr e.2.order e.2.entry).each s.bridge.waiting
    fun s w => s.txnLost w.kind w.role w.who w.addr w.order w.entry

/-- The host's reads and non-posted writes have no one left to answer, and its held reads are dropped. -/
def State.hostLost (s : State) : State :=
  { s.unwait .host with held := s.held.filter fun h => !(h.who == .host && !h.isWrite) }

/-- A unit reset of core `n` discards its outstanding stores to the register map, and what it waits for (R326). -/
def State.coreLost (s : State) (n : Nat) : State :=
  let t := (s.unwait (.core (fin 3 n))).dropFence (.core (fin 3 n))
  { t with held := t.held.filter fun h => !(h.who == .core (fin 3 n) && h.use == .answer) }

/-- Every hub is recorded absent, as a reset of the ring engine clears RING_PRESENT (R12, R228, R257). -/
def State.presentLost (s : State) : State := s.each ((List.range 254).filter s.present) fun s n => s.setPresent n false

/-- PAIR's role follows its enables (R357). -/
def State.pairReview (s : State) : State :=
  if s.enabled .pair && s.flag Addr.pairCtrl 0 && s.fuses.pairCapable then
    if s.pair.role == .off then s.pairTo .seeking else s
  else s.pairTo .off

/-- What a unit reset does beside its registers, before they are erased. -/
def State.unitClear (s : State) (u : HubUnit) : State :=
  match u with
  | .regif => { s with cfg := {} }
  | .time =>
    let t := { s with time := s.time.afterReset, tins := [{}, {}], ptp := [{}, {}] }
    s.ephMark t 2 fun _ => true
  | .angle => { s with angle := {} }
  | .ephem => { s with ephem := {} }
  | .bank n => (s.setBank n.val { vok := (s.bank n.val).vok }).pinsReset n.val
  | .engine e => s.setEng e.val {}
  | .uart x => s.setUart x.val {}
  | .can n => (s.canToInit n.val).setCan n.val {}
  | .link l => ((s.linkDisable (portOf l)).setLink (portOf l) {}).when (l == 0) fun s => s.bypassWrite (regReset (Addr.linkBypassCtrl 0))
  | .ring =>
    let s := s.presentLost
    { s with ring := { epoch := s.ring.epoch, aliasSeqs := s.ring.aliasSeqs, aliasEpochs := s.ring.aliasEpochs } }
  | .bridge =>
    let s := s.bridgeLost
    { s with bridge := { order := s.bridge.order, iseqs := s.bridge.iseqs, ended := s.bridge.ended } }
  | .sta p =>
    let s := (s.staLink p.val 0 false false false).setSta p.val {}
    if p = 0 then { s with prp := {} } else s
  | .switch => { s with sw := {} }
  | .traffic => { s with policers := [], shapers := [] }
  | .classify => { s with ecc := dropUnit .classify s.ecc }
  | .core n => (s.coreLost n.val).setCore n.val { since := s.now }
  | .queue q => let n := (s.queue q.val).popWait; s.setQueue q.val { popWait := n }
  | .dram => s
  | .pair =>
    let s := s.pairTo .off
    { s with pair := {}, ring := { s.ring with aliasSeqs := [0, 0, 0, 0], aliasEpochs := s.mramEpochs } }
  | .feed _ => s
  | .group g => s.groupReset g.val
  | .therm k => s.setSensor k.val { temp := (s.sensor k.val).temp }
  | .boot => { s with boot := { s.boot with owner := none, result := 0, past := false } }
  | .host => let s := s.hostLost; { s with
      host := { up := s.host.up, config := s.host.config, perst := s.host.perst },
      hostFence := {},
      queues := s.queues.map fun e => (e.1, { e.2 with popWait := 0 }) }
  | .usb => { s with usb := { sync := if s.start.released then .default else .detached } }
  | .mgmt => { s with comet := { s.comet with kt := 0, ktValid := false, anchorValid := false } }

/-- What a unit reset of `was` sets after its registers have been erased (R326, R344, R347, R376): SVC_RESET_PC and DRAM_CFG
act with the value they had before it (log entry 153). -/
def State.unitAfter (s was : State) (u : HubUnit) : State :=
  match u with
  | .core n => s.setCorePc n.val (was.reg (Addr.svcResetPc n.val))
  | .dram => s.dramStart (was.reg Addr.dramCfg)
  | .feed f => if f = 0 then s.loadPrio else s
  | _ => s

/-- The unit reset of `u` (R12): registers at their reset values, FIFOs and buffers empty. A producer reset within a
packet appends ABORT (R337). -/
def State.unitReset (s : State) (u : HubUnit) : State :=
  let t := (s.producerLost (sourceId u)).semOwnerReset u
  ((t.unitClear u).eraseUnit u).unitAfter s u

/-- What enabling a unit starts. -/
def State.unitOn (t : State) (u : HubUnit) : State :=
  match u with
  | .ephem =>
    let t := if t.start.released then { t with start := { t.start with ephHold := false, waitLock := false } } else t
    if t.ephRuns then t.ephMarkAll else t
  | .link l => t.linkReview (portOf l)
  | .queue q => t.qCheck q.val
  | .can n => t.canReview n.val
  | .ring => t.transitCheck.ringJoin
  | .pair => t.pairReview
  | _ => t

/-- What disabling a unit stops (R147, R166, R168, R306, R331, R357). -/
def State.unitOff (t : State) (u : HubUnit) : State :=
  match u with
  | .engine e => t.engStopNow e.val
  | .uart x => t.uartDisable x.val
  | .can n => t.canToInit n.val
  | .link l => t.linkReview (portOf l)
  | .queue q => t.qFlush q.val
  | .core n => if (t.core n.val).sync == .halted then t else (t.unwait (.core n)).coreHalt n.val 0
  | .pair => t.pairReview
  | .sta p => t.staLink p.val 0 false false false
  | _ => t

/-- EN of a unit takes a value (R11, R14, R382, R383). -/
def State.setEnable (s : State) (u : HubUnit) (en : Bool) : State :=
  if s.enabled u == en then s
  else if en then (s.setFlag (unitCtrl u) 0 true).unitOn u
  else
    match u with
    | .feed f => s.feedDisable f.val
    | .group g => s.groupDisable g.val
    | u => ((s.producerLost (sourceId u)).setFlag (unitCtrl u) 0 false).unitOff u

/-- A write of UNIT_CTRL (R11 to R13): RST starts a unit reset, at the end of which EN takes the written value. -/
def State.unitCtrlWrite (s : State) (u : HubUnit) (v : Word) : State :=
  if bit v 1 then
    let s := s.unitReset u
    { s.setFlag (unitCtrl u) 0 false with busy := s.busy ++ [⟨u, bit v 0⟩] }
  else s.setEnable u (bit v 0)

/-- UNIT_CTRL as read (R11). -/
def State.unitCtrlView (s : State) (u : HubUnit) : Word :=
  word (ofBool (s.enabled u) + ofBool (s.isBusy u) * 4 + (sourceId u).toNat * 2 ^ 16)

/-- The address lies in the COMET block, the POWER block or is GLOBAL_RESET_CAUSE: no logic reset reaches it (R397). -/
def keptReg (a : Nat) : Bool :=
  decide (0xC0_0000 ≤ a ∧ a < 0xC1_0000) || powerReg a || a == Addr.globalResetCause

/-- The region of a local address (R19). -/
def addrRegion (a : Nat) : Option Nat := (ownerOf a).bind regionOf

/-- The region in which a register word is held through hibernate: that of its unit, and of queue q, region q / 16 (R331). -/
def holdRegion (a : Nat) : Option Nat :=
  match ownerOf a with
  | some (.queue q) => some (q.val / 16)
  | some u => regionOf u
  | none => none

/-- Region `r` is one of `keep`, a mask. -/
def keeps (keep : Nat) (r : Option Nat) : Bool :=
  match r with
  | none => false
  | some r => keep.testBit r

/-- The power die as the die link is cut off: the commands on their way to its groups are lost (R26, R391). -/
def PowerState.linkCut (p : PowerState) : PowerState :=
  { p with groups := p.groups.map fun e => (e.1, { e.2 with cmds := [] }) }

/-- A logic power-on reset (R397): every logic-die register outside COMET and outside the regions of `keep` is at its
reset value and FRC is 0; the power die, Comet, MRAM, fuses and flash keep theirs. Service RAM outside `keep` is
initialised (R403). The power die loses the die link (R391). -/
def State.logicReset (s : State) (keep : Nat) : State :=
  let regions {α : Type} (f : Nat → Nat) (m : Store α) : Store α := m.filter fun e => keep.testBit (f e.1)
  { State.reset with
    clock := s.clock
    mem := s.mem.filter fun e =>
      !decide (0x60_0000 ≤ e.1 ∧ e.1 < 0x80_0000) || keep.testBit ((e.1 - 0x60_0000) / 0x8_0000)
    pending := s.pending, out := s.out, free := s.free,
    regs := s.regs.filter fun e => keptReg e.1 || keeps keep (holdRegion e.1)
    guards := s.guards.filter fun e => keptReg e.1
    ecc := s.ecc.filter fun e => keeps keep (addrRegion e.1)
    engines := regions (fun e => e / 16) s.engines
    banks := s.banks.filterMap fun e =>
      if keep.testBit (e.1 / 2) then some e else if e.2.vok then some (e.1, { vok := true }) else none
    pins := s.pins.filterMap fun e =>
      if keep.testBit (e.1 / 64) then some e
      else if e.2.raw then some (e.1, { raw := true, filt := true }) else none
    uarts := regions (fun u => u / 4) s.uarts
    cans := regions (fun n => n / 2) s.cans
    canWakes := if s.comet.power == .hibernate then s.canWakes else []
    cores := regions (fun n => n) s.cores
    queues := regions (fun q => q / 16) s.queues
    fault := { powerHeld := s.fault.powerHeld, powerLost := s.fault.powerLost }
    dieLink := { up := false, holding := s.dieLink.holding || (s.dieLink.up && s.power.logicEn) }
    time := s.time.afterReset
    ring := { epoch := s.ring.epoch, aliasEpochs := s.mramEpochs }
    mramEpochs := s.mramEpochs
    dram := { cfg := 0 }
    power := s.power.linkCut
    start := { logicUp := false, phase := 2, ephHold := true, retained := keep }
    comet := { s.comet with power := if s.comet.power == .hibernate then .hibernate else .starting }
    cache := s.cache, fuses := s.fuses
    boot := { s.boot with
      owner := none, result := 0, job := 0, past := false,
      sync := if s.boot.sync == .staged || s.boot.sync == .trial then s.boot.sync else .idle }
    host := { perst := s.host.perst }
    mgmt := s.mgmt }

/-- The logic die is reset for causes, the flags of GLOBAL_RESET_CAUSE (R397, R418); LOGIC_DOWN tells that it left
release (R469). -/
def State.logicDown (s : State) (causes keep : Nat) : State :=
  let s := if s.start.released then s.event Addr.cometMgmtEvents 2 else s
  (if causes = 0 then s else s.events Addr.globalResetCause causes).logicReset keep

/-- A warm reset (R397). -/
def State.warmReset (s : State) (causes : Nat) : State := s.logicDown causes 0

/-- Region `r` is fenced (R20, R21): its units are held in reset and its queues, which refuse words meanwhile, are emptied
(R331). The queues' registers are not reset and answer as before (DESIGN CHOICE, log entry 124). A unit reset in
progress runs to its end, and the accesses it holds are then refused. -/
def State.fenceRegion (s : State) (r : Nat) : State :=
  let s := { s with start := { s.start with fenceAt := setAt s.start.fenceAt r (some s.now) } }
  if s.fenced r then s
  else
    let t := (s.setFlag Addr.globalRegionState r true).setFlag Addr.globalRegionState (12 + r) false
    let t := t.each (regionUnits r) fun t u => (t.unitReset u).setFlag (unitCtrl u) 0 false
    let t := t.each (List.range 16) fun t k => t.qFlush (16 * r + k)
    s.noteSuspend { t with busy := t.busy.map fun b => if regionOf b.u == some r then { b with en := false } else b }

/-- The regions outside `keep` are power-gated, and a gated region is also fenced (R20, R23). -/
def State.gateRegions (s : State) (keep : Nat) : State :=
  s.each ((List.range 4).filter fun r => !keep.testBit r) fun s r =>
    (s.setFlag Addr.globalRegionState r true).setFlag Addr.globalRegionState (4 + r) true

/-- The gated regions wake and are to be reloaded (R22, R23). -/
def State.wakeRegions (s : State) : State :=
  s.each ((List.range 4).filter fun r => s.flag Addr.globalRegionState (4 + r)) fun s r =>
    ((s.setFlag Addr.globalRegionState r false).setFlag Addr.globalRegionState (4 + r) false).setFlag
      Addr.globalRegionState (12 + r) true

/-- Region `r` is released and reloads its configuration; a request to fence it in the same cycle wins (R22). -/
def State.releaseRegion (s : State) (r : Nat) : State :=
  if s.fenced r && s.start.fenceAt.getD r none != some s.now then
    let t := ((s.setFlag Addr.globalRegionState r false).setFlag Addr.globalRegionState (4 + r) false).setFlag
      Addr.globalRegionState (8 + r) false
    s.noteSuspend (t.setFlag Addr.globalRegionState (12 + r) true)
  else s

/-- A committed GLOBAL_REGION_FENCE (R20). -/
def State.regionCommit (s : State) (v : Word) : State :=
  s.each (List.range 4) fun s r => if bit v r then s.fenceRegion r else s.releaseRegion r

end Sys2Proof.Machine
end

