-- ==== Sys2Proof/Machine/Fault.lean ====
section
/-! DEFINITION. The fault collector (chapter 19): committing records, the history and its Comet mirror, reactions,
holding and recovery, and injection. -/

namespace Sys2Proof.Machine

/-- The row of the reaction table that matches a source and kind: the lowest index (R441). -/
def State.reactRow (s : State) (src : SourceId) (kind : Byte) : Option Nat :=
  (List.range 64).find? fun r =>
    let w0 := s.reg (Addr.faultReact0 r)
    let w1 := s.reg (Addr.faultReact1 r)
    bit w0 31 && (bit w0 8 || bits w0 0 8 == kind.toNat)
      && (src.toNat ^^^ bits w1 0 16) &&& bits w1 16 16 == 0

/-- Severity and actions of a message after the reaction table (R441). -/
def State.reaction (s : State) (m : FaultMsg) : Severity × Nat :=
  match s.reactRow m.src m.kind with
  | none => (m.sev, (s.reg Addr.faultDefaultActions).toNat)
  | some r =>
    let k := bits (s.reg (Addr.faultReact0 r)) 9 3
    (if k < 4 then sevOfCode k else m.sev, (s.reg (Addr.faultReact2 r)).toNat)

/-- The order of two logic-die records of one detection cycle (R436). -/
def State.commitsBefore (s : State) (a b : FaultMsg) : Bool :=
  let sa := sevCode (s.reaction a).1
  let sb := sevCode (s.reaction b).1
  decide (sb < sa) || (sa == sb && (decide (a.src.toNat < b.src.toNat)
    || (a.src == b.src && decide (a.kind.toNat < b.kind.toNat))))

/-- The message whose record is committed next (R436): the lowest detection cycle; a power-die record by its arrival,
ahead of logic-die records of the same cycle (DESIGN CHOICE, log entry 30). -/
def State.nextFault (s : State) : Option FaultMsg :=
  match s.fault.msgs with
  | [] => none
  | m :: r =>
    let first := (m :: r).foldl (fun c x => min c x.since) m.since
    let now := (m :: r).filter fun x => x.since == first
    match now.find? fun x => powerSource x.src with
    | some p => some p
    | none => some (now.foldl (fun b x => if s.commitsBefore x b then x else b) (now.headD m))

/-- The four words of a record (R433). -/
def recordWords (m : FaultMsg) (sev : Severity) : List Word :=
  [word m.time.toNat,
   word (bits m.addr 0 16 * 2 ^ 16 + bits m.time 32 16),
   word (bits m.addr 16 32),
   word (m.src.toNat * 2 ^ 16 + m.kind.toNat * 2 ^ 8 + sevCode sev * 2 ^ 6 + m.flags.toNat)]

/-- The four words of a record at the addresses `f 0` to `f 3`. -/
def State.putRecord (s : State) (f : Nat → Nat) (ws : List Word) : State :=
  s.each [0, 1, 2, 3] fun s k => s.setReg (f k) (ws.getD k 0)

/-- FAULT_FIRST takes the record if it is armed and the severity reaches FIRST_MIN (R437). -/
def State.takeFirst (s : State) (sev : Severity) (ws : List Word) : State :=
  if s.field Addr.faultCtrl 0 2 ≤ sevCode sev && !s.flag Addr.faultEvents 2 then
    (s.putRecord Addr.faultFirst ws).event Addr.faultEvents 2
  else s

/-- The next history NUMBER goes to the record (R438). -/
def State.takeHistory (s : State) (ws : List Word) : State :=
  let n := (s.reg Addr.faultHistHead).toNat
  ((s.putRecord (Addr.faultHist (n % 32)) ws).setReg (Addr.faultHistNum (n % 32)) (word n)).setReg
    Addr.faultHistHead (word (n + 1))

/-- A history record waits for a COMET edge, at most 4 of them (R439): the answer tells whether it will be mirrored. -/
def State.takeMirror (s : State) (ws : List Word) (warm : Nat) : Bool × State :=
  if s.fault.mirrorWait.length < 4 then
    (true, { s with fault := { s.fault with mirrorWait := s.fault.mirrorWait ++ [⟨ws, warm⟩] } })
  else (false, (s.inc Addr.cometFaultLost).event Addr.faultEvents 4)

/-- Holding (R444): the collector is HELD from a record of DEGRADED or above, and the quiet timer restarts. -/
def State.holdFault (s : State) (sev : Severity) : State :=
  if sevCode sev = 0 then s
  else
    let f := s.fault
    let top := if f.held && decide (sevCode sev ≤ sevCode f.heldSev) then f.heldSev else sev
    let t := { s with fault := { f with held := true, heldSev := top, quietFrom := some s.now } }
    if f.held then t else t.event Addr.faultEvents 3

/-- The region that a FENCE action names: that of a source inside a cluster or service core (R441). -/
def sourceRegion (src : SourceId) : Option Nat :=
  if !bit src 15 && decide (1 ≤ bits src 6 6 ∧ bits src 6 6 ≤ 5) then some (bits src 13 2) else none

/-- PWR_HEALTH.HEALTH is cleared (R391). -/
def State.clearHealth (s : State) : State := s.setFlag (Addr.pwrHealth 0) 0 false

/-- The actions of a reaction but the warm reset (R441). -/
def State.faultActions (s : State) (src : SourceId) (acts : Nat) : State :=
  let s := s.when (acts.testBit 0) fun s => s.eventIrq 0 1 Addr.faultEvents 0
  let s := s.when (acts.testBit 1) fun s => (s.event Addr.faultEvents 1).event Addr.cometMgmtEvents 0
  let s := s.each [0, 1, 2, 3] fun s n => s.when (acts.testBit (2 + n)) fun s => s.pend n 5
  let s := s.when (acts.testBit 6) fun s =>
    let cleared := s.fault.healthCleared || (s.fault.held && s.flag (Addr.pwrHealth 0) 0)
    { s.clearHealth with fault := { s.fault with healthCleared := cleared } }
  let s := match sourceRegion src with
    | none => s
    | some r => s.when (acts.testBit 7) fun s => (s.fenceRegion r).setFlag Addr.globalRegionState (8 + r) true
  s.when (acts.testBit 8) State.groupsSendOff

/-- A fall-back from a trial (R430): TRIAL_FALLBACK is raised and FALLBACK set; the warm reset follows its record, or at
once where a disabled BOOT unit raises none (R14). -/
def State.fallBack (s : State) : State :=
  if s.boot.sync == .trial && !s.boot.fallback then
    let s := ({ s with boot := { s.boot with fallback := true } }).event Addr.bootEvents 4
    if s.enabled .boot then s.raise .boot .trialFallback else s.warmReset (2 ^ 4)
  else s

/-- The causes of the warm reset that a record brings (R418): REACTION for the action, WARM for a fall-back. -/
def State.recordReset (s : State) (m : FaultMsg) (acts : Nat) : Nat :=
  (if acts.testBit 9 then 2 ^ 5 else 0)
    + (if s.boot.fallback && m.kind.toNat == kindCode .trialFallback then 2 ^ 4 else 0)

/-- A FATAL fault of a region's unit before release: the region is fenced at release (R403). -/
def State.noteFatal (s : State) (src : SourceId) : State :=
  match sourceRegion src with
  | none => s
  | some g =>
    if s.start.released then s
    else { s with start := { s.start with fatalRegions := s.start.fatalRegions ++ [g] } }

/-- A record commits (R436 to R444): count, history, mirror and first, hold, then the actions; a warm reset waits for
the mirror if the record goes there (R442), and a fault held at FATAL ends a trial (R429). -/
def State.commitFault (s : State) (m : FaultMsg) : State :=
  let r := s.reaction m
  let ws := recordWords m r.1
  let log := !r.2.testBit 10
  let warm := s.recordReset m r.2
  let hist := log && decide (s.field Addr.faultCtrl 2 2 ≤ sevCode r.1)
  let mirrored := hist && decide (s.field Addr.faultCtrl 4 2 ≤ sevCode r.1)
  let s := { s with fault := { s.fault with msgs := s.fault.msgs.erase m } }
  let s := if r.1 == .fatal then s.noteFatal m.src else s
  let s := s.inc (Addr.faultKindCount m.kind.toNat)
  let s := s.when log fun s => s.takeFirst r.1 ws
  let s := s.when hist fun s => s.takeHistory ws
  let p := if mirrored then s.takeMirror ws warm else (false, s)
  let s := (p.2.holdFault r.1).faultActions m.src r.2
  let s := if s.fault.heldSev == .fatal then s.fallBack else s
  if warm != 0 && !p.1 then s.warmReset warm else s

/-- R436: the next record commits. -/
def execFaultRecordCommit (s : State) : Host.Outcome State Fault Refusal :=
  match s.nextFault with
  | none => .next s
  | some m => if s.start.logicUp then .next (s.commitFault m) else .next s

/-- R439, R442: a COMET edge writes the oldest waiting record into the mirror. -/
def execMirrorWrite (s : State) : Host.Outcome State Fault Refusal :=
  if !s.start.logicUp then .next s else
  match s.fault.mirrorWait with
  | [] => .next s
  | e :: r =>
    let n := (s.reg Addr.cometFaultHead).toNat
    let s := { s with fault := { s.fault with mirrorWait := r } }
    let s := ((s.putRecord (Addr.cometFault (n % 16)) e.words).setReg (Addr.cometFaultNum (n % 16)) (word n)).setReg
      Addr.cometFaultHead (word (n + 1))
    let s := s.event Addr.cometMgmtEvents 3
    .next (if e.warm = 0 then s else s.warmReset e.warm)

/-- R445: the quiet timer reaches QUIET: the collector recovers, or latches; a record of DEGRADED or above that commits in the
same CORE cycle restarts the timer instead (R447). -/
def execFaultQuietExpiry (s : State) : Host.Outcome State Fault Refusal :=
  if !s.start.logicUp then .next s else
  let f := s.fault
  if !f.held || f.latched || f.quietFrom == some s.now then .next s
  else
    let limit := s.field Addr.faultCtrl 8 8
    if (limit != 0 && decide (limit ≤ f.windowCount + 1)) || (f.heldSev == .fatal && s.flag Addr.faultCtrl 7) then
      .next (({ s with fault := { f with latched := true } }).event Addr.faultEvents 6)
    else
      let restore := f.healthCleared && s.flag Addr.faultCtrl 6
      let t := { s with fault := { f with
        held := false, heldSev := .note, healthCleared := false, windowCount := min 255 (f.windowCount + 1),
        windowFrom := if f.windowCount = 0 then s.now else f.windowFrom } }
      let t := (t.inc Addr.faultRecoveryCount).event Addr.faultEvents 5
      .next (if restore then t.setFlag (Addr.pwrHealth 0) 0 true else t)

/-- R445: RECOVERY_WINDOW has passed since the first recovery that WINDOW_COUNT counts. -/
def execFaultWindowExpiry (s : State) : Host.Outcome State Fault Refusal :=
  if !s.start.logicUp then .next s else
  .next { s with fault := { s.fault with windowCount := 0 } }

/-- R446: a committed FAULT_INJECT arms an injection, and DONE and DETECTED are then its own, or disarms. -/
def State.injectArm (s : State) (v : Word) : State :=
  let x := s.fault.inject
  let t := bits v 0 4
  if 1 ≤ t ∧ t ≤ 7 then
    { s with fault := { s.fault with inject := { x with
      target := t, sel := bits v 4 2, double := bit v 6, armed := true, done := false, detected := false } } }
  else { s with fault := { s.fault with inject := { x with armed := false } } }

/-- R446: a commit attempt of FAULT_INJECT by its complement word. -/
def State.injectCommit (s : State) (compl : Word) : State :=
  match s.guardCompl Addr.faultInject compl with
  | (some v, t) => t.injectArm v
  | (none, t) => t

/-- A write into the FAULT block. -/
def State.faultWrite (s : State) (a : Nat) (v : Word) : State :=
  if a = Addr.faultEvents then s.sqWrite a v else s.plainWrite a v

/-- FAULT_STATE (R448). -/
def State.faultStateWord (s : State) : Word :=
  word (sevCode s.fault.heldSev + ofBool s.fault.held * 4 + ofBool s.fault.latched * 8 + s.fault.windowCount * 2 ^ 8)

/-- What a read of a FAULT word shows instead of the stored word (R448). -/
def State.faultView (s : State) (a : Nat) : Option Word :=
  let x := s.fault.inject
  if a = Addr.faultState then some s.faultStateWord
  else if a = Addr.faultInjectStatus then
    some (word (ofBool x.armed + ofBool x.done * 2 + ofBool x.detected * 4))
  else if a = Addr.faultInjectAddr then some (word (x.addr % 2 ^ 24))
  else none

end Sys2Proof.Machine
end

