-- ==== Sys2Proof/Machine/Boot.lean ====
section
/-! DEFINITION. Images and field update (chapter 18): the image format and its checks, the flash slots, staging, the
settings banks, and the trial of an installed image. -/

namespace Sys2Proof.Machine

/-- Where the model's memory holds flash, stored complemented so that an unlisted byte reads as erased flash, 0xFF (log
entry 32), and the settings bank CURRENT; PRIOR follows it (R427). -/
def flashBase : Nat := 0x10_0000_0000
def settingsBase : Nat := 0x20_0000_0000
def settingsSize : Nat := 0x4_0000

/-- The `n` bytes of flash at `a`. -/
def State.flashBytes (s : State) (a n : Nat) : List Byte :=
  (Memory.readBytes s.mem (flashBase + a) n).map fun b => ~~~ b

/-- The little-endian word of flash at `a`. -/
def State.flashWord (s : State) (a : Nat) : Word := word (leNat (s.flashBytes a 4))

/-- Flash with bytes programmed at `a` upwards. -/
def State.flashProgram (s : State) (a : Nat) (bs : List Byte) : State :=
  { s with mem := Memory.writeBytes s.mem (flashBase + a) (bs.map fun b => ~~~ b) }

/-- S, and the starts of the slots (R421). -/
def State.slotSize (s : State) : Nat := 2 ^ s.fuses.slotLog2 * 2 ^ 20
def activeSlot : Nat := 2 ^ 20
def State.previousSlot (s : State) : Nat := 2 ^ 20 + s.slotSize
def State.stagingSlot (s : State) : Nat := 2 ^ 20 + 2 * s.slotSize

/-- Erase the slot at `a`. -/
def State.eraseSlot (s : State) (a : Nat) : State :=
  { s with mem := s.mem.filter fun e => !decide (flashBase + a ≤ e.1 ∧ e.1 < flashBase + a + s.slotSize) }

/-- Copy the slot at `a` over the slot at `b`. -/
def State.copySlot (s : State) (a b : Nat) : State :=
  let src := s.mem.filter fun e => decide (flashBase + a ≤ e.1 ∧ e.1 < flashBase + a + s.slotSize)
  let t := s.eraseSlot b
  { t with mem := src.foldl (fun m e => Memory.setByte m (e.1 - a + b) e.2) t.mem }

/-- Header fields of the image in the slot at `a` (R420). -/
def State.imgSections (s : State) (a : Nat) : Nat := bits (s.flashWord (a + 0x04)) 16 8
def State.imgLen (s : State) (a : Nat) : Nat := (s.flashWord (a + 0x08)).toNat
def State.imgRollback (s : State) (a : Nat) : Nat := bits (s.flashWord (a + 0x0C)) 0 8
def State.imgVersion (s : State) (a : Nat) : Word := s.flashWord (a + 0x10)
def State.imgSetFormat (s : State) (a : Nat) : Nat := bits (s.flashWord (a + 0x14)) 0 16
def State.imgSetFrom (s : State) (a : Nat) : Nat := bits (s.flashWord (a + 0x14)) 16 16
def State.imgDigest (s : State) (a : Nat) : Nat := beNat (s.flashBytes (a + 0x20) 32)

/-- A section: its type, destination, length and offset in the image. -/
structure Section where
  typ : Nat
  dest : Nat
  len : Nat
  off : Nat
  deriving DecidableEq, Repr

/-- The sections of the image in the slot at `a`. -/
def State.imgTable (s : State) (a : Nat) : List Section :=
  (List.range (min 16 (s.imgSections a))).map fun k =>
    let w (i : Nat) : Nat := (s.flashWord (a + 0x80 + 16 * k + 4 * i)).toNat
    ⟨w 0, w 1, w 2, w 3⟩

/-- The header itself is in order: MAGIC, FORMAT, SECTIONS, the section types, and a length that fits the slot (R420,
R421). -/
def State.imgHeader (s : State) (a : Nat) : Bool :=
  (s.flashWord a).toNat == 0x3032_384D && bits (s.flashWord (a + 4)) 0 16 == 1
    && decide (1 ≤ s.imgSections a ∧ s.imgSections a ≤ 16 ∧ 0x180 + 128 ≤ s.imgLen a ∧ s.imgLen a ≤ s.slotSize)
    && (s.imgTable a).all fun x => decide (1 ≤ x.typ ∧ x.typ ≤ 4)

/-- The end of the last section. -/
def sectionEnd (l : List Section) : Nat := l.foldl (fun m x => max m (x.off + x.len)) 0x180

/-- IMAGE_DIGEST matches, and KEY is the owner's (R420). -/
def State.imgDigestOk (s : State) (a : Nat) : Bool :=
  Config.sha256 (s.flashBytes (a + 0x180) (sectionEnd (s.imgTable a) - 0x180)) == s.imgDigest a
    && Config.sha256 (s.flashBytes (a + s.imgLen a - 128) 64) == s.fuses.ownerKey

/-- The signature verifies (R420). -/
def State.imgSigned (s : State) (a : Nat) : Bool :=
  Config.ecdsaVerify (s.flashBytes (a + s.imgLen a - 128) 64) (Config.sha256 (s.flashBytes a 0x180))
    (s.flashBytes (a + s.imgLen a - 64) 64)

/-- PARTS admits this part (R420). -/
def State.imgParts (s : State) (a : Nat) : Bool := bit (s.flashWord (a + 0x0C)) (if s.fuses.pairCapable then 9 else 8)

/-- The RESULT of a COMMIT on the image in the slot at `a` (R424): ROLLBACK first, then the part bits last. -/
def State.imgCheck (s : State) (a : Nat) : Nat :=
  if s.imgRollback a < s.fuses.rollback then 8
  else if !s.imgHeader a || !s.imgDigestOk a then 7
  else if !s.imgParts a then 9
  else 0

/-- The image in the slot at `a` is valid (R420). -/
def State.imgValid (s : State) (a : Nat) : Bool := s.imgCheck a == 0 && s.imgSigned a

/-- The words of a section: address and value pairs, or a block of words at its destination. -/
def State.sectionWords (s : State) (a : Nat) (x : Section) : List (Nat × Word) :=
  if x.typ = 1 then
    (List.range (x.len / 8)).map fun i =>
      ((s.flashWord (a + x.off + 8 * i)).toNat, s.flashWord (a + x.off + 8 * i + 4))
  else (List.range (x.len / 4)).map fun i => (x.dest + 4 * i, s.flashWord (a + x.off + 4 * i))

/-- The configuration that the image in the slot at `a` writes: sections of types 1 to 3 (R420). -/
def State.imgWords (s : State) (a : Nat) : List (Nat × Word) :=
  ((s.imgTable a).filter fun x => x.typ != 4).flatMap (s.sectionWords a)

/-- The settings defaults of the image in the slot at `a`, by offset in the bank. -/
def State.imgDefaults (s : State) (a : Nat) : List (Nat × Word) :=
  ((s.imgTable a).filter fun x => x.typ == 4).flatMap (s.sectionWords a)

/-- The higher feed voltage is below UPDATE_MIN_V (R424). -/
def State.feedLow (s : State) : Bool :=
  decide (max (Store.get {} s.power.feeds 0).voltage (Store.get {} s.power.feeds 1).voltage < s.field Addr.bootMinV 0 16)

/-- The state refuses an update, the lowest RESULT first; 0 for none (R424). -/
def State.updateRefusal (s : State) : Nat :=
  if s.flag Addr.bootLock 0 then 3
  else if s.feedLow then 4
  else if s.flag Addr.bootProtect 0 then 5
  else if s.boot.sync == .trial then 6
  else 0

/-- A BOOT_CMD fails with a RESULT. -/
def State.bootFail (s : State) (r : Nat) : State := { s with boot := { s.boot with result := r } }

/-- An update is refused by the state: REFUSED is set and UPDATE_REFUSED_STATE raised (R424). -/
def State.bootRefuse (s : State) (r : Nat) : State :=
  ((s.bootFail r).event Addr.bootEvents 1).raise .boot .updateRefusedState r

/-- A BOOT_CMD starts: STATE is BUSY, and `next` when it ends (R423). -/
def State.bootStart (s : State) (cmd : Nat) (next : BootSync) : State :=
  { s with boot := { s.boot with sync := .busy, job := cmd, next := next, was := s.boot.sync, since := s.now } }

/-- PROTECTION_ACTIVE or OWNER_LOCK is set, with its RESULT: a COMMIT that committed in the same CORE cycle is refused
(R424). -/
def State.commitRefuse (s : State) (r : Nat) : State :=
  let b := s.boot
  if b.sync == .busy && b.job == 3 && b.since == s.now then
    ({ s with boot := { b with sync := b.was, job := 0 } }).bootRefuse r
  else s

/-- The bytes of the transfer buffer that PROGRAM writes (R423, R431). -/
def State.xferBytes (s : State) : List Byte :=
  let n := clamp 4 4096 (s.field Addr.bootXferLen 0 13)
  (bytesOfWords ((List.range 1024).map fun i => s.reg (Addr.bootXferBuf i))).take (n / 4 * 4)

/-- A committed BOOT_CMD of initiator `i` (R423, R424): BUSY first, then the owner, then the state. -/
def State.bootCmd (s : State) (i : Initiator) (cmd : Nat) : State :=
  let b := s.boot
  let mine := b.owner == some i || (b.owner == none && cmd == 1)
  if cmd = 0 ∨ 4 < cmd then s
  else if b.sync == .busy then s.bootFail 1
  else if !mine then s.bootFail 2
  else
    let no := if cmd = 1 ∨ cmd = 3 then s.updateRefusal else 0
    if no != 0 then s.bootRefuse no
    else
      match cmd with
      | 1 => ({ s with boot := { b with owner := some i } }).eraseSlot s.stagingSlot |>.bootStart 1 .receiving
      | 2 =>
        let off := s.field Addr.bootXferOffset 0 27
        let bs := s.xferBytes
        if s.slotSize < off + bs.length then s.bootFail 10
        else (s.flashProgram (s.stagingSlot + off) bs).bootStart 2 b.sync
      | 3 => s.bootStart 3 .staged
      | _ => s.bootStart 4 .idle

/-- The BOOT_CMD in progress ends (R423, R424): COMMIT has checked the image; a failing one leaves STAGING empty and
STATE IDLE (DESIGN CHOICE, log entry 33). -/
def State.bootDone (s : State) : State :=
  let b := s.boot
  match b.job with
  | 3 =>
    let r := s.imgCheck s.stagingSlot
    if r = 0 then ({ s with boot := { b with sync := .staged, job := 0, result := 0 } }).event Addr.bootEvents 0
    else
      let t := { s with boot := { b with sync := .idle, job := 0, result := r } }
      if r = 8 then (t.event Addr.bootEvents 6).raise .boot .imageRollbackRefused else t
  | 4 => { s with boot := { b with sync := .idle, job := 0, result := 0, owner := none } }
  | _ => { s with boot := { b with sync := b.next, job := 0, result := 0 } }

/-- A committed BOOT_HEALTH_CONFIRM.CONFIRM (R429). -/
def State.bootConfirm (s : State) : State :=
  let b := s.boot
  if b.sync == .trial && !b.fallback then
    let count := max s.fuses.rollback (s.imgRollback activeSlot)
    ({ s with
        fuses := { s.fuses with rollback := count },
        boot := { b with
          sync := .idle, priorHeld := false, priFormat := 0,
          prevOk := b.prevOk && decide (count ≤ s.imgRollback s.previousSlot) } }).event Addr.bootEvents 3
  else s

/-- TRIAL_WINDOW in s (R431). -/
def State.trialWindow (s : State) : Nat := clamp 10 86400 (s.field Addr.bootTrial 0 17)

/-- R429: a second of release during a trial. -/
def execTrialSecond (s : State) : Host.Outcome State Fault Refusal :=
  if s.boot.sync == .trial && s.start.logicUp && s.start.released then
    .next { s with boot := { s.boot with elapsed := s.boot.elapsed + 1 } }
  else .next s

/-- R429, R430: TRIAL_ELAPSED has reached TRIAL_WINDOW. -/
def execTrialWindowExpiry (s : State) : Host.Outcome State Fault Refusal :=
  if s.boot.sync == .trial && decide (s.trialWindow ≤ s.boot.elapsed) then .next s.fallBack else .next s

/-- Where BOOT_SET_ADDR points in the model's memory (R427, R431). -/
def State.settingsAt (s : State) : Nat :=
  settingsBase + (if s.flag Addr.bootSetAddr 18 then settingsSize else 0) + s.field Addr.bootSetAddr 2 16 * 4

/-- The KIND that an access to BOOT_SET_DATA raises (R427, R428). -/
def State.settingsKind (s : State) (isWrite : Bool) : Option Nat :=
  if s.boot.past then some 4
  else if isWrite && s.flag Addr.bootSetAddr 18 && s.boot.priorHeld then some 5
  else none

/-- BOOT_SET_ADDR advances by 4 within its bank, and is past it after the last word (R427). -/
def State.settingsNext (s : State) : State :=
  let o := s.field Addr.bootSetAddr 0 18
  let s := s.setField Addr.bootSetAddr 0 18 (o + 4)
  { s with boot := { s.boot with past := decide (settingsSize ≤ o + 4) } }

/-- A valid read of BOOT_SET_DATA, and a valid write (R427). -/
def State.settingsRead (s : State) : Word × State := (Memory.word s.mem s.settingsAt, s.settingsNext)
def State.settingsWrite (s : State) (v : Word) : State :=
  ({ s with mem := Memory.setWord s.mem s.settingsAt v }).settingsNext

/-- A write into the BOOT/UPDATE block (R425, R427, R431). -/
def State.bootWrite (s : State) (i : Initiator) (a : Nat) (v : Word) : State :=
  if a = Addr.bootEvents then s.sqWrite a v
  else if a = Addr.bootProtect then 
    if i == .host then (s.plainWrite a v).when (bit v 0) fun t => t.commitRefuse 5 else s
  else if a = Addr.bootSetAddr then
    let t := s.plainWrite a v
    { t with boot := { t.boot with past := false } }
  else if a = Addr.bootSetData then s.settingsWrite v
  else s.plainWrite a v

/-- BOOT_STATUS (R431). -/
def State.bootStatus (s : State) : Word :=
  let b := s.boot
  let st := match b.sync with
    | .idle => 0 | .receiving => 1 | .busy => 2 | .staged => 3 | .trial => 4
  word (st + b.running % 4 * 2 ^ 3 + b.result % 16 * 2 ^ 8 + (b.owner.map initCode).getD 0 * 2 ^ 12
    + s.fuses.rollback % 256 * 2 ^ 16)

/-- VERSION of the image in the slot at `a`, 0 with no image there. -/
def State.slotVersion (s : State) (a : Nat) : Word :=
  if (s.flashWord a).toNat = 0x3032_384D then s.imgVersion a else 0

/-- What a read of a BOOT/UPDATE word shows instead of the stored word (R431). -/
def State.bootView (s : State) (a : Nat) : Option Word :=
  let b := s.boot
  if a = Addr.bootStatus then some s.bootStatus
  else if a = Addr.bootTrialElapsed then some (word (b.elapsed % 2 ^ 17))
  else if a = Addr.bootActiveVersion then some (s.slotVersion activeSlot)
  else if a = Addr.bootPreviousVersion then some (if b.prevOk then s.slotVersion s.previousSlot else 0)
  else if a = Addr.bootStagingVersion then some (if b.sync == .staged then s.slotVersion s.stagingSlot else 0)
  else if a = Addr.bootSettings then some (word (b.curFormat.toNat + b.priFormat.toNat * 2 ^ 16))
  else none

end Sys2Proof.Machine
end

