-- ==== Sys2Proof/Machine/CfgScan.lean ====
section
/-! DEFINITION. The configuration scan (R55 to R57): the scan set, its CRC, the comparison, and a new reference. -/

namespace Sys2Proof.Machine

/-- The scan set in ascending local address order (R55). -/
def scanSet : List Nat :=
  ((List.range 0x30_4000).map fun i => 4 * i).filter fun a =>
    match regRow a with
    | none => false
    | some r => r.scan

/-- A word as the scan takes it (R55): as read, without the fields that hardware writes, which count as 0. These are RST_BUSY
of a unit control word (R11), PWR_HEALTH.HEALTH (R391, R407) and LINK_BYPASS_CTRL.FORCE (R414) (log entry 125). -/
def State.scanWord (s : State) (a : Nat) : Word :=
  if a = Addr.pwrHealth 0 then setBit (s.reg a) 0 false
  else if a = Addr.linkBypassCtrl 0 then setBit (s.reg a) 1 false
  else
    match ownerOf a with
    | some u => if a = unitCtrl u then setBit (s.unitCtrlView u) 2 false else s.reg a
    | none => s.reg a

/-- The CRC of a full scan (R55), of the words as they stand when the scan ends (log entry 125). -/
def State.scanCrc (s : State) : Word := crc32c (bytesOfWords (scanSet.map s.scanWord))

/-- CFG_DRIFT is raised: its address field holds REGIF_CFG_CRC_LAST (R446). -/
def State.cfgDrift (s : State) (injected : Bool) : State :=
  s.raise .regif .cfgDrift (ofBool injected) (some (BitVec.ofNat 48 (s.reg Addr.regifCfgCrcLast).toNat))

/-- An armed injection of target 7 inverts bit 0 of REGIF_CFG_CRC_REF (R446): the answer tells whether it did. -/
def State.injectRef (s : State) : Bool × State :=
  let x := s.fault.inject
  if x.armed && x.target == 7 then
    (true, { s.setReg Addr.regifCfgCrcRef (s.reg Addr.regifCfgCrcRef ^^^ 1) with
      fault := { s.fault with inject := { x with
        armed := false, done := true, detected := false, addr := Addr.regifCfgCrcRef } } })
  else (false, s)

/-- The result of a completed scan is compared with the reference (R56). -/
def State.scanCompare (s : State) : State :=
  let p := s.injectRef
  let s := p.2
  if s.reg Addr.regifCfgCrcLast = s.reg Addr.regifCfgCrcRef then
    { s.setFlag Addr.regifCfgCrcStatus 1 false with cfg := { s.cfg with drifted := false } }
  else
    let t := { s.setFlag Addr.regifCfgCrcStatus 1 true with cfg := { s.cfg with drifted := true } }
    if s.cfg.drifted then t
    else
      let hit := t.fault.inject.addr == Addr.regifCfgCrcRef
      let t := if hit then
          { t with fault := { t.fault with inject := { t.fault.inject with detected := true } } } else t
      t.cfgDrift hit

/-- R56: a full scan completes; one during which a suspension began or ended is not compared, and MISMATCH then keeps its
value (DESIGN CHOICE, log entry 126). -/
def execCfgCrcScanComplete (s : State) : Host.Outcome State Fault Refusal :=
  if !s.start.logicUp then .next s else
  if !s.flag Addr.regifCfgCrcCtrl 0 then .next s
  else
    let n := s.field Addr.regifCfgCrcStatus 16 16
    let t := (s.setReg Addr.regifCfgCrcLast s.scanCrc).setField Addr.regifCfgCrcStatus 16 16 (n + 1)
    let t := if s.scanSuspended || s.cfg.tainted then t else t.scanCompare
    .next { t with cfg := { t.cfg with tainted := false } }

/-- A committed REGIF_CFG_CRC_REF clears HOLD (R57). -/
def State.refCommit (s : State) : State := s.noteSuspend (s.setFlag Addr.regifCfgCrcCtrl 1 false)

/-- A write into the REGIF block other than UNIT_CTRL (R41). -/
def State.regifWrite (s : State) (a : Nat) (v : Word) : State :=
  if a = Addr.regifBerrStatus then s.sqWrite a v
  else s.noteSuspend (s.plainWrite a v)

/-- What a read of a REGIF word shows instead of the stored word (R41). -/
def State.regifView (s : State) (a : Nat) : Option Word :=
  if a = Addr.regifCfgCrcStatus then
    some (setBit (setBit (s.reg a) 2 s.scanSuspended) 0 (s.flag Addr.regifCfgCrcCtrl 1))
  else none

end Sys2Proof.Machine
end

