-- ==== Sys2Proof/Machine/Start.lean ====
section
/-! DEFINITION. Reset, start-up and hibernate (chapter 17). -/

namespace Sys2Proof.Machine

/-- R400, R398: the logic power-on reset is released: straps are sampled, FRC starts, and phase 3 begins. -/
def execLogicPorRelease (bootMode : Fin 4) (s : State) : Host.Outcome State Fault Refusal :=
  if (!s.start.logicUp || s.start.phase == 0) && s.power.logicEn && s.comet.vaon && s.comet.power != .hibernate then
    .next { s.wakeRegions with
      frc := 0
      comet := { s.comet with power := .starting }
      start := { s.start with
        logicUp := true, phase := 3, bootMode := bootMode.val, ephHold := true,
        pcieFrom := if s.host.perst then some 0 else none } }
  else .next s

/-- R482: LOGIC_PG is low; a hub that hibernates loses what its retained regions hold. -/
def execLogicSupplyLoss (s : State) : Host.Outcome State Fault Refusal :=
  if s.comet.power == .hibernate then
    let t := (s.logicReset 0).gateRegions 0
    .next { t with comet := { t.comet with digest := none } }
  else .next (s.logicDown (2 ^ 2) 0)

/-- R397: RESET_N is low; it has no effect while the hub hibernates (R415). -/
def execResetNAssert (s : State) : Host.Outcome State Fault Refusal :=
  if s.comet.power == .hibernate then .next s else .next (s.logicDown (2 ^ 3) 0)

/-- The address lies in the COMET block or is GLOBAL_RESET_CAUSE. -/
def cometReg (a : Nat) : Bool := decide (0xC0_0000 ≤ a ∧ a < 0xC1_0000) || a == Addr.globalResetCause

/-- Comet's power-on reset (R397, R411): its registers, keep-time and GLOBAL_RESET_CAUSE. -/
def State.cometReset (s : State) : State :=
  { s with
    regs := s.regs.filter fun e => !cometReg e.1
    guards := s.guards.filter fun e => !cometReg e.1
    canWakes := []
    mgmt := {}
    comet :=
      { power := if s.start.released then .run else .starting, wake0 := s.comet.wake0, wake1 := s.comet.wake1,
        vaon := s.comet.vaon } }

/-- R397, R482: the always-on supply has risen; a start follows if a feed conducts. -/
def execCometPor (s : State) : Host.Outcome State Fault Refusal :=
  let t := s.cometReset
  let t := { t with comet := { t.comet with vaon := true } }
  .next (if t.feedOn then t.feedStart else t)

/-- R482: the always-on supply has fallen: Comet is in its power-on reset and LOGIC_EN is low. -/
def execVaonLoss (s : State) : Host.Outcome State Fault Refusal :=
  let t := s.cometReset
  .next ({ t with comet := { t.comet with vaon := false } }).lowerLogic

/-- R397: PERST_N falls or a hot reset begins: the HOST unit is reset. -/
def execPerstAssert (s : State) : Host.Outcome State Fault Refusal :=
  let t := s.unitReset .host
  .next { t with host := { t.host with perst := false, up := false } }

/-- R410, R462: the PCIe reset has ended; the host unit trains again. -/
def execPerstDeassert (s : State) : Host.Outcome State Fault Refusal :=
  if s.host.perst then .next s
  else
    let t := { s with
      host := { s.host with perst := true }
      start := { s.start with pcieFrom := if s.start.logicUp then some s.now else none } }
    .next (t.eventIrq 2 7 Addr.hostEvents 2)

/-- R400: the fuses are loaded, or the hub stays in phase 3. -/
def execFuseLoadComplete (ok : Bool) (s : State) : Host.Outcome State Fault Refusal :=
  if s.start.logicUp && s.start.phase == 3 then
    .next { s with start := { s.start with phase := if ok then 4 else 3, fuseFail := !ok } }
  else .next s

/-- Load CURRENT with the settings defaults of the image in the slot at `a` (R428). -/
def State.loadDefaults (s : State) (a : Nat) : State :=
  let t := { s with mem := s.mem.filter fun e => !decide (settingsBase ≤ e.1 ∧ e.1 < settingsBase + settingsSize) }
  t.each (s.imgDefaults a) fun t e =>
    if e.1 < settingsSize then { t with mem := Memory.setWord t.mem (settingsBase + e.1) e.2 } else t

/-- Copy one settings bank over the other. -/
def State.copySettings (s : State) (src dst : Nat) : State :=
  let cells := s.mem.filter fun e => decide (src ≤ e.1 ∧ e.1 < src + settingsSize)
  let kept := s.mem.filter fun e => !decide (dst ≤ e.1 ∧ e.1 < dst + settingsSize)
  { s with mem := cells.foldl (fun m e => Memory.setByte m (e.1 - src + dst) e.2) kept }

/-- The settings are frozen as an image is installed (R426 step 4, R428): it starts from its defaults where the formats
differ, or where it does not convert the format that PRIOR has. -/
def State.freezeSettings (s : State) : State :=
  let f := s.imgSetFormat activeSlot
  let t := s.copySettings settingsBase (settingsBase + settingsSize)
  let t := { t with boot := { t.boot with priFormat := s.boot.curFormat, priorHeld := true } }
  if f = s.boot.curFormat.toNat ∧ s.imgSetFrom activeSlot ≤ f then t
  else
    let t := t.loadDefaults activeSlot
    { t with boot := { t.boot with curFormat := BitVec.ofNat 16 f } }

/-- IMAGE_AUTH_FAIL with its event (R402, R431). -/
def State.authFail (s : State) : State := (s.event Addr.bootEvents 5).raise .boot .imageAuthFail

/-- A STAGED image is installed at this start, deferred, or found bad (R426). -/
def State.install (s : State) : State :=
  if !s.imgValid s.stagingSlot then { s.authFail with boot := { s.authFail.boot with sync := .idle } }
  else if s.feedLow then (s.event Addr.bootEvents 1).raise .boot .updateRefusedState 4
  else
    let t := (s.copySlot activeSlot s.previousSlot).copySlot s.stagingSlot activeSlot
    let t := { t with boot := { t.boot with sync := .trial, elapsed := 0, prevOk := true } }
    t.freezeSettings.event Addr.bootEvents 2

/-- The copy of a fall-back (R430): PREVIOUS becomes ACTIVE, and PRIOR becomes CURRENT. -/
def State.fallBackCopy (s : State) : State :=
  let t := (s.copySlot s.previousSlot activeSlot).copySettings (settingsBase + settingsSize) settingsBase
  ({ t with boot := { t.boot with
      sync := .idle, fallback := false, curFormat := t.boot.priFormat, priFormat := 0, priorHeld := false } }).event
    Addr.bootEvents 4

/-- What comes before phase 4 (R426, R430). While flash cannot be read there is nothing to verify or to copy, and the
journal waits for a start that can read it (DESIGN CHOICE, log entry 154). -/
def State.journal (s : State) (flashOk : Bool) : State :=
  if !flashOk then s
  else if s.boot.fallback then s.fallBackCopy
  else if s.boot.sync == .staged then s.install
  else s

/-- The load ends with a configuration; phase 5 begins. -/
def State.loaded (s : State) (src : ImageSource) (slot : Nat) (ws : List (Nat × Word)) : State :=
  { s with
    image := ws
    boot := { s.boot with running := slot }
    start := { s.start with phase := 5, source := src, cacheWrite := src == .flash } }

/-- A load from flash (R402, R422); every region is reloaded (R416). -/
def State.loadFlash (s : State) (flashOk : Bool) : State :=
  let s := { s with start := { s.start with flashFail := s.start.flashFail || !flashOk }, comet := { s.comet with digest := none } }
  if flashOk && s.imgValid activeSlot then s.loaded .flash 0 (s.imgWords activeSlot)
  else
    let s := s.authFail
    if flashOk && s.boot.prevOk && s.imgValid s.previousSlot then s.loaded .flash 1 (s.imgWords s.previousSlot)
    else
      let s := s.authFail.loaded .none 2 []
      { s with start := { s.start with noImage := true, transitCause := 1 } }

/-- The MRAM cache is valid (R401). -/
def State.cacheOk (s : State) (flashOk : Bool) : Bool :=
  s.cache.valid && decide (s.fuses.rollback ≤ s.cache.rollback)
    && (!flashOk || s.cache.digest == s.imgDigest activeSlot)

/-- R401, R402, R398: the configuration is read and checked; `flashOk`: flash can be read. -/
def execImageLoadComplete (flashOk : Bool) (s : State) : Host.Outcome State Fault Refusal :=
  if !(s.start.logicUp && s.start.phase == 4) then .next s
  else
    let s := s.journal flashOk
    if s.start.bootMode = 2 then
      let t := s.loaded .none 2 []
      .next { t with start := { t.start with transitCause := 1 } }
    else if s.start.bootMode = 1 then
      .next (({ s with cache := { s.cache with valid := false } }).loadFlash flashOk)
    else if !s.start.crcRetry && s.cacheOk flashOk then
      let s := { s with start := { s.start with flashFail := s.start.flashFail || !flashOk } }
      .next (s.loaded .mram 0 s.cache.words)
    else .next (s.loadFlash flashOk)

/-- The digest of the configuration in use (R414). -/
def State.usedDigest (s : State) : Option Nat :=
  match s.start.source with
  | .none => none
  | .mram => some s.cache.digest
  | .flash => some (s.imgDigest (if s.boot.running = 1 then s.previousSlot else activeSlot))

/-- The reference CRC that the image gives (R405). -/
def State.imageRef (s : State) : Option Word :=
  (s.image.find? fun e => e.1 == Addr.regifCfgCrcRef).map (·.2)

/-- R405: phase 7's scan ends: the node goes on to release, runs phases 4 to 7 once more from flash, or is to be
released in Transit. -/
def execCheckScanComplete (s : State) : Host.Outcome State Fault Refusal :=
  if !(s.start.logicUp && (s.start.phase == 6 || s.start.phase == 7)) then .next s
  else
    match s.imageRef with
    | none => .next { s with start := { s.start with phase := 8 } }
    | some ref =>
      let t := (s.setReg Addr.regifCfgCrcRef ref).setReg Addr.regifCfgCrcLast s.scanCrc
      if t.scanCrc = ref then .next { t with start := { t.start with phase := 8 } }
      else
        let t := { t with cache := { t.cache with valid := false } }
        if t.start.crcRetry then
          let t := t.cfgDrift false
          .next { t with start := { t.start with phase := 8, transitCause := 3, cacheWrite := false } }
        else .next { t with start := { t.start with phase := 4, crcRetry := true } }

/-- The release steps of a node that is not in Transit, but steps 1 and 6 (R407). -/
def State.releaseSteps (s : State) : State :=
  let r := s.reg Addr.globalRelease
  let s := { s with start := { s.start with driven := true, waitLock := bit r 10, ephHold := bit r 10 } }
  let s := s.each (List.range 4) fun s n =>
    if s.flag (Addr.svcCtrl n) 1 && s.enabled (coreUnit n) && (s.core n).sync == .halted then
      (s.setCorePc n (s.reg (Addr.svcResetPc n))).coreRun n false
    else s
  let s := if s.ephRuns then s.ephMarkAll else s
  let s := s.each (List.range 8) fun s g =>
    if bit r g then if (s.group g).sync == .tripped then s else s.groupSend g true
    else if (s.group g).live && !bit r 8 then s.groupSend g false
    else s
  if bit r 9 then s.setFlag (Addr.pwrHealth 0) 0 true else s

/-- The release of a node in Transit (R408): held groups are commanded OFF and HEALTH is 0. -/
def State.releaseTransit (s : State) (cause : Nat) : State :=
  let s := (s.each (List.range 8) fun s g => if (s.group g).live then s.groupSend g false else s).clearHealth
  if s.ring.sync == .transit then s else s.enterTransit cause

/-- The cause with which the node is released in Transit, 0 for none: one that start-up found, the one of a hub that is in
Transit, or one that stands as an enabled ring engine starts (R224, R225, R407, log entry 127). -/
def State.releaseCause (s : State) : Nat :=
  if s.start.transitCause ≠ 0 then s.start.transitCause
  else if s.ring.sync == .transit then s.ring.cause
  else if s.enabled .ring then s.standingCause
  else 0

/-- The end of release: the access limits end, USB attaches, and start-up is over (R407 steps 1 and 6, R409, R410). -/
def State.releaseEnd (s : State) : State :=
  let writing := s.start.cacheWrite
  let s := { s with
    start := { s.start with
      released := true, configReady := true, retained := 0, startTime := min 65535 (s.now / 4000) }
    comet := { s.comet with power := .run }
    cache := if writing then { s.cache with valid := false } else s.cache
    usb := { s.usb with sync := .default } }
  (s.event Addr.usbEvents 0).ringJoin

/-- R407, R408: release; a region whose self-test raised a FATAL fault is fenced (R403). -/
def execRelease (s : State) : Host.Outcome State Fault Refusal :=
  if s.start.logicUp && s.start.phase == 8 && !s.start.released then
    let c := s.releaseCause
    let t := if c = 0 then s.releaseSteps else s.releaseTransit c
    .next (t.each s.start.fatalRegions State.fenceRegion).releaseEnd
  else .next s

/-- R402: the background write of a flash load into the MRAM cache is complete. -/
def execCacheWriteComplete (s : State) : Host.Outcome State Fault Refusal :=
  if s.start.released && s.start.cacheWrite then
    let slot := if s.boot.running = 1 then s.previousSlot else activeSlot
    .next { s with
      cache := { valid := true, digest := s.imgDigest slot, rollback := s.imgRollback slot, words := s.image }
      start := { s.start with cacheWrite := false } }
  else .next s

/-- R410: 85 ms after reset release for PCIe. -/
def execPcieCrsLimit (s : State) : Host.Outcome State Fault Refusal :=
  if s.start.logicUp && s.start.pcieFrom.isSome && !s.start.configReady then
    .next { s with start := { s.start with configReady := true, pcieEarly := !s.start.released } }
  else .next s

/-- Comet stores an anchor (R411). -/
def State.storeAnchor (s : State) : State :=
  let ns := s.timeNs
  let kt := s.comet.kt.toNat
  let t := (((s.setReg Addr.cometAnchorNsLo (word ns)).setReg Addr.cometAnchorNsHi (word (ns / 2 ^ 32))).setReg
    Addr.cometAnchorKtLo (word kt)).setReg Addr.cometAnchorKtHi (word (kt / 2 ^ 32))
  let ok := s.comet.xtalOk
  { t with comet := { t.comet with ktValid := t.comet.ktValid || ok, anchorValid := t.comet.anchorValid || ok } }

/-- R411: a whole second in LOCKED or HOLDOVER. -/
def execAnchorStore (s : State) : Host.Outcome State Fault Refusal :=
  if s.start.logicUp && (s.time.sync == .locked || s.time.sync == .holdover) then .next s.storeAnchor else .next s

/-- R411: the crystal has stopped for 1 ms. -/
def execXtalStop (s : State) : Host.Outcome State Fault Refusal :=
  .next { s with comet := { s.comet with stopped := true, xtalOk := false, ktValid := false, anchorValid := false } }

/-- The enabled wake pins at their active levels (R415). -/
def State.wakePins (s : State) : List Nat :=
  [0, 1].filter fun k =>
    s.flag Addr.cometHibCtrl (8 + k) && ((if k = 0 then s.comet.wake0 else s.comet.wake1) != s.flag Addr.cometHibCtrl (12 + k))

/-- COMET_KT_ALARM. -/
def State.ktAlarm (s : State) : Nat :=
  (s.reg Addr.cometKtAlarmLo).toNat + bits (s.reg Addr.cometKtAlarmHi) 0 16 * 2 ^ 32

/-- Why an entry is refused, 0 for none (R414). -/
def State.entryRefusal (s : State) : Nat :=
  let c := s.reg Addr.cometHibCtrl
  if bits c 8 4 = 0 ∧ bits c 16 8 = 0 then 1
  else if bit c 11 ∧ (!bit c 0 ∨ s.ktAlarm ≤ s.comet.kt.toNat) then 2
  else if (List.range 8).any fun n => bit c (16 + n) && (s.can n).sync != .sleep then 3
  else if !s.wakePins.isEmpty then 4
  else 0

/-- A committed COMET_HIB_CMD.ENTER of a hub in RUN (R414): it is refused, or steps 1 to 5 run. -/
def State.hibEnter (s : State) : State :=
  if s.comet.power != .run || !s.start.released then s
  else
    let why := s.entryRefusal
    let s := s.setField Addr.cometWakeInfo 8 4 why
    if why != 0 then (s.event Addr.cometWakeStatus 7).event Addr.cometMgmtEvents 1
    else
      let s := { s with comet := { s.comet with power := .entering } }
      let s := s.groupsSendOff.clearHealth.ringLeave
      let s := s.bypassWrite (setBit (s.reg (Addr.linkBypassCtrl 0)) 1 true)
      let s := s.storeAnchor
      { s with comet := { s.comet with digest := s.usedDigest } }

/-- R414 step 6: the die link is shut down as planned, and the logic die but its retained regions sleeps. -/
def execHibernateEntryComplete (s : State) : Host.Outcome State Fault Refusal :=
  if s.comet.power != .entering then .next s
  else
    let c := s.reg Addr.cometHibCtrl
    let retain := bits c 4 4
    let s := { s with
      comet := { s.comet with
        power := .hibernate
        xtalOk := s.comet.xtalOk && bit c 0
        ktValid := s.comet.ktValid && bit c 0
        anchorValid := s.comet.anchorValid && bit c 0 }
      dieLink := { s.dieLink with up := false } }
    let s := ((s.groupsOff).logicDown 0 retain).gateRegions retain
    .next (if retain = 0 then s.lowerLogic else s)

/-- A wake condition with its flag and code (R414, R415): a hibernating hub starts, and an entry is abandoned. -/
def State.wake (s : State) (flag code : Nat) : State :=
  match s.comet.power with
  | .hibernate => (s.wakeMark flag code).wakeStart
  | .entering => ((s.wakeMark flag code).event Addr.cometWakeStatus 6).warmReset (2 ^ 6)
  | .starting => if s.comet.wokeAt == some s.cometEdge then s.wakeMark flag code else s
  | .run => s

/-- R415: a wake pin takes its active level, `held` for 10 µs or more; a shorter pulse leaves it at its inactive level. -/
def execWakePinAssert (pin : Fin 2) (held : Bool) (s : State) : Host.Outcome State Fault Refusal :=
  let level := held != s.flag Addr.cometHibCtrl (12 + pin.val)
  let t := { s with comet :=
    if pin = 0 then { s.comet with wake0 := level } else { s.comet with wake1 := level } }
  if held && s.flag Addr.cometHibCtrl (8 + pin.val) then .next (t.wake pin.val (1 + pin.val)) else .next t

/-- R415: KT equals COMET_KT_ALARM in mode 1. -/
def execKtAlarm (s : State) : Host.Outcome State Fault Refusal :=
  if s.flag Addr.cometHibCtrl 11 && s.flag Addr.cometHibCtrl 0 && s.ktAlarm == s.comet.kt.toNat then .next (s.wake 4 5)
  else .next s

/-- Keep-time runs on by one CLOCK period (R411): 32 of 390,625 parts of a tick, unless the crystal is off or stopped. -/
def State.ktTick (s : State) : State :=
  let c := s.comet
  if !c.vaon || c.stopped || (c.power == .hibernate && !s.flag Addr.cometHibCtrl 0) then s
  else
    let f := c.ktFrac + 32
    let c := { c with xtalOk := true }
    { s with comet := if f < 390625 then { c with ktFrac := f } else { c with ktFrac := f - 390625, kt := c.kt + 1 } }

/-- OFFSET as start-up seeds it (R412), in 2^-16 ns: a tick of KT is 2,000,000,000 of them. -/
def State.seedOffset (s : State) : BitVec 80 :=
  if s.comet.ktValid && s.comet.anchorValid then
    let ns := (s.reg Addr.cometAnchorNsLo).toNat + (s.reg Addr.cometAnchorNsHi).toNat * 2 ^ 32
    let kt := (s.reg Addr.cometAnchorKtLo).toNat + bits (s.reg Addr.cometAnchorKtHi) 0 16 * 2 ^ 32
    let ticks := (s.comet.kt.toNat + 2 ^ 48 - kt) % 2 ^ 48
    BitVec.ofInt 80 (Int.ofNat (ns * 65536 + ticks * 2_000_000_000 + s.comet.ktFrac * 5120) - runTime s.now s.rate)
  else 0

/-- What a read of a GLOBAL word shows instead of the stored word (R418). -/
def State.globalView (s : State) (a : Nat) : Option Word :=
  let x := s.start
  let src := match x.source with
    | .none => 0 | .mram => 1 | .flash => 2
  if a = Addr.globalId then
    some (word (0x0820_B000 + ofBool s.fuses.pairCapable * 16 + ofBool s.fuses.gradeE))
  else if a = Addr.globalEui64Lo then some (word s.fuses.eui64.toNat)
  else if a = Addr.globalEui64Hi then some (word (bits s.fuses.eui64 32 32))
  else if a = Addr.globalStartStatus then
    some (word (x.phase % 16 + src * 2 ^ 4 + ofBool x.flashFail * 2 ^ 7 + ofBool x.selftestFail * 2 ^ 8
      + ofBool x.crcRetry * 2 ^ 9 + ofBool x.noImage * 2 ^ 10 + ofBool x.pcieEarly * 2 ^ 11 + x.startTime * 2 ^ 16))
  else if a = Addr.globalStraps then some (word x.bootMode)
  else none

/-- COMET_STATE (R419). -/
def State.cometStateWord (s : State) : Word :=
  let c := s.comet
  let st := match c.power with
    | .run => 0 | .entering => 1 | .hibernate => 2 | .starting => 3
  word (st + ofBool c.ktValid * 4 + ofBool c.xtalOk * 8 + ofBool s.start.fuseFail * 16 + ofBool c.anchorValid * 32)

end Sys2Proof.Machine
end

