-- ==== Sys2Proof/Machine/Regs.lean ====
section
/-! DEFINITION. The registers of the bridge, the host unit, the management unit, USB and the pair unit: what a write
does, and what a read shows (R74, R256 to R259, R360, R373, R455 to R469, R476 to R479). -/

namespace Sys2Proof.Machine

/-- The owner word of a held semaphore (R256). -/
def semWord (o : SemOwner) : Word :=
  word (2 ^ 31 + o.node.toNat * 2 ^ 16 + o.ring.toNat * 2 ^ 12 + o.who.toNat * 2 ^ 8)

def State.sem (s : State) (n : Nat) : Option SemOwner := Store.get none s.bridge.sems n
def State.setSem (s : State) (n : Nat) (o : Option SemOwner) : State :=
  { s with bridge := { s.bridge with sems := Store.put none s.bridge.sems n o } }

/-- Initiator `i` as the owner of a semaphore (R256); the initiators of a remote hub count as one (R61). -/
def State.semOwner (s : State) (i : Initiator) : SemOwner :=
  match i with
  | .remote r n => ⟨n, r, 9, s.now⟩
  | i => ⟨s.node, s.ringNo, BitVec.ofNat 4 (initCode i), s.now⟩

/-- Two owners are the same initiator. -/
def SemOwner.same (a b : SemOwner) : Bool := a.node == b.node && a.ring == b.ring && a.who == b.who

/-- LEASE in CORE cycles (R259). -/
def State.lease (s : State) : Nat := 1000 * cyclesUs (max 1 (s.field Addr.bridgeSemLease 0 16))

/-- A semaphore whose lease has run out breaks before it is acquired (R257, R258). -/
def State.semLapse (s : State) (n : Nat) : State :=
  match s.sem n with
  | some o => if s.elapsed o.since s.lease then s.semBreak n 1 else s
  | none => s

/-- A read of semaphore `n` (R256). -/
def State.semRead (s : State) (i : Initiator) (n : Nat) : Word × State :=
  let s := s.semLapse n
  match s.sem n with
  | none => (0, s.setSem n (some (s.semOwner i)))
  | some o => (semWord o, s)

/-- A write of semaphore `n` (R257). -/
def State.semWrite (s : State) (i : Initiator) (n : Nat) : State :=
  match s.sem n with
  | none => s.inc Addr.bridgeSemDenyCount
  | some o => if o.same (s.semOwner i) then s.setSem n none else s.inc Addr.bridgeSemDenyCount

/-- The address is that of a semaphore. -/
def semIndex (a : Nat) : Option Nat :=
  if Addr.bridgeSem 0 ≤ a ∧ a < Addr.bridgeSem 32 then some ((a - Addr.bridgeSem 0) / 4) else none

/-- Host loads held by the bridge (R255). -/
def State.hostLoads (s : State) : Nat :=
  (s.liveTxns.filter fun e => e.2.who == .host && e.2.kind == .read).length
    + (s.bridge.waiting.filter fun w => w.who == .host && w.kind == .read).length

/-- BRIDGE_STATUS (R259). -/
def State.bridgeStatusWord (s : State) : Word :=
  let used := s.liveTxns.length + s.bridge.quarantine.length + s.bridge.records.length
  let busy := (s.bridge.fetches.filter fun e => e.2.isSome).length
  word (256 - used + busy * 2 ^ 16 + s.hostLoads * 2 ^ 24)

/-- A write into the BRIDGE block other than UNIT_CTRL. -/
def State.bridgeWrite (s : State) (i : Initiator) (a : Nat) (v : Word) : State :=
  if a = Addr.bridgeEvents ∨ a = Addr.bridgeTxnStatus ∨ a = Addr.bridgePwfStatus then s.sqWrite a v
  else
    match semIndex a with
    | some n => s.semWrite i n
    | none => s.plainWrite a v

/-- What a read of a BRIDGE word shows instead of the stored word; a semaphore is read by `semRead`. -/
def State.bridgeView (s : State) (a : Nat) : Option Word :=
  if a = Addr.bridgeStatus then some s.bridgeStatusWord else none

/-- DMA channel `c`. -/
def State.dma (s : State) (c : Nat) : DmaState := Store.get {} s.host.dma c
def State.setDma (s : State) (c : Nat) (x : DmaState) : State :=
  { s with host := { s.host with dma := Store.put {} s.host.dma c x } }

def State.dmaQueue (s : State) (c : Nat) : Nat := s.field (Addr.hostDmaCtrl c) 0 6
def State.dmaEn (s : State) (c : Nat) : Bool := s.flag (Addr.hostDmaCtrl c) 8

/-- An event of channel `c` (R455, R462): DONE 0, ERROR 1, STARVED 2. -/
def State.dmaEvent (s : State) (c i : Nat) : State := s.eventIrq (8 + c) 7 (Addr.hostDmaStatus c) i

/-- A to-queue packet in progress is closed by ABORT (R337, R461). -/
def State.dmaAbort (s : State) (c : Nat) : State :=
  let x := { s.dma c with part := false, wait := [], desc := none, moved := 0 }
  if (s.dma c).part then (s.qProducerLost (s.dmaQueue c)).setDma c x else s.setDma c x

/-- A write of HOST_DMA_CTRL_c (R461, R462): setting EN starts the channel from HEAD 0; QUEUE and DIR are fixed while
EN is 1. -/
def State.dmaCtrlWrite (s : State) (c : Nat) (v : Word) : State :=
  let a := Addr.hostDmaCtrl c
  if s.dmaEn c then
    if bit v 8 then s.setFlag a 7 (bit v 7)
    else
      let s := s.dmaAbort c
      (s.setDma c { s.dma c with running := false }).plainWrite a v
  else
    let s := s.plainWrite a v
    if bit v 8 then s.setDma c { head := 0, cause := 0, running := true } else s

/-- HOST_FENCE: a write by the host marks a fence point, or moves it forward (R74, R75); it moves forward also while a read
waits, which then waits for the new point, and reads that wait together get one answer (DESIGN CHOICE, log entry 129). -/
def State.hostMark (s : State) : State :=
  let h := s.hostFence
  let sum : HostFails :=
    { fails := min 255 (h.covered.fails + h.later.fails), timeout := h.covered.timeout || h.later.timeout
      remote := h.covered.remote || h.later.remote, localFail := h.covered.localFail || h.later.localFail }
  let p := s.nextOrder
  { p.2 with hostFence := { h with marked := true, point := p.1 + 1, covered := sum, later := {} } }

/-- The summary of HOST_FENCE (R74). -/
def HostFails.summary (h : HostFails) : Word :=
  word (1 + ofBool h.localFail * 2 + ofBool h.remote * 4 + ofBool h.timeout * 8 + h.fails * 2 ^ 16)

/-- No host write that the fence point covers is under way (R74). -/
def State.hostFenceDone (s : State) : Bool :=
  let p := s.hostFence.point
  !(s.liveTxns.any fun e => e.2.who == .host && e.2.kind != .read && decide (e.2.order < p))
    && !(s.bridge.waiting.any fun w => w.who == .host && w.kind != .read && decide (w.order < p))
    && !(s.held.any fun h => h.who == .host && h.isWrite && decide (h.order < p))

/-- A read of HOST_FENCE by the host (R74): it waits, or returns the summary; any other read returns DONE alone. -/
def State.hostFenceRead (s : State) (i : Initiator) : AccessResult × State :=
  if i != .host || !s.hostFence.marked then (.data 1, s)
  else if s.hostFenceDone then
    (.data s.hostFence.covered.summary,
      { s with hostFence := { s.hostFence with marked := false, covered := {}, reading := false } })
  else (.wait, { s with hostFence := { s.hostFence with reading := true } })

/-- A write into the HOST block other than UNIT_CTRL (R462). HOST_FENCE serves the host alone (R74): a write by another
initiator is ignored (DESIGN CHOICE, log entry 128). -/
def State.hostWrite (s : State) (i : Initiator) (a : Nat) (v : Word) : State :=
  let c := (a - Addr.hostDmaCtrl 0) / 0x20
  if a = Addr.hostEvents then s.sqWrite a v
  else if a = Addr.hostDoorbell then
    let s := s.plainWrite a v
    if i = .host then s else s.eventIrq 1 8 Addr.hostEvents 3
  else if a = Addr.hostFence then if i = .host then s.hostMark else s
  else if Addr.hostDmaCtrl 0 ≤ a ∧ a < Addr.hostIrqMap 0 then
    if a = Addr.hostDmaCtrl c then s.dmaCtrlWrite c v
    else if a = Addr.hostDmaStatus c then s.sqWrite a (if s.dmaEn c then setBit v 1 false else v)
    else if a = Addr.hostDmaTail c then s.plainWrite a v
    else if s.dmaEn c then s
    else if a = Addr.hostDmaRingLo c then s.stageLow i a v
    else if a = Addr.hostDmaRingHi c then s.commitHigh i a v
    else s.plainWrite a v
  else s.plainWrite a v

/-- HOST_STATUS (R462). -/
def State.hostStatusWord (s : State) : Word :=
  let h := s.host
  let w : Nat := h.config.width.val
  word ((if h.up then h.config.gen.val + w * 4 else 0) + ofBool h.up * 2 ^ 5 + ofBool h.config.busMaster * 2 ^ 6
    + ofBool h.config.msixEn * 2 ^ 7 + ofBool h.config.maskAll * 2 ^ 8 + s.hostLoads * 2 ^ 16)

/-- What a read of a HOST word shows instead of the stored word (R462). -/
def State.hostView (s : State) (a : Nat) : Option Word :=
  let c := (a - Addr.hostDmaCtrl 0) / 0x20
  if a = Addr.hostStatus then some s.hostStatusWord
  else if c < 8 ∧ a = Addr.hostDmaHead c then
    let x := s.dma c
    some (word (x.head % 4096 + x.cause * 2 ^ 16 + ofBool x.running * 2 ^ 24))
  else none

/-- The pending-bit array (R452). -/
def State.pbaView (s : State) (o : Nat) : Word := word (bits s.host.pba (8 * o) 32)

/-- ALERT_N is low (R468). -/
def State.alertLow (s : State) : Bool :=
  bits (s.reg Addr.cometMgmtEvents &&& s.reg Addr.cometMgmtAlertEn) 0 7 != 0

/-- COMET_MGMT_STATUS (R469). -/
def State.mgmtStatusWord (s : State) : Word :=
  word (ofBool s.start.released + ofBool (s.comet.power == .hibernate) * 2 + ofBool s.alertLow * 4
    + ofBool (s.reg Addr.cometFaultHead != 0) * 8 + s.start.phase % 16 * 2 ^ 4)

/-- COMET_MGMT_PWR (R467, R469). -/
def State.mgmtPwrWord (s : State) : Word :=
  word (bits (s.feedStatus 0) 0 3 + bits (s.feedStatus 1) 0 3 * 2 ^ 3 + ofBool s.healthOut * 2 ^ 6
    + ofBool s.power.block.isSome * 2 ^ 7 + ofBool s.power.enable * 2 ^ 8 + s.blockLeft % 65536 * 2 ^ 16)

/-- What a read of a COMET word shows instead of the stored word (R419, R469). -/
def State.cometView (s : State) (a : Nat) : Option Word :=
  if a = Addr.cometState then some s.cometStateWord
  else if a = Addr.cometKtLo then some (word s.comet.kt.toNat)
  else if a = Addr.cometKtHi then some (word (s.comet.kt.toNat / 2 ^ 32))
  else if a = Addr.cometMgmtStatus then some s.mgmtStatusWord
  else if a = Addr.cometMgmtPwr then some s.mgmtPwrWord
  else none

/-- A write into the COMET block other than UNIT_CTRL. -/
def State.cometWrite (s : State) (i : Initiator) (a : Nat) (v : Word) : State :=
  if a = Addr.cometWakeStatus ∨ a = Addr.cometMgmtEvents then s.sqWrite a v
  else if a = Addr.cometKtAlarmLo then s.stageLow i a v
  else if a = Addr.cometKtAlarmHi then s.commitHigh i a v
  else s.plainWrite a v

/-- A write into the GLOBAL block. -/
def State.globalWrite (s : State) (a : Nat) (v : Word) : State :=
  if a = Addr.globalResetCause then s.sqWrite a v else s.plainWrite a v

/-- Port `p` of the USB hub, 0 to 2 for ports 1 to 3 (R471). -/
def State.usbPort (s : State) (p : Nat) : UsbPort := s.usb.ports.getD p {}
def State.setUsbPort (s : State) (p : Nat) (x : UsbPort) : State :=
  { s with usb := { s.usb with ports := setAt s.usb.ports p x } }

/-- A port goes to POWERED, with or without VBUS. -/
def State.usbPowered (s : State) (p : Nat) (vbus : Bool) : State :=
  s.setUsbPort p { s.usbPort p with sync := .powered, vbus := vbus, resetting := false, resuming := false }

/-- The enable bit of a port in USB_CTRL (R471, R479): SVC_EN for port 1. -/
def State.usbPortEn (s : State) (p : Nat) : Bool := s.flag Addr.usbCtrl p

/-- A write into the USB block other than UNIT_CTRL: a port whose enable bit is 0 stays POWERED with VBUS low (R471). -/
def State.usbWrite (s : State) (a : Nat) (v : Word) : State :=
  if a = Addr.usbEvents then s.sqWrite a v
  else
    let s := s.plainWrite a v
    if a = Addr.usbCtrl then s.each [0, 1, 2] fun s p => if s.usbPortEn p then s else s.usbPowered p false else s

/-- SPC, CHANNELS and FB_EXP of USB_AUD_CTRL (R479). -/
def State.audSpc (s : State) : Nat := clamp 16 2048 (s.field Addr.usbAudCtrl 12 12)
def State.audChannels (s : State) : Nat := s.field Addr.usbAudCtrl 6 5 + 1

/-- FB (R476). -/
def State.usbFb (s : State) : Word :=
  wordInt (roundDiv (Int.ofNat (s.angle.freq.toNat * s.audSpc)) 2048000)

/-- USB_STATUS (R479). -/
def State.usbStatusWord (s : State) : Word :=
  let u := s.usb
  let st := match u.sync with
    | .detached => 0 | .default => 1 | .addressed => 2 | .configured => 3
  let port (p : Nat) : Nat := match (s.usbPort p).sync with
    | .powered => 0 | .disabled => 1 | .enabled => 2 | .suspended => 3
  word (st + ofBool u.suspended * 2 ^ 2 + u.address.toNat * 2 ^ 3 + port 0 * 2 ^ 10 + port 1 * 2 ^ 12 + port 2 * 2 ^ 14
    + ofBool (u.alt == 1) * 2 ^ 16 + ofBool u.remoteWake * 2 ^ 17)

/-- What a read of a USB word shows instead of the stored word (R479). -/
def State.usbView (s : State) (a : Nat) : Option Word :=
  if a = Addr.usbStatus then some s.usbStatusWord
  else if a = Addr.usbAudFb then some s.usbFb
  else none

/-- HEALTHY (R360). -/
def State.pairHealthy (s : State) : Bool :=
  let h := s.reg Addr.pairHealth
  !(s.fault.held && s.fault.heldSev == .fatal) && s.ring.sync == .member
    && (List.range 4).all (fun n => !bit h n || (s.core n).sync != .halted)
    && (!bit h 4 || s.time.sync == .locked || s.time.sync == .holdover)
    && (!bit h 5 || s.angle.sync == .locked || s.angle.sync == .following)
    && s.pair.role != .seeking && s.pair.role != .syncing

/-- ROLE as its code (R373). -/
def roleCode : PairRole → Nat
  | .off => 0 | .seeking => 1 | .syncing => 2 | .standby => 3 | .primary => 4 | .held => 5

/-- PAIR_STATUS (R373). -/
def State.pairStatusWord (s : State) : Word :=
  let p := s.pair
  word (roleCode p.role + p.partnerRole % 8 * 2 ^ 3 + ofBool p.seenPair * 2 ^ 6 + ofBool p.seenRing * 2 ^ 7
    + p.term.toNat * 2 ^ 8 + p.partnerTerm.toNat * 2 ^ 16 + ofBool s.pairHealthy * 2 ^ 24
    + ofBool p.partnerHealthy * 2 ^ 25 + ofBool (!s.present s.partner) * 2 ^ 26)

/-- PAIR_ALIAS_c (R373). -/
def State.pairAliasWord (s : State) (c : Nat) : Word :=
  word ((s.ring.aliasSeqs.getD c 0).toNat + (s.ring.aliasEpochs.getD c 0).toNat * 2 ^ 16)

/-- What a read of a PAIR word shows instead of the stored word; the block of an MH820-S reads at its reset values. -/
def State.pairView (s : State) (a : Nat) : Option Word :=
  if !s.fuses.pairCapable then some (regReset a)
  else if a = Addr.pairStatus then some s.pairStatusWord
  else if Addr.pairAlias 0 ≤ a ∧ a < Addr.pairAlias 4 then some (s.pairAliasWord ((a - Addr.pairAlias 0) / 4))
  else none

/-- A write into the PAIR block other than UNIT_CTRL: on an MH820-S it changes nothing, and declaring a partner is a
mismatch (R2, R373). -/
def State.pairWrite (s : State) (a : Nat) (v : Word) : State :=
  if !s.fuses.pairCapable then
    if a = Addr.pairCtrl ∧ (bit v 0 ∨ bits v 8 8 ≠ 0xFF) then s.misdeclared else s
  else if a = Addr.pairEvents then s.sqWrite a v
  else
    let s := s.plainWrite a v
    if a = Addr.pairCtrl then s.bridgeCheck.pairReview else s

end Sys2Proof.Machine
end

