-- ==== Sys2Proof/Machine/Access.lean ====
section
/-! DEFINITION. Register accesses (chapter 2): what a read returns and does, what a write does, the committed effects of
guarded pairs, bus errors, and accesses held while a unit is in reset. -/

namespace Sys2Proof.Machine

/-- The units that an MH820-S lacks: PAIR and its link (R2). -/
def State.unitAbsent (s : State) (u : HubUnit) : Bool := !s.fuses.pairCapable && (u == .pair || u == .link 2)

/-- What a read of the word at `a` shows, without what the read does. -/
def State.viewBlock (s : State) (i : Initiator) (b : Block) (a : Nat) : Option Word :=
  match b with
  | .global => s.globalView a
  | .regif => s.regifView a
  | .fault => s.faultView a
  | .time => s.timeView a
  | .angle => s.angleView a
  | .ephem => s.ephemView a
  | .ephemEntry e => s.ephemEntryView e (a % 32)
  | .bank n => s.bankView n a
  | .engine e => s.engineView e a
  | .uart u => s.uartView u a
  | .can n => s.canView n a
  | .canFilter _ | .canRx _ _ | .canTx _ _ => none
  | .link l => s.linkView (portOf (fin 2 l)) a
  | .ring => s.ringView a
  | .bridge => s.bridgeView a
  | .sta p => s.staView p a
  | .switch => s.switchView a
  | .capture _ => none
  | .traffic => s.trafficView a
  | .classEntry _ | .classRule _ | .classify => none
  | .core n => s.svcView n a
  | .coreRam n => some (Memory.word s.mem (Addr.coreRam n + (a - Addr.coreRam n)))
  | .queue q => s.queueView i q a
  | .queueCommon | .epEntry _ => none
  | .pair => s.pairView a
  | .feed _ | .group _ | .therm _ => s.powerView b (a - match b with
      | .feed f => Addr.feedBase f | .group g => Addr.groupBase g | .therm k => Addr.thermBase k | _ => 0)
  | .boot => s.bootView a
  | .host => s.hostView a
  | .msix _ => none
  | .pba => some (s.pbaView (a % 8))
  | .usb => s.usbView a
  | .dram => s.dramView a
  | .comet => s.cometView a

/-- The value that a read of the word at `a` of block `b` shows initiator `i`. UNIT_CTRL of a unit that an MH820-S lacks
shows its SOURCE_ID with EN 0, its reset value (R11, R212, R373). -/
def State.viewReg (s : State) (i : Initiator) (b : Block) (a : Nat) : Word :=
  match blockOwner b with
  | some u =>
    if a = unitCtrl u then s.unitCtrlView u else (s.viewBlock i b a).getD (s.reg a)
  | none => (s.viewBlock i b a).getD (s.reg a)

/-- A read of the low word of a 64-bit value latches the high one (R42); a low word that is itself shown from a latch of
ANGLE_NOW keeps the high word latched with it (R116). -/
def State.latchHigh (s : State) (i : Initiator) (b : Block) (a : Nat) : State :=
  if a = Addr.timeNowNsLo then s.latchNow i
  else if a = Addr.angleNow then s.latchAngle i
  else if lowWordRead a && (s.shadowAt i a).isNone then s.latch i (a + 4) (s.viewReg i b (a + 4))
  else s

/-- A plain read: a staged low word is shown to its writer (R43), a latched word to its reader (R42). -/
def State.readPlain (s : State) (i : Initiator) (b : Block) (a : Nat) : AccessResult × State :=
  let v :=
    match s.stagedAt i a with
    | some v => v
    | none => (s.shadowAt i a).getD (s.viewReg i b a)
  (.data v, s.latchHigh i b a)

/-- A read of the complement word of the guarded pair at `x`: the guard state (R52). -/
def State.readGuard (s : State) (x : Nat) : AccessResult × State :=
  let t := s.guardExpire x
  (.data (t.guard x).word, t)

/-- A valid read of the word at `a` of block `b` with what it does. -/
def State.readReg (s : State) (i : Initiator) (b : Block) (a : Nat) : AccessResult × State :=
  let data (p : Word × State) : AccessResult × State := (.data p.1, p.2)
  if hasAccess a .gword then s.readGuard (a - 4)
  else
  match b with
  | .engine e => if a = Addr.engRxf e then data (s.engRxfRead e) else s.readPlain i b a
  | .uart u => if a = Addr.uartRxf u then data (s.uartRxfRead u) else s.readPlain i b a
  | .canRx n k =>
    let p := s.readPlain i b a
    (p.1, p.2.canRxRead i n k (a % 0x80 / 4))
  | .queue q => if a = Addr.qPop q then s.qPopRead i q else s.readPlain i b a
  | .bridge =>
    match semIndex a with
    | some n => data (s.semRead i n)
    | none => s.readPlain i b a
  | .coreRam n =>
    let r := s.coreRamRead n (a - Addr.coreRam n)
    (.data r.1, r.2.2)
  | .classEntry _ =>
    let p := s.readPlain i b a
    (p.1, p.2.eccLoad .classify a)
  | .boot =>
    if a = Addr.bootSetData then
      match s.settingsKind false with
      | some k => (.err k, s)
      | none => data s.settingsRead
    else s.readPlain i b a
  | .host => if a = Addr.hostFence then s.hostFenceRead i else s.readPlain i b a
  | _ => s.readPlain i b a

/-- A valid write of an ordinary word of block `b`. -/
def State.writeBlock (s : State) (i : Initiator) (b : Block) (a : Nat) (v : Word) : State :=
  match b with
  | .global => s.globalWrite a v
  | .regif => s.regifWrite a v
  | .fault => s.faultWrite a v
  | .time => s.timeWrite i a v
  | .angle => s.angleWrite i a v
  | .ephem => s.ephemWrite a v
  | .ephemEntry e => s.ephemEntryWrite e (a % 32) v
  | .bank n => s.bankWrite n a v
  | .engine e => s.engineWrite e a v
  | .uart u => s.uartWrite u a v
  | .can n => s.canWrite n a v
  | .canFilter _ | .canRx _ _ | .canTx _ _ => s.plainWrite a v
  | .link l => s.linkWrite (portOf (fin 2 l)) a v
  | .ring => s.ringWrite a v
  | .bridge => s.bridgeWrite i a v
  | .sta p =>
    if lowWordWrite a then s.stageLow i a v
    else if lowWordWrite (a - 4) then s.commitHigh i a v
    else s.staWrite p a v
  | .switch => s.switchWrite a v
  | .capture c => s.captureWrite c a v
  | .traffic => s.trafficWrite a v
  | .classEntry _ => s.classEntryWrite a v
  | .classRule _ => s.plainWrite a v
  | .classify => s.classWrite a v
  | .core n => s.svcWrite i n a v
  | .coreRam n => s.coreRamWrite n (a - Addr.coreRam n) v
  | .queue q => s.queueWrite q a v
  | .queueCommon | .epEntry _ => s.plainWrite a v
  | .pair => s.pairWrite a v
  | .feed _ | .group _ | .therm _ =>
    match regRow a with
    | some r => if r.acc == .sq then s.sqWrite a v else s.plainWrite a v
    | none => s
  | .boot => s.bootWrite i a v
  | .host => s.hostWrite i a v
  | .msix _ | .pba => s.plainWrite a v
  | .usb => s.usbWrite a v
  | .dram => s.dramWrite a v
  | .comet => s.cometWrite i a v

/-- A handover starts (R368): a PRIMARY of a STANDBY partner. -/
def State.startHandover (s : State) : State :=
  if s.pair.role == .primary && s.pair.partnerRole == 3 then { s with pair := { s.pair with handover := true } } else s

/-- STANDBY goes to SYNCING (R357). -/
def State.syncLost (s : State) : State :=
  if s.pair.role == .standby then (s.pairTo .syncing).event Addr.pairEvents 5 else s

/-- A committed PAIR_CMD (R357, R368). -/
def State.pairCmdGo (s : State) (v : Word) : State :=
  let s := if bit v 0 then s.startHandover else s
  if bit v 1 then s.syncLost else s

/-- A committed COMET_MGMT_CMD.LOGIC_RESTART (R467): LOGIC_EN goes low, or the power die refuses. -/
def State.logicRestartGo (s : State) (v : Word) : State :=
  if !bit v 0 then s
  else if s.feedOn then { s.lowerLogic with mgmt := { s.mgmt with restart := true } }
  else s.event Addr.cometMgmtEvents 6

/-- The effect of a guarded value that commits, beside the stored word. -/
def State.commitEffect (s : State) (i : Initiator) (b : Block) (x : Nat) (v : Word) : State :=
  if x = Addr.globalRegionFence then s.regionCommit v
  else if x = Addr.globalResetCmd then (if bit v 0 then s.warmReset (2 ^ 4) else s)
  else if x = Addr.regifCfgCrcRef then s.refCommit
  else if x = Addr.faultInject then s.injectArm v
  else if x = Addr.timeStepCmd then s.timeStepGo v
  else if x = Addr.ringCmd then s.ringCmdGo v
  else if x = Addr.bootCmd then s.bootCmd i (bits v 0 3)
  else if x = Addr.bootLock then (if bit v 0 then s.commitRefuse 3 else s)
  else if x = Addr.bootHealthConfirm then (if bit v 0 then s.bootConfirm else s)
  else if x = Addr.pairCmd then s.pairCmdGo v
  else if x = Addr.cometHibCmd then (if bit v 0 then s.hibEnter else s)
  else if x = Addr.cometMgmtCmd then s.logicRestartGo v
  else
    match b with
    | .sta p => s.gateConfigChange p v
    | .group g => s.groupCommit g v
    | _ => s

/-- A valid write of the word at `a` of block `b`. -/
def State.writeReg (s : State) (i : Initiator) (b : Block) (a : Nat) (v : Word) : AccessResult × State :=
  let s := { s with shadows := s.shadows.filter fun e => !(e.who == i && e.addr == a) }
  let absent := match blockOwner b with
    | some u => s.unitAbsent u
    | none => false
  match regRow a with
  | none => (.done, s)
  | some r =>
    if absent then (.done, s.writeBlock i b a v)
    else if r.acc == .gd then (.done, s.guardValue i a v)
    else if r.acc == .gword then
      match s.guardCompl (a - 4) v with
      | (some x, t) => (.done, t.commitEffect i b (a - 4) x)
      | (none, t) => (.done, t)
    else
      match blockOwner b with
      | some u =>
        if a = unitCtrl u then (.done, s.unitCtrlWrite u v)
        else if a = Addr.bootSetData then
          match s.settingsKind true with
          | some k => (.err k, s)
          | none => (.done, s.writeBlock i b a v)
        else (.done, s.writeBlock i b a v)
      | none => (.done, s.writeBlock i b a v)

/-- The access with place `order` in the hub's issue order meets a bus error, which is answered; a failed host write is
counted for the HOST_FENCE that covers it (R40, R72, R74). -/
def State.refuseAt (s : State) (i : Initiator) (fa : FabricAddr) (isWrite : Bool) (kind order : Nat) :
    AccessResult × State :=
  let s := s.busError i fa isWrite kind
  (.err kind, if i == .host && isWrite then s.countFail .host order false true else s)

/-- An access made now meets a bus error (R40). -/
def State.refuseAccess (s : State) (i : Initiator) (fa : FabricAddr) (isWrite : Bool) (kind : Nat) :
    AccessResult × State := s.refuseAt i fa isWrite kind s.bridge.order

/-- The unit of a block is in reset: its accesses are held (R12). -/
def State.blockBusy (s : State) (b : Block) : Bool :=
  match blockOwner b with
  | none => false
  | some u => s.isBusy u

/-- An armed injection of target 6 acts on the next frame of the logic die (R446): the power die reports PARITY, and the
frame is sent again. -/
def State.injectLink (s : State) : State :=
  let x := s.fault.inject
  if x.armed && x.target == 6 then
    ({ s with fault := { s.fault with inject := { x with
        armed := false, done := true, detected := true, addr := 0xA0_0000 } } }).report
      (s.message (dieLinkSource true) .parity .degraded 1 (s.hubAddr 0xA0_0000))
  else s

/-- A valid access is carried out; what BOOT_SET_DATA refuses is a bus error too (R427). -/
def State.perform (s : State) (i : Initiator) (fa : FabricAddr) (b : Block) (a : Nat) (isWrite : Bool) (v : Word)
    (order : Nat) : AccessResult × State :=
  let s := if powerBlock b then s.injectLink else s
  let p := if isWrite then s.writeReg i b a v else s.readReg i b a
  match p.1 with
  | .err k => p.2.refuseAt i fa isWrite k order
  | _ => p

/-- An earlier fabric read by initiator `i`, issued before `order`, of the word at local address `a` is still under way
(R246). -/
def State.readPending (s : State) (i : Initiator) (a order : Nat) : Bool :=
  let w := s.canonAddr (localFabric a)
  (s.liveTxns.any fun e =>
    e.2.kind == .read && e.2.who == i && decide (e.2.order < order) && sharesWord (s.canonAddr e.2.addr) e.2.count w 1)
  || (s.bridge.waiting.any fun e =>
    e.kind == .read && e.who == i && decide (e.order < order) && sharesWord (s.canonAddr e.addr) e.count w 1)

/-- The valid access of place `order` to block `b` is held: its unit is in reset (R12), or an earlier read of its word is
under way (R246). -/
def State.mustHold (s : State) (i : Initiator) (b : Block) (a order : Nat) : Bool :=
  s.blockBusy b || s.readPending i a order

/-- A register access of `size` bytes at local address `a`, logged under fabric address `fa` and used as `use` if it is held
(R38 to R40, R12); while the logic die is down only the COMET block answers (R467). -/
def State.accessAs (s : State) (use : HeldUse) (i : Initiator) (fa : FabricAddr) (a size : Nat) (isWrite : Bool) (v : Word)
    (order : Nat) : AccessResult × State :=
  match s.accessKind i a size isWrite with
  | some k => s.refuseAt i fa isWrite k order
  | none =>
    match locate a with
    | none => (.wait, s)
    | some (b, _) =>
      if !s.start.logicUp && b != .comet then (.wait, s)
      else if s.mustHold i b a order then
        (.wait, { s with held := s.held ++ [⟨i, a, isWrite, v, order, fa, use⟩] })
      else s.perform i fa b a isWrite v order

/-- A register access made now, whose answer goes to its initiator. -/
def State.access (s : State) (i : Initiator) (fa : FabricAddr) (a size : Nat) (isWrite : Bool) (v : Word) :
    AccessResult × State := s.accessAs .answer i fa a size isWrite v s.bridge.order

/-- A register read, and a register write, by a local initiator (R60). -/
def State.readLocal (s : State) (i : Initiator) (a : Nat) : AccessResult × State :=
  s.access i (localFabric a) a 4 false 0
def State.writeLocal (s : State) (i : Initiator) (a : Nat) (v : Word) : AccessResult × State :=
  s.access i (localFabric a) a 4 true v

/-- A register access with its answer given to the initiator (R39). -/
def State.readAnswer (s : State) (i : Initiator) (a size : Nat) : State :=
  let p := s.access i (localFabric a) a size false 0
  p.2.answer i a p.1
def State.writeAnswer (s : State) (i : Initiator) (a size : Nat) (v : Word) : State :=
  let p := s.access i (localFabric a) a size true v
  p.2.answer i a p.1

/-- A command of a guarded pair: the complement word is written; what stands armed must be what the command names, or
the write is another command's (log entry 34). -/
def State.guardedWrite (s : State) (i : Initiator) (x : Nat) (compl : Word) (p : Word → Bool) : State :=
  match (s.guard x).armed with
  | some a => if p a.value then s.writeAnswer i (x + 4) 4 compl else s
  | none => s.writeAnswer i (x + 4) 4 compl

/-- The status byte of an access (R465). -/
def statusByte (r : AccessResult) : Byte :=
  match r with
  | .data _ | .done => 0xC0
  | _ => 0xC1

/-- The answer to a management READ: status, data and CRC; with no data read, the spec states none (log entry 3). -/
def State.mgmtReadAnswer (s : State) (st : Byte) (v : Option Word) : State :=
  let bs (w : Word) : List Byte := st :: beBytes 4 w.toNat
  match v with
  | some w => s.emit (.mgmt (bs w ++ [crc8 (bs w)]))
  | none =>
    let w := Config.freeWord s.free
    s.nextFree.emit (.mgmt (bs w ++ [crc8 (bs w)]))

/-- The data of a read. -/
def AccessResult.word? : AccessResult → Option Word
  | .data w => some w
  | _ => none

/-- A held word of a PAIRED WRITE ends with `r`: the last of them gives the status byte (R464, R465). -/
def State.pairWordEnd (s : State) (r : AccessResult) : State :=
  let err := s.mgmt.pairErr || statusByte r != 0xC0
  let t := { s with mgmt := { s.mgmt with pairLeft := s.mgmt.pairLeft - 1, pairErr := err } }
  if s.mgmt.pairLeft ≤ 1 then t.emit (.mgmt [if err then 0xC1 else 0xC0]) else t

/-- The end of a register access goes to its initiator (R39): a core's posted store that met a bus error makes its imprecise
exception due (R321). -/
def State.heldAnswer (s : State) (h : HeldAccess) (r : AccessResult) : State :=
  match h.who, r with
  | .core n, .err _ =>
    if h.isWrite then
      let x := s.core n.val
      s.setCore n.val { x with badStores := x.badStores ++ [word (0x1000_0000 + h.addr)] }
    else s.answer h.who h.addr r
  | _, _ => s.answer h.who h.addr r

/-- A request frame that was held is answered with the end of its access (R39, R247). -/
def State.requestEnd (s : State) (f : RingFrame) (r : AccessResult) : State :=
  match r with
  | .data w => s.respond f 0 0 [w]
  | .done => s.respond f 0 0 []
  | .err k => s.respond f 1 k []
  | .abort => s.respond f 1 0 []
  | .wait => s

/-- A posted write to this hub ends; a failure is reported by R76. -/
def State.postedEnd (s : State) (who : Initiator) (fa : FabricAddr) (entry : Nat) (r : AccessResult) : State :=
  match r with
  | .err k => s.postedWriteFail who fa 1 k entry
  | _ => s

/-- An access that was held ends; one that is held again has not ended. -/
def State.heldEnd (s : State) (h : HeldAccess) (r : AccessResult) : State :=
  if r = .wait then s
  else
    match h.use with
    | .answer => s.heldAnswer h r
    | .posted a e => s.postedEnd h.who a e r
    | .request f => s.requestEnd f r
    | .mgmtRead => s.mgmtReadAnswer (statusByte r) r.word?
    | .mgmtWrite => s.emit (.mgmt [statusByte r])
    | .mgmtPair => s.pairWordEnd r
    | .silent => s

/-- A held access is tried again. -/
def State.retryHeld (s : State) (h : HeldAccess) : State :=
  let p := s.accessAs h.use h.who h.fa h.addr 4 h.isWrite h.value h.order
  p.2.heldEnd h p.1

/-- Accesses held by unit `u` are carried out in their order (R12). -/
def State.releaseHeld (s : State) (u : HubUnit) : State :=
  let mine := s.held.filter fun h => ownerOf h.addr == some u
  ({ s with held := s.held.filter fun h => ownerOf h.addr != some u }).each mine State.retryHeld

/-- Every held access is tried again, in the order of issue (R246). -/
def State.releaseReads (s : State) : State := ({ s with held := [] }).each s.held State.retryHeld

end Sys2Proof.Machine
end

