-- ==== Sys2Proof/Machine/Usb.lean ====
section
/-! DEFINITION. The USB hub and service function (chapter 21): ports, data toggles, the vendor service interface, audio
capture, reset, suspend and wake. -/

namespace Sys2Proof.Machine

def State.setUsb (s : State) (u : UsbState) : State := { s with usb := u }

/-- The upstream port is attached and not suspended: requests reach the hub. -/
def State.usbAwake (s : State) : Bool := s.start.logicUp && s.enabled .usb && s.usb.sync != .detached && !s.usb.suspended

/-- The service function can be reached: configured, behind an ENABLED port 1 (R471). -/
def State.usbFunction (s : State) : Bool :=
  s.usbAwake && s.usb.sync == .configured && s.usbPortEn 0 && (s.usbPort 0).sync == .enabled

/-- A data toggle after a transfer of `n` bytes in packets of 512 (R472, R473). -/
def toggled (t : Bool) (n : Nat) : Bool := t != ((n + 511) / 512 % 2 == 1)

/-- A vendor command has arrived whole: a header of two words and its data. -/
def State.usbArrive (s : State) (c : UsbCmd) : State :=
  let u := s.usb
  s.setUsb { u with toggleOut := toggled u.toggleOut (8 + 4 * c.data.length), cmds := u.cmds ++ [c] }

/-- The front command ends with a reply (R473), discarded after a bus reset (R477). Word 1 of a reply is a free value
where the spec states none (log entry 3). -/
def State.usbReply (s : State) (c : UsbCmd) (status : Nat) (w1 : Option Word) (data : List Word) : State :=
  let u := s.usb
  let s := s.setUsb { u with cmds := u.cmds.drop 1, bootWait := false }
  if u.mute ≠ 0 then s.setUsb { s.usb with mute := u.mute - 1 }
  else
    let head := word (c.op % 256 + c.tag.toNat * 2 ^ 8 + status * 2 ^ 16)
    let s := s.setUsb { s.usb with toggleIn := toggled u.toggleIn (8 + 4 * data.length) }
    match w1 with
    | some w => s.emit (.usbReply (head :: w :: data))
    | none => s.nextFree.emit (.usbReply (head :: Config.freeWord s.free :: data))

/-- An access at `a` would be held: its unit is in reset (R12). -/
def State.usbHeld (s : State) (a : Nat) : Bool :=
  match locate a with
  | some (b, _) => s.blockBusy b
  | none => false

/-- The front command is kept with what it has done. -/
def State.usbKeep (s : State) (c : UsbCmd) : State := s.setUsb { s.usb with cmds := c :: s.usb.cmds.drop 1 }

/-- READ (R473): whether it ended, and the state. -/
def State.usbRead (s : State) (c : UsbCmd) : Nat → Bool × State
  | 0 => (true, s.usbReply c 0 none c.got)
  | n + 1 =>
    if s.usbHeld c.arg.toNat then (false, s.usbKeep { c with len := n + 1 })
    else
      match s.readLocal .usb c.arg.toNat with
      | (.data v, s) => State.usbRead s { c with arg := c.arg + 4, got := c.got ++ [v] } n
      | (_, s) => (true, s.usbReply c 1 (some c.arg) c.got)

/-- WRITE (R473). -/
def State.usbWriteWords (s : State) (c : UsbCmd) : List Word → Bool × State
  | [] => (true, s.usbReply c 0 none [])
  | v :: r =>
    if s.usbHeld c.arg.toNat then (false, s.usbKeep { c with data := v :: r })
    else
      match s.writeLocal .usb c.arg.toNat v with
      | (.done, s) => State.usbWriteWords s { c with arg := c.arg + 4 } r
      | (_, s) => (true, s.usbReply c 1 (some c.arg) [])

/-- The address of a write that met a bus error. -/
def failedAt (r : AccessResult) (a : Word) : Option Word :=
  match r with
  | .err _ => some a
  | _ => none

/-- PAIRED WRITE (R473, R53): both words are presented. -/
def State.usbPaired (s : State) (c : UsbCmd) : Bool × State :=
  if s.usbHeld c.arg.toNat then (false, s)
  else
    let p := s.writeLocal .usb c.arg.toNat (c.data.getD 0 0)
    let q := p.2.writeLocal .usb (c.arg + 4).toNat (c.data.getD 1 0)
    match failedAt p.1 c.arg, failedAt q.1 (c.arg + 4) with
    | some a, _ => (true, q.2.usbReply c 1 (some a) [])
    | none, some a => (true, q.2.usbReply c 1 (some a) [])
    | none, none => (true, q.2.usbReply c 0 none [])

/-- The five words of a fault record: history entry NUMBER mod 32, or mirror entry NUMBER mod 16 (R438, R439, R473). -/
def State.usbRecord (s : State) (mirror : Bool) (n : Nat) : List Word :=
  if mirror then s.reg (Addr.cometFaultNum (n % 16)) :: (List.range 4).map fun k => s.reg (Addr.cometFault (n % 16) k)
  else s.reg (Addr.faultHistNum (n % 32)) :: (List.range 4).map fun k => s.reg (Addr.faultHist (n % 32) k)

/-- BOOT_CMD is committed by the USB function (R423, R473). -/
def State.usbBootCmd (s : State) (cmd : Nat) : State :=
  let v := word cmd
  ((s.writeLocal .usb Addr.bootCmd v).2.writeLocal .usb Addr.bootCmdG (~~~ v)).2

/-- IMAGE BLOCK fills the transfer buffer and sets offset and length (R473). -/
def State.usbBlock (s : State) (c : UsbCmd) : State :=
  let s := s.each ((List.range c.data.length).zip c.data) fun s e => (s.writeLocal .usb (Addr.bootXferBuf e.1) e.2).2
  let s := (s.writeLocal .usb Addr.bootXferOffset c.arg).2
  (s.writeLocal .usb Addr.bootXferLen (word (4 * c.data.length))).2

/-- The reply of an image command: STATUS 2 whenever RESULT is not 0. -/
def State.usbBootReply (s : State) (c : UsbCmd) : State :=
  s.usbReply c (if s.boot.result = 0 then 0 else 2) (some s.bootStatus) []

/-- IMAGE BLOCK and IMAGE CMD (R473): the command waits while STATE is BUSY with what it committed. -/
def State.usbImage (s : State) (c : UsbCmd) (cmd : Nat) : Bool × State :=
  if s.usb.bootWait then
    if s.boot.sync == .busy then (false, s) else (true, s.usbBootReply c)
  else if s.isBusy .boot then (false, s)
  else
    let was := s.boot.sync
    let t := (if c.op = 0x20 then s.usbBlock c else s).usbBootCmd cmd
    if was != .busy && t.boot.sync == .busy then (false, t.setUsb { t.usb with bootWait := true })
    else (true, t.usbBootReply c)

/-- The front command is carried out (R473): whether it ended, and the state. -/
def State.usbFront (s : State) (c : UsbCmd) : Bool × State :=
  if !c.ok then (true, s.usbReply c 3 none [])
  else if c.op = 0x01 then s.usbRead c c.len
  else if c.op = 0x02 then s.usbWriteWords c c.data
  else if c.op = 0x03 then s.usbPaired c
  else if c.op = 0x10 then
    let n := bits c.arg 0 16
    (true, s.usbReply c 0 none ((List.range c.len).flatMap fun k => s.usbRecord (bit c.arg 16) (n + k)))
  else if c.op = 0x20 then s.usbImage c 2
  else if c.op = 0x21 then s.usbImage c (bits c.arg 0 3)
  else (true, s.usbReply c 3 none [])

/-- Vendor commands are carried out in order of arrival, one at a time, until one waits; `n` bounds their number. -/
def State.usbRun (s : State) : Nat → State
  | 0 => s
  | n + 1 =>
    match s.usb.cmds with
    | [] => s
    | c :: _ =>
      let p := s.usbFront c
      if p.1 then State.usbRun p.2 n else p.2

/-- The vendor commands go on. -/
def State.usbGo (s : State) : State := s.usbRun s.usb.cmds.length

/-- A vendor command arrives at the service function; it is carried out when those before it have ended. -/
def State.usbCommand (s : State) (c : UsbCmd) : State :=
  if !s.usbFunction then s
  else if s.usb.cmds.isEmpty then (s.usbArrive c).usbGo
  else s.usbArrive c

/-- LEN lies in a range, and the data is as long as it says (R473). -/
def usbLenOk (lo hi len : Nat) (data : List Word) : Bool := decide (lo ≤ len ∧ len ≤ hi) && data.length == len

/-- R473: READ, or a command with an OP that no other row has. -/
def execUsbRead (op tag : Byte) (len : Half) (addr : Word) (s : State) : Host.Outcome State Fault Refusal :=
  if !s.start.logicUp then .next s else
  let n := len.toNat
  .next (s.usbCommand ⟨op.toNat, tag, n, addr, [], op == 0x01 && decide (1 ≤ n ∧ n ≤ 1024), []⟩)

/-- R473: WRITE. -/
def execUsbWrite (tag : Byte) (len : Half) (addr : Word) (data : List Word) (s : State) :
    Host.Outcome State Fault Refusal :=
  if !s.start.logicUp then .next s else
  let d := data.take len.toNat
  .next (s.usbCommand ⟨0x02, tag, len.toNat, addr, d, usbLenOk 1 1024 len.toNat d, []⟩)

/-- R473: PAIRED WRITE. -/
def execUsbPairedWrite (tag : Byte) (len : Half) (addr : Word) (data : List Word) (s : State) :
    Host.Outcome State Fault Refusal :=
  if !s.start.logicUp then .next s else
  let d := data.take len.toNat
  .next (s.usbCommand ⟨0x03, tag, len.toNat, addr, d, usbLenOk 2 2 len.toNat d, []⟩)

/-- R473: FAULT READ. -/
def execFaultRead (tag : Byte) (len : Half) (arg : Word) (s : State) : Host.Outcome State Fault Refusal :=
  if !s.start.logicUp then .next s else
  let n := len.toNat
  .next (s.usbCommand ⟨0x10, tag, n, arg, [], decide (1 ≤ n ∧ n ≤ 32), []⟩)

/-- R473: IMAGE BLOCK. -/
def execImageBlock (tag : Byte) (len : Half) (off : Word) (data : List Word) (s : State) :
    Host.Outcome State Fault Refusal :=
  if !s.start.logicUp then .next s else
  let d := data.take len.toNat
  .next (s.usbCommand ⟨0x20, tag, len.toNat, off, d, usbLenOk 1 1024 len.toNat d, []⟩)

/-- R473: IMAGE CMD; with LEN above 0 and no data it has ended early, so it is malformed. -/
def execImageCmd (tag : Byte) (len : Half) (arg : Word) (s : State) : Host.Outcome State Fault Refusal :=
  if !s.start.logicUp then .next s else
  .next (s.usbCommand ⟨0x21, tag, len.toNat, arg, [], len == 0, []⟩)

/-- R423: the BOOT_CMD in progress ends; a vendor command that waits for it goes on. -/
def execBootCmdComplete (s : State) : Host.Outcome State Fault Refusal :=
  if s.boot.sync == .busy then .next s.bootDone.usbGo else .next s

/-- R477: an upstream bus reset; `control`: a control transfer was in progress. -/
def execUsbBusReset (control : Bool) (s : State) : Host.Outcome State Fault Refusal :=
  if !s.start.logicUp then .next s else
  if s.usb.sync == .detached then .next s
  else
    let s := s.setUsb { s.usb with
      sync := .default, suspended := false, address := 0, config := 0, alt := 0, nominal := 0, remoteWake := false,
      wakeAt := none, toggleOut := false, toggleIn := false, toggleHub := false, haltOut := false, haltIn := false,
      haltHub := false, mute := s.usb.cmds.length }
    let s := s.each [0, 1, 2] fun s p => s.usbPowered p false
    let s := s.event Addr.usbEvents 1
    .next (if control then (s.event Addr.usbEvents 5).inc Addr.usbCtrlAbortCount else s)

/-- R479: the status stage of SET_ADDRESS. -/
def execSetAddress (addr : BitVec 7) (s : State) : Host.Outcome State Fault Refusal :=
  if !s.start.logicUp then .next s else
  if !s.usbAwake then .next s
  else
    let u := s.usb
    let dest : UsbSync := match u.sync with
      | .default => if addr = 0 then .default else .addressed
      | .addressed => if addr = 0 then .default else .addressed
      | x => x
    .next (s.setUsb { u with address := addr, sync := dest })

/-- R472: the status stage of SET_CONFIGURATION of the hub or of the function. -/
def execSetConfiguration (hub : Bool) (v : Byte) (s : State) : Host.Outcome State Fault Refusal :=
  if !s.start.logicUp then .next s else
  if !s.usbAwake || s.usb.sync == .default then .next s
  else
    let u := s.usb
    let u := { u with config := v, sync := if v = 0 then .addressed else .configured }
    .next (s.setUsb (if hub then { u with toggleHub := false }
      else { u with toggleOut := false, toggleIn := false, alt := 0, nominal := 0 }))

/-- R472, R474: the status stage of SET_INTERFACE; only the streaming interface has a setting 1. -/
def execSetInterface (itf : Fin 3) (alt : Fin 2) (s : State) : Host.Outcome State Fault Refusal :=
  if !s.start.logicUp then .next s else
  if !s.usbFunction then .next s
  else
    let u := s.usb
    if itf = 0 then .next (if alt = 0 then s.setUsb { u with toggleOut := false, toggleIn := false } else s)
    else if itf = 2 then
      .next (s.setUsb { u with alt := alt.val, nominal := if alt = 1 then s.angle.freq.toNat * s.audSpc else 0 })
    else .next s

/-- R472: the status stage of CLEAR_FEATURE(ENDPOINT_HALT). -/
def execClearFeatureEndpointHalt (hub : Bool) (ep : Byte) (s : State) : Host.Outcome State Fault Refusal :=
  if !s.start.logicUp then .next s else
  let u := s.usb
  if !s.usbAwake then .next s
  else if hub then .next (if ep = 0x81 then s.setUsb { u with toggleHub := false, haltHub := false } else s)
  else if ep = 0x01 then .next (s.setUsb { u with toggleOut := false, haltOut := false })
  else if ep = 0x81 then .next (s.setUsb { u with toggleIn := false, haltIn := false })
  else .next s

/-- R471: a SetPortFeature or ClearPortFeature request. -/
def execPortFeatureRequest (port : Fin 3) (set : Bool) (f : PortFeature) (s : State) : Host.Outcome State Fault Refusal :=
  if !s.start.logicUp then .next s else
  let x := s.usbPort port.val
  if !s.usbAwake || !s.usbPortEn port.val then .next s
  else
    match f, set with
    | .power, true => .next (s.setUsbPort port.val { x with vbus := true })
    | .power, false => .next (s.usbPowered port.val false)
    | .reset, true =>
      if x.sync == .disabled then .next (s.setUsbPort port.val { x with resetting := true }) else .next s
    | .enable, false =>
      if x.sync == .enabled then .next (s.setUsbPort port.val { x with sync := .disabled }) else .next s
    | .suspend, true =>
      if x.sync == .enabled then .next (s.setUsbPort port.val { x with sync := .suspended }) else .next s
    | .suspend, false =>
      if x.sync == .suspended then .next (s.setUsbPort port.val { x with resuming := true }) else .next s
    | .reset, false => .next s
    | .enable, true => .next s

/-- R471: a connection has been debounced for 100 ms with power on. -/
def execUsbPortConnectDebounced (port : Fin 3) (s : State) : Host.Outcome State Fault Refusal :=
  if !s.start.logicUp then .next s else
  let x := s.usbPort port.val
  if s.usb.sync != .detached && s.usbPortEn port.val && x.vbus && x.sync == .powered then
    .next (s.setUsbPort port.val { x with sync := .disabled, cConnection := true })
  else .next s

/-- R471: 15 ms of reset have been driven. -/
def execUsbPortResetEnd (port : Fin 3) (s : State) : Host.Outcome State Fault Refusal :=
  if !s.start.logicUp then .next s else
  let x := s.usbPort port.val
  if x.resetting then .next (s.setUsbPort port.val { x with sync := .enabled, resetting := false, cReset := true })
  else .next s

/-- R471: resume has been driven for 20 ms. -/
def execUsbPortResumeEnd (port : Fin 3) (s : State) : Host.Outcome State Fault Refusal :=
  if !s.start.logicUp then .next s else
  let x := s.usbPort port.val
  if x.resuming then .next (s.setUsbPort port.val { x with sync := .enabled, resuming := false, cSuspend := true })
  else .next s

/-- R471: over-current at port 2 or 3, filtered for 1 ms. -/
def execUsbOvercurrent (port : Fin 3) (s : State) : Host.Outcome State Fault Refusal :=
  if !s.start.logicUp then .next s else
  if port = 0 then .next s
  else
    let s := s.usbPowered port.val false
    .next ((s.setUsbPort port.val { s.usbPort port.val with cOverCurrent := true }).event Addr.usbEvents 7)

/-- R471: a device has left port 2 or 3. -/
def execUsbPortDisconnect (port : Fin 3) (s : State) : Host.Outcome State Fault Refusal :=
  if !s.start.logicUp then .next s else
  if port = 0 then .next s else .next (s.usbPowered port.val (s.usbPort port.val).vbus)

/-- R471: babble on an ENABLED port. -/
def execUsbPortBabble (port : Fin 3) (s : State) : Host.Outcome State Fault Refusal :=
  if !s.start.logicUp then .next s else
  let x := s.usbPort port.val
  if port != 0 && x.sync == .enabled then
    .next (s.setUsbPort port.val { x with sync := .disabled, cEnable := true })
  else .next s

/-- R471: the host suspends the hub, with remote wake enabled or not. -/
def execUsbSuspend (remoteWake : Bool) (s : State) : Host.Outcome State Fault Refusal :=
  if !s.start.logicUp then .next s else
  if !s.usbAwake then .next s
  else
    let s := s.setUsb { s.usb with suspended := true, remoteWake := remoteWake, suspendAt := s.clock, wakeAt := none }
    let s := s.each [0, 1, 2] fun s p =>
      let x := s.usbPort p
      if x.sync == .enabled then s.setUsbPort p { x with sync := .suspended } else s
    .next (s.event Addr.usbEvents 2)

/-- Periods of 2.5 ns in 5 ms (R478). -/
def periods5ms : Nat := 2_000_000

/-- A wake is requested: K is driven no earlier than 5 ms after suspend began (R478). -/
def State.usbWake (s : State) : State :=
  if s.usb.suspended && s.usb.remoteWake && s.usb.wakeAt.isNone then
    s.setUsb { s.usb with wakeAt := some (max s.clock (s.usb.suspendAt + periods5ms)) }
  else s

/-- R478: the service function requests a wake, for a fault or for a sample frame. -/
def execUsbRemoteWakeRequest (audio : Bool) (s : State) : Host.Outcome State Fault Refusal :=
  if !s.start.logicUp then .next s else
  let due := if audio then s.flag Addr.usbCtrl 4 && s.qAvail (s.field Addr.usbAudCtrl 0 6)
    else s.flag Addr.usbCtrl 3 && s.flag Addr.faultEvents 0
  if due then .next s.usbWake else .next s

/-- R478: 2 ms of K have been driven. -/
def execUsbRemoteWakeKEnd (s : State) : Host.Outcome State Fault Refusal :=
  if !s.start.logicUp then .next s else
  .next (s.setUsb { s.usb with wakeAt := none })

/-- R478: the host drives resume; a wake whose K has not begun, or would begin now, is merged. -/
def execUsbHostResume (s : State) : Host.Outcome State Fault Refusal :=
  if !s.start.logicUp then .next s else
  if !s.usb.suspended then .next s
  else
    let merged := match s.usb.wakeAt with
      | some t => decide (s.clock ≤ t)
      | none => false
    let s := s.setUsb { s.usb with suspended := false, wakeAt := if merged then none else s.usb.wakeAt }
    let s := s.event Addr.usbEvents 3
    .next (if merged then s.event Addr.usbEvents 4 else s)

/-- R471, R478: a device on a SUSPENDED port drives K: the hub drives resume there, and wakes a suspended host. -/
def execUsbPortDeviceResume (port : Fin 3) (s : State) : Host.Outcome State Fault Refusal :=
  if !s.start.logicUp then .next s else
  let x := s.usbPort port.val
  if port != 0 && x.sync == .suspended then
    .next (s.setUsbPort port.val { x with resuming := true }).usbWake
  else .next s

/-- Most sample frames in one packet (R474). -/
def State.audFrames (s : State) : Nat := 70 * s.audSpc / 8000 + 2

/-- The words of the whole sample frame at the head of the queue: those up to the first mark. -/
def headFrame (ws : List QWord) : Option (List QWord) :=
  match ws.find? fun w => w.mark != .data with
  | some m => some ((ws.takeWhile fun w => w.mark == .data) ++ [m])
  | none => none

/-- The bytes of a sample frame, least significant first (R475). -/
def frameBytes (ws : List QWord) : List Byte := ws.flatMap fun w => leBytes 3 w.v.toNat

/-- Sample frames are taken, up to `n` of them sent; `fuel` bounds the frames met (R475). -/
def State.audTake (s : State) (q n : Nat) (bs : List Byte) : Nat → List Byte × State
  | 0 => (bs, s)
  | fuel + 1 =>
    if n = 0 then (bs, s)
    else
      match headFrame (s.queue q).words with
      | none => (bs, s)
      | some ws =>
        let s := s.each ws fun s _ => match s.qTake q with
          | some p => p.2
          | none => s
        if (ws.getLast?.map (·.mark)) == some .last && ws.length == s.audChannels then
          State.audTake s q (n - 1) (bs ++ frameBytes ws) fuel
        else State.audTake ((s.inc Addr.usbAudUnderrunCount).event Addr.usbEvents 6) q n bs fuel

/-- R475: the audio endpoint sends the packet of a microframe. -/
def execAudioInTransfer (s : State) : Host.Outcome State Fault Refusal :=
  if !s.start.logicUp then .next s else
  if !s.usbFunction then .next s
  else
    let q := s.field Addr.usbAudCtrl 0 6
    if s.usb.alt = 0 ∨ s.qConsumer q ≠ sourceId .usb then .next (s.emit (.usbAudio []))
    else
      let p := s.audTake q s.audFrames [] (s.queue q).words.length
      .next (p.2.emit (.usbAudio p.1))

/-- R476: the feedback endpoint sends FB. -/
def execAudioFeedbackTransfer (s : State) : Host.Outcome State Fault Refusal :=
  if !s.start.logicUp then .next s else
  if s.usbFunction && s.usb.alt == 1 then .next (s.emit (.usbFeedback s.usbFb)) else .next s

end Sys2Proof.Machine
end

