-- ==== Sys2Proof/Machine/RegCmds.lean ====
section
/-! DEFINITION. The commands that are register accesses, and those of unit resets, regions and the die link. A command
that names a bit of the word it writes is the write with that bit as named. -/

namespace Sys2Proof.Machine

/-- R38, R39: a register write of `size` bytes. -/
def execRegisterWrite (i : Initiator) (addr : Word) (size : Nat) (v : Word) (s : State) :
    Host.Outcome State Fault Refusal := .next (s.writeAnswer i addr.toNat size v)

/-- R12: a write of UNIT_CTRL with RST 1. -/
def execUnitReset (i : Initiator) (u : HubUnit) (v : Word) (s : State) : Host.Outcome State Fault Refusal :=
  .next (s.writeAnswer i (unitCtrl u) 4 (setBit v 1 true))

/-- R12, R13: a unit reset ends; EN takes the written value, and held accesses are carried out. -/
def execUnitResetComplete (u : HubUnit) (s : State) : Host.Outcome State Fault Refusal :=
  match s.busy.find? fun b => b.u == u with
  | none => .next s
  | some b =>
    let s := { s with busy := s.busy.filter fun b => b.u != u }
    let s := if s.unitFenced u then s else s.setEnable u b.en
    let s := s.releaseHeld u
    .next (if u = .bridge ∨ u = .host then s.retryWaiting.releaseReads else s).usbGo

/-- R11, R14: a write of UNIT_CTRL with RST 0. -/
def execUnitEnableWrite (i : Initiator) (u : HubUnit) (v : Word) (s : State) : Host.Outcome State Fault Refusal :=
  .next (s.writeAnswer i (unitCtrl u) 4 (setBit v 1 false))

/-- R42: a read of the low word of a 64-bit value. -/
def execReadLowWordLatch (i : Initiator) (addr : Word) (s : State) : Host.Outcome State Fault Refusal :=
  if lowWordRead addr.toNat then .next (s.readAnswer i addr.toNat 4) else .next s

/-- R43: a write of the low word of a 64-bit value. -/
def execWriteLowWordStage (i : Initiator) (addr : Word) (v : Word) (s : State) : Host.Outcome State Fault Refusal :=
  if lowWordWrite addr.toNat then .next (s.writeAnswer i addr.toNat 4 v) else .next s

/-- R43: a write of the high word of a 64-bit value. -/
def execWriteHighWordCommit (i : Initiator) (addr : Word) (v : Word) (s : State) : Host.Outcome State Fault Refusal :=
  if 4 ≤ addr.toNat ∧ lowWordWrite (addr.toNat - 4) then .next (s.writeAnswer i addr.toNat 4 v) else .next s

/-- R47: a write to a sequence-cleared register. -/
def execSqClearWrite (i : Initiator) (addr : Word) (v : Word) (s : State) : Host.Outcome State Fault Refusal :=
  if hasAccess addr.toNat .sq then .next (s.writeAnswer i addr.toNat 4 v) else .next s

/-- R50, R51: a write to the value word of a guarded pair. -/
def execGuardValueWrite (i : Initiator) (addr : Word) (v : Word) (s : State) : Host.Outcome State Fault Refusal :=
  if hasAccess addr.toNat .gd then .next (s.writeAnswer i addr.toNat 4 v) else .next s

/-- R51: 256 CORE cycles pass with no complement. -/
def execGuardExpiry (addr : Word) (s : State) : Host.Outcome State Fault Refusal :=
  if (s.guard addr.toNat).armed.isSome then .next (s.guardFail addr.toNat 1) else .next s

/-- R57: the complement of REGIF_CFG_CRC_REF is written. -/
def execCfgCrcRefCommit (i : Initiator) (compl : Word) (s : State) : Host.Outcome State Fault Refusal :=
  .next (s.guardedWrite i Addr.regifCfgCrcRef compl fun _ => true)

/-- R20: the complement of GLOBAL_REGION_FENCE is written; a region is to be fenced. -/
def execRegionFence (i : Initiator) (compl : Word) (s : State) : Host.Outcome State Fault Refusal :=
  .next (s.guardedWrite i Addr.globalRegionFence compl fun v => bits v 0 4 != 0)

/-- R22: the complement of GLOBAL_REGION_FENCE is written; a fenced region is to be released. -/
def execRegionRelease (i : Initiator) (compl : Word) (s : State) : Host.Outcome State Fault Refusal :=
  .next (s.guardedWrite i Addr.globalRegionFence compl fun v => (List.range 4).any fun r => s.fenced r && !bit v r)

/-- The words of the active configuration for the units of region `r`, core memories left out (R22, R326). -/
def State.regionWords (s : State) (r : Nat) : List (Nat × Word) :=
  let ws := if s.cache.valid then s.cache.words else s.image
  ws.filter fun e => addrRegion e.1 == some r && !decide (0x60_0000 ≤ e.1 ∧ e.1 < 0x80_0000)

/-- The word at `a` is a unit control word. -/
def isUnitCtrl (a : Nat) : Bool :=
  match ownerOf a with
  | some u => a == unitCtrl u
  | none => false

/-- Boot/update writes words of the configuration; units are enabled after the other registers are written (R22). -/
def State.bootWords (s : State) (ws : List (Nat × Word)) : State :=
  s.each ((ws.filter fun e => !isUnitCtrl e.1) ++ ws.filter fun e => isUnitCtrl e.1) fun s e =>
    (s.writeLocal .boot e.1 e.2).2

/-- R22: the reload of a released region is complete; that of a region that woke ends with phase 5 of the start (R416). -/
def execRegionReloadComplete (r : Fin 4) (s : State) : Host.Outcome State Fault Refusal :=
  if s.flag Addr.globalRegionState (12 + r.val) && !decide (2 ≤ s.start.phase ∧ s.start.phase ≤ 5) then
    let t := s.bootWords (s.regionWords r.val)
    .next (t.noteSuspend (t.setFlag Addr.globalRegionState (12 + r.val) false))
  else .next s

/-- R25: a parity error on the die link, seen by the power die or by the logic die; the frame is sent again. -/
def execDieLinkParityError (power : Bool) (s : State) : Host.Outcome State Fault Refusal :=
  .next (s.report (s.message (dieLinkSource power) .parity .degraded 0 (s.hubAddr 0xA0_0000)))

/-- R25, R26, R375: the die link is lost: outstanding accesses end with KIND 4, commands on their way are gone, and the
hold time begins. -/
def execDieLinkLost (s : State) : Host.Outcome State Fault Refusal :=
  if !s.dieLink.up then .next s
  else
    let isPower (h : HeldAccess) : Bool := match locate h.addr with
      | some (b, _) => powerBlock b
      | none => false
    let gone := s.held.filter isPower
    let s := { s with
      dieLink := { up := false, holding := true }
      held := s.held.filter fun h => !isPower h }
    let s := s.each (List.range 8) fun s g => s.setGroup g { s.group g with cmds := [] }
    .next (s.each gone fun s h =>
      let p := s.refuseAt h.who h.fa h.isWrite 4 h.order
      p.2.heldEnd h p.1)

/-- R26, R391: the link-loss hold time ends. -/
def execLinkLossHoldExpiry (s : State) : Host.Outcome State Fault Refusal :=
  if s.dieLink.holding then .next { s.groupsRelease with dieLink := { s.dieLink with holding := false } } else .next s

/-- R26, R434: the die link is up again, and the records that the power die held arrive. -/
def execDieLinkRecover (s : State) : Host.Outcome State Fault Refusal :=
  if s.dieLink.up || !s.start.logicUp then .next s
  else
    let f := s.fault
    let late := f.powerHeld.map fun m => { m with since := s.now }
    let s := { s with
      dieLink := { up := true, holding := false }
      fault := { f with msgs := f.msgs ++ late, powerHeld := [], powerLost := 0 } }
    .next (s.addTo Addr.faultPowerLostCount f.powerLost)

/-- R74: the host writes HOST_FENCE. -/
def execHostFenceMark (v : Word) (s : State) : Host.Outcome State Fault Refusal :=
  .next (s.writeAnswer .host Addr.hostFence 4 v)

/-- R74: the host reads HOST_FENCE. -/
def execHostFenceRead (s : State) : Host.Outcome State Fault Refusal := .next (s.readAnswer .host Addr.hostFence 4)

/-- R74, R75: the covered writes of a waiting HOST_FENCE read are complete or have failed. -/
def execHostFenceReadComplete (s : State) : Host.Outcome State Fault Refusal :=
  if s.hostFence.reading && s.hostFenceDone then .next (s.readAnswer .host Addr.hostFence 4) else .next s

/-- R83: the complement of TIME_STEP_CMD is written. -/
def execTimeStep (i : Initiator) (compl : Word) (s : State) : Host.Outcome State Fault Refusal :=
  .next (s.guardedWrite i Addr.timeStepCmd compl fun v => bit v 0)

/-- R82: a write of TIME_RATE. -/
def execTimeRateWrite (i : Initiator) (v : Word) (s : State) : Host.Outcome State Fault Refusal :=
  .next (s.writeAnswer i Addr.timeRate 4 v)

/-- R84: a read of TIME_NOW_NS_LO. -/
def execTimeNowRead (i : Initiator) (s : State) : Host.Outcome State Fault Refusal :=
  .next (s.readAnswer i Addr.timeNowNsLo 4)

/-- R85, R87: a write of TIME_CTRL. -/
def execTimeSourceWrite (i : Initiator) (v : Word) (s : State) : Host.Outcome State Fault Refusal :=
  .next (s.writeAnswer i Addr.timeCtrl 4 v)

/-- R110: a write of ANGLE_SV_SECOND, ANGLE_SV_META or ANGLE_SV_RATE. -/
def execAngleSvStageWrite (i : Initiator) (addr : Word) (v : Word) (s : State) : Host.Outcome State Fault Refusal :=
  if addr.toNat = Addr.angleSvSecond ∨ addr.toNat = Addr.angleSvMeta ∨ addr.toNat = Addr.angleSvRate then
    .next (s.writeAnswer i addr.toNat 4 v)
  else .next s

/-- R110: a write of ANGLE_SV_PUSH. -/
def execAngleSvPush (i : Initiator) (v : Word) (s : State) : Host.Outcome State Fault Refusal :=
  .next (s.writeAnswer i Addr.angleSvPush 4 v)

/-- R115: a read of ANGLE_NOW. -/
def execAngleNowRead (i : Initiator) (s : State) : Host.Outcome State Fault Refusal :=
  .next (s.readAnswer i Addr.angleNow 4)

/-- R108: a write of ANGLE_CTRL. -/
def execAngleCtrlWrite (i : Initiator) (v : Word) (s : State) : Host.Outcome State Fault Refusal :=
  .next (s.writeAnswer i Addr.angleCtrl 4 v)

/-- R118, R119: a write of W0 of an Ephemeris entry. -/
def execEphemW0Write (i : Initiator) (e : Fin 4096) (v : Word) (s : State) : Host.Outcome State Fault Refusal :=
  .next (s.writeAnswer i (Addr.ephemEntry e.val 0) 4 v)

/-- R119, R133: a write of one of W1 to W6 of an entry; W7 is read-only. -/
def execEphemWordWrite (i : Initiator) (e : Fin 4096) (w : Fin 8) (v : Word) (s : State) :
    Host.Outcome State Fault Refusal :=
  if w = 0 then .next s else .next (s.writeAnswer i (Addr.ephemEntry e.val w.val) 4 v)

/-- R132: a write of EPHEM_CTRL. -/
def execEphemCtrlWrite (i : Initiator) (v : Word) (s : State) : Host.Outcome State Fault Refusal :=
  .next (s.writeAnswer i Addr.ephemCtrl 4 v)

/-- R137: a write of PIN_CFG. -/
def execPinCfgWrite (i : Initiator) (pin : Fin 256) (v : Word) (s : State) : Host.Outcome State Fault Refusal :=
  .next (s.writeAnswer i (pinCfgAddr pin.val) 4 v)

/-- R147: a write of BANK_ENG_START. -/
def execBankEngStart (i : Initiator) (n : Fin 8) (v : Word) (s : State) : Host.Outcome State Fault Refusal :=
  .next (s.writeAnswer i (Addr.bankEngStart n.val) 4 v)

/-- R147: a write of BANK_ENG_STOP. -/
def execBankEngStop (i : Initiator) (n : Fin 8) (v : Word) (s : State) : Host.Outcome State Fault Refusal :=
  .next (s.writeAnswer i (Addr.bankEngStop n.val) 4 v)

/-- R147: a write of ENG_PC. -/
def execEngPcWrite (i : Initiator) (e : Fin 64) (v : Word) (s : State) : Host.Outcome State Fault Refusal :=
  .next (s.writeAnswer i (Addr.engPc e.val) 4 v)

/-- R148: a write of ENG_CTRL. -/
def execEngCtrlWrite (i : Initiator) (e : Fin 64) (v : Word) (s : State) : Host.Outcome State Fault Refusal :=
  .next (s.writeAnswer i (Addr.engCtrl e.val) 4 v)

/-- R160: a write of ENG_INJECT. -/
def execEngInjectWrite (i : Initiator) (e : Fin 64) (v : Word) (s : State) : Host.Outcome State Fault Refusal :=
  .next (s.writeAnswer i (Addr.engInject e.val) 4 v)

/-- R157: a write of ENG_TXF. -/
def execEngTxfWrite (i : Initiator) (e : Fin 64) (v : Word) (s : State) : Host.Outcome State Fault Refusal :=
  .next (s.writeAnswer i (Addr.engTxf e.val) 4 v)

/-- R157: a read of ENG_RXF. -/
def execEngRxfRead (i : Initiator) (e : Fin 64) (s : State) : Host.Outcome State Fault Refusal :=
  .next (s.readAnswer i (Addr.engRxf e.val) 4)

/-- R168: a write of CAN_CTRL with INIT 1. -/
def execCanInitSet (i : Initiator) (n : Fin 8) (v : Word) (s : State) : Host.Outcome State Fault Refusal :=
  .next (s.writeAnswer i (Addr.canCtrl n.val) 4 (setBit v 0 true))

/-- R168: a write of CAN_CTRL with INIT 0. -/
def execCanInitClear (i : Initiator) (n : Fin 8) (v : Word) (s : State) : Host.Outcome State Fault Refusal :=
  .next (s.writeAnswer i (Addr.canCtrl n.val) 4 (setBit v 0 false))

/-- R168: a write of CAN_CTRL with RECOVER 1. -/
def execCanRecover (i : Initiator) (n : Fin 8) (v : Word) (s : State) : Host.Outcome State Fault Refusal :=
  .next (s.writeAnswer i (Addr.canCtrl n.val) 4 (setBit v 5 true))

/-- R177: a write of CAN_CTRL with SLEEP_REQ 1. -/
def execCanSleepReq (i : Initiator) (n : Fin 8) (v : Word) (s : State) : Host.Outcome State Fault Refusal :=
  .next (s.writeAnswer i (Addr.canCtrl n.val) 4 (setBit v 6 true))

/-- R177: a write of CAN_CTRL with SLEEP_REQ 0. -/
def execCanSleepReqClear (i : Initiator) (n : Fin 8) (v : Word) (s : State) : Host.Outcome State Fault Refusal :=
  .next (s.writeAnswer i (Addr.canCtrl n.val) 4 (setBit v 6 false))

/-- R175: a write of CAN_TXADD. -/
def execCanTxadd (i : Initiator) (n : Fin 8) (v : Word) (s : State) : Host.Outcome State Fault Refusal :=
  .next (s.writeAnswer i (Addr.canTxadd n.val) 4 v)

/-- R176: a write of CAN_TXCANCEL. -/
def execCanTxcancel (i : Initiator) (n : Fin 8) (v : Word) (s : State) : Host.Outcome State Fault Refusal :=
  .next (s.writeAnswer i (Addr.canTxcancel n.val) 4 v)

/-- R174: a read of word 0 of the receive buffer at GET. -/
def execCanRxWord0Read (i : Initiator) (n : Fin 8) (s : State) : Host.Outcome State Fault Refusal :=
  .next (s.readAnswer i (Addr.canRx n.val (s.can n.val).get 0) 4)

/-- R174: a read of the last word of the receive buffer at GET. -/
def execCanRxLastWordRead (i : Initiator) (n : Fin 8) (s : State) : Host.Outcome State Fault Refusal :=
  let b := (s.can n.val).get
  let last := 3 + (bufLength (s.reg (Addr.canRx n.val b 0)) (s.reg (Addr.canRx n.val b 1)) + 3) / 4
  .next (s.readAnswer i (Addr.canRx n.val b last) 4)

/-- R182: a write of UART_TXF. -/
def execUartTxfWrite (i : Initiator) (u : Fin 16) (v : Word) (s : State) : Host.Outcome State Fault Refusal :=
  .next (s.writeAnswer i (Addr.uartTxf u.val) 4 v)

/-- R184: a read of UART_RXF. -/
def execUartRxfRead (i : Initiator) (u : Fin 16) (s : State) : Host.Outcome State Fault Refusal :=
  .next (s.readAnswer i (Addr.uartRxf u.val) 4)

/-- R194: a write of LINK_CTRL, LINK_NEIGHBOUR or LINK_UNIT_CTRL, which may start training. -/
def execLinkTrainStart (i : Initiator) (addr : Word) (v : Word) (s : State) : Host.Outcome State Fault Refusal :=
  let a := addr.toNat
  let hit : Bool := [0, 1, 2].any fun l => a == Addr.linkCtrl l || a == Addr.linkNeighbour l || a == Addr.linkUnitCtrl l
  if hit then .next (s.writeAnswer i a 4 v) else .next s

/-- R207: a write of LINK_LOOPBACK. -/
def execLinkLoopbackWrite (i : Initiator) (l : Port) (v : Word) (s : State) : Host.Outcome State Fault Refusal :=
  .next (s.writeAnswer i (linkReg l Addr.linkLoopback) 4 v)

/-- R208: a write of LINK_TEST. -/
def execLinkTestWrite (i : Initiator) (l : Port) (v : Word) (s : State) : Host.Outcome State Fault Refusal :=
  .next (s.writeAnswer i (linkReg l Addr.linkTest) 4 v)

/-- R210: a write of LINK_BYPASS_CTRL. -/
def execBypassCtrlWrite (i : Initiator) (v : Word) (s : State) : Host.Outcome State Fault Refusal :=
  .next (s.writeAnswer i (Addr.linkBypassCtrl 0) 4 v)

/-- R224: the complement of RING_CMD is written; REJOIN is commanded. -/
def execRingRejoin (i : Initiator) (compl : Word) (s : State) : Host.Outcome State Fault Refusal :=
  .next (s.guardedWrite i Addr.ringCmd compl fun v => bit v 0)

/-- R228: the complement of RING_CMD is written; LEAVE is commanded. -/
def execRingLeave (i : Initiator) (compl : Word) (s : State) : Host.Outcome State Fault Refusal :=
  .next (s.guardedWrite i Addr.ringCmd compl fun v => bit v 1)

/-- R256, R258: a read of a semaphore. -/
def execSemaphoreRead (i : Initiator) (n : Fin 32) (s : State) : Host.Outcome State Fault Refusal :=
  .next (s.readAnswer i (Addr.bridgeSem n.val) 4)

/-- R257: a write of a semaphore. -/
def execSemaphoreWrite (i : Initiator) (n : Fin 32) (v : Word) (s : State) : Host.Outcome State Fault Refusal :=
  .next (s.writeAnswer i (Addr.bridgeSem n.val) 4 v)

/-- R257: a semaphore has been held for LEASE. -/
def execSemaphoreLeaseExpiry (n : Fin 32) (s : State) : Host.Outcome State Fault Refusal :=
  if (s.sem n.val).isSome then .next (s.semBreak n.val 1) else .next s

/-- R278: a write of CAP_RD. -/
def execCapRdWrite (i : Initiator) (c : Fin 16) (v : Word) (s : State) : Host.Outcome State Fault Refusal :=
  .next (s.writeAnswer i (Addr.capRd c.val) 4 v)

/-- R279: a write of CAP_CTRL. -/
def execCapCtrlWrite (i : Initiator) (c : Fin 16) (v : Word) (s : State) : Host.Outcome State Fault Refusal :=
  .next (s.writeAnswer i (Addr.capCtrl c.val) 4 v)

/-- R290: a write of a policer's configuration. -/
def execPolicerConfigWrite (i : Initiator) (p : Fin 1024) (w : Fin 4) (v : Word) (s : State) :
    Host.Outcome State Fault Refusal :=
  .next (s.writeAnswer i (Addr.trfPolCir p.val + 4 * w.val) 4 v)

/-- R293: a write of a shaper's configuration. -/
def execShaperConfigWrite (i : Initiator) (sh : Fin 512) (w : Fin 3) (v : Word) (s : State) :
    Host.Outcome State Fault Refusal :=
  .next (s.writeAnswer i (Addr.trfShRate sh.val + 4 * w.val) 4 v)

/-- R298: the complement of STA_GATE_CMD is written. -/
def execConfigChange (i : Initiator) (p : Fin 2) (compl : Word) (s : State) : Host.Outcome State Fault Refusal :=
  .next (s.guardedWrite i (Addr.staGateCmd p.val) compl fun v => bit v 0)

/-- R323: a write of SVC_DOORBELL. -/
def execSvcDoorbellWrite (i : Initiator) (n : Fin 4) (v : Word) (s : State) : Host.Outcome State Fault Refusal :=
  .next (s.writeAnswer i (Addr.svcDoorbell n.val) 4 v)

/-- R327: a write of SVC_CMD with START 1. -/
def execStart (i : Initiator) (n : Fin 4) (v : Word) (s : State) : Host.Outcome State Fault Refusal :=
  .next (s.writeAnswer i (Addr.svcCmd n.val) 4 (setBit v 0 true))

/-- R327: a write of SVC_CMD with HALT 1. -/
def execHalt (i : Initiator) (n : Fin 4) (v : Word) (s : State) : Host.Outcome State Fault Refusal :=
  .next (s.writeAnswer i (Addr.svcCmd n.val) 4 (setBit v 1 true))

/-- R327: a write of SVC_CMD with STEP 1. -/
def execStep (i : Initiator) (n : Fin 4) (v : Word) (s : State) : Host.Outcome State Fault Refusal :=
  .next (s.writeAnswer i (Addr.svcCmd n.val) 4 (setBit v 2 true))

/-- R332: a write of Q_PUSH. -/
def execQPush (i : Initiator) (q : Fin 64) (v : Word) (s : State) : Host.Outcome State Fault Refusal :=
  .next (s.writeAnswer i (Addr.qPush q.val) 4 v)

/-- R332: a write of Q_PUSH_END. -/
def execQPushEnd (i : Initiator) (q : Fin 64) (v : Word) (s : State) : Host.Outcome State Fault Refusal :=
  .next (s.writeAnswer i (Addr.qPushEnd q.val) 4 v)

/-- R332: a write of Q_PUSH_ABORT. -/
def execQPushAbort (i : Initiator) (q : Fin 64) (v : Word) (s : State) : Host.Outcome State Fault Refusal :=
  .next (s.writeAnswer i (Addr.qPushAbort q.val) 4 v)

/-- R335: a read of Q_POP. -/
def execQPop (i : Initiator) (q : Fin 64) (s : State) : Host.Outcome State Fault Refusal :=
  .next (s.readAnswer i (Addr.qPop q.val) 4)

/-- R336: a write of Q_DROPPKT. -/
def execQDroppkt (i : Initiator) (q : Fin 64) (v : Word) (s : State) : Host.Outcome State Fault Refusal :=
  .next (s.writeAnswer i (Addr.qDroppkt q.val) 4 v)

/-- R368: the complement of PAIR_CMD is written; SWITCHOVER is commanded. -/
def execSwitchover (i : Initiator) (compl : Word) (s : State) : Host.Outcome State Fault Refusal :=
  .next (s.guardedWrite i Addr.pairCmd compl fun v => bit v 0)

/-- R357: the complement of PAIR_CMD is written; RESYNC is commanded. -/
def execResync (i : Initiator) (compl : Word) (s : State) : Host.Outcome State Fault Refusal :=
  .next (s.guardedWrite i Addr.pairCmd compl fun v => bit v 1)

/-- R382: a write of FEED_UNIT_CTRL with EN 0. -/
def execFeedDisableWrite (i : Initiator) (f : Fin 2) (v : Word) (s : State) : Host.Outcome State Fault Refusal :=
  .next (s.writeAnswer i (unitCtrl (.feed f)) 4 (setBits v 0 2 0))

/-- R397: the complement of GLOBAL_RESET_CMD is written; a warm reset is commanded. -/
def execWarm (i : Initiator) (compl : Word) (s : State) : Host.Outcome State Fault Refusal :=
  .next (s.guardedWrite i Addr.globalResetCmd compl fun v => bit v 0)

/-- R414: the complement of COMET_HIB_CMD is written; hibernate entry is commanded. -/
def execEnter (i : Initiator) (compl : Word) (s : State) : Host.Outcome State Fault Refusal :=
  .next (s.guardedWrite i Addr.cometHibCmd compl fun v => bit v 0)

/-- R423: the complement of BOOT_CMD is written with BEGIN armed. -/
def execBegin (i : Initiator) (compl : Word) (s : State) : Host.Outcome State Fault Refusal :=
  .next (s.guardedWrite i Addr.bootCmd compl fun v => bits v 0 3 == 1)

/-- R423: the complement of BOOT_CMD is written with PROGRAM armed. -/
def execProgram (i : Initiator) (compl : Word) (s : State) : Host.Outcome State Fault Refusal :=
  .next (s.guardedWrite i Addr.bootCmd compl fun v => bits v 0 3 == 2)

/-- R423, R424: the complement of BOOT_CMD is written with COMMIT armed. -/
def execCommit (i : Initiator) (compl : Word) (s : State) : Host.Outcome State Fault Refusal :=
  .next (s.guardedWrite i Addr.bootCmd compl fun v => bits v 0 3 == 3)

/-- R423: the complement of BOOT_CMD is written with ABORT armed. -/
def execAbort (i : Initiator) (compl : Word) (s : State) : Host.Outcome State Fault Refusal :=
  .next (s.guardedWrite i Addr.bootCmd compl fun v => bits v 0 3 == 4)

/-- R424: the complement of BOOT_LOCK is written. -/
def execOwnerLock (i : Initiator) (compl : Word) (s : State) : Host.Outcome State Fault Refusal :=
  .next (s.guardedWrite i Addr.bootLock compl fun _ => true)

/-- R425: a write of BOOT_PROTECT. -/
def execBootProtectWrite (i : Initiator) (v : Word) (s : State) : Host.Outcome State Fault Refusal :=
  .next (s.writeAnswer i Addr.bootProtect 4 v)

/-- R429: the complement of BOOT_HEALTH_CONFIRM is written. -/
def execConfirm (i : Initiator) (compl : Word) (s : State) : Host.Outcome State Fault Refusal :=
  .next (s.guardedWrite i Addr.bootHealthConfirm compl fun v => bit v 0)

/-- R427: a read, or a write of `v`, of BOOT_SET_DATA. -/
def execBootSetDataAccess (i : Initiator) (v : Option Word) (s : State) : Host.Outcome State Fault Refusal :=
  match v with
  | none => .next (s.readAnswer i Addr.bootSetData 4)
  | some v => .next (s.writeAnswer i Addr.bootSetData 4 v)

/-- R446: the complement of FAULT_INJECT is written. -/
def execFaultInject (i : Initiator) (compl : Word) (s : State) : Host.Outcome State Fault Refusal :=
  .next (s.guardedWrite i Addr.faultInject compl fun _ => true)

/-- R457: a write of HOST_DMA_TAIL_c. -/
def execHostDmaTailWrite (i : Initiator) (c : Fin 8) (v : Word) (s : State) : Host.Outcome State Fault Refusal :=
  .next (s.writeAnswer i (Addr.hostDmaTail c.val) 4 v)

/-- R461, R462: a write of HOST_DMA_CTRL_c. -/
def execHostDmaCtrlWrite (i : Initiator) (c : Fin 8) (v : Word) (s : State) : Host.Outcome State Fault Refusal :=
  .next (s.writeAnswer i (Addr.hostDmaCtrl c.val) 4 v)

/-- R462: a write of HOST_DOORBELL. -/
def execHostDoorbellWrite (i : Initiator) (v : Word) (s : State) : Host.Outcome State Fault Refusal :=
  .next (s.writeAnswer i Addr.hostDoorbell 4 v)

/-- R467: the complement of COMET_MGMT_CMD is written; a restart is commanded. -/
def execLogicRestart (i : Initiator) (compl : Word) (s : State) : Host.Outcome State Fault Refusal :=
  .next (s.guardedWrite i Addr.cometMgmtCmd compl fun v => bit v 0)

/-- R467: 10 ms after a restart began, the power die raises LOGIC_EN again: a logic power-on reset. -/
def execLogicRestartRaise (s : State) : Host.Outcome State Fault Refusal :=
  if s.mgmt.restart then
    let s := { s with mgmt := { s.mgmt with restart := false } }
    let s := if s.start.logicUp then s.logicDown (2 ^ 2) 0 else s
    .next { s with
      power := { s.power with logicEn := true }
      comet := { s.comet with power := .starting }
      start := { s.start with phase := 2 } }
  else .next s

/-- A CAN controller wakes by a cause (R178), and the hub with it where CAN_EN names the controller (R415). -/
def State.canWakeNow (s : State) (n cause : Nat) : State :=
  let s :=
    if s.start.logicUp && (s.can n).sync == .sleep then s.canWakeUp n cause
    else s.setCanWake n { s.canWakeOf n with asleep := false, woke := cause }
  if s.flag Addr.cometHibCtrl (16 + n) && (s.comet.power == .hibernate || s.comet.power == .entering) then
    (s.setField Addr.cometWakeInfo 4 3 n).wake 2 3
  else s

/-- R178: a dominant level of WAKE_FILT in WAKE_MODE 0. -/
def execCanWakeDominant (n : Fin 8) (s : State) : Host.Outcome State Fault Refusal :=
  let w := s.canWakeOf n.val
  if w.asleep && !w.frameMode then .next (s.canWakeNow n.val 1) else .next s

/-- R178: the wake-frame decoder ends a frame: one with a correct CRC, or a decoding error. -/
def execCanWakeFrameDecode (n : Fin 8) (f : Option CanFrame) (s : State) : Host.Outcome State Fault Refusal :=
  let w := s.canWakeOf n.val
  if !w.asleep || !w.frameMode then .next s
  else
    let good : Option CanFrame := match f with
      | some f => if f.fdf then none else some f
      | none => none
    match good with
    | some f => if wakeMatch w f then .next (s.canWakeNow n.val 2) else .next s
    | none =>
      let s := s.setCanWake n.val { w with errs := w.errs + 1 }
      if w.errLimit != 0 && decide (w.errLimit ≤ w.errs + 1) then .next (s.canWakeNow n.val 3) else .next s

end Sys2Proof.Machine
end

