-- ==== Sys2Proof/Machine/Apply.lean ====
section
/-! DEFINITION. Phase 5 of start-up (R403, R412, R416): the configuration is applied. -/

namespace Sys2Proof.Machine

/-- The regions, as a mask, that keep their state: retained, with the digest of what was loaded (R416). -/
def State.keptRegions (s : State) : Nat :=
  if s.comet.digest.isSome && s.comet.digest == s.usedDigest then s.start.retained else 0

/-- A retained region whose digest does not match is reloaded like a gated one (R416). -/
def State.dropRegion (s : State) (r : Nat) : State :=
  let s := s.each (regionUnits r ++ (List.range 16).map fun k => .queue (fin 63 (16 * r + k))) State.unitReset
  { s with
    mem := s.mem.filter fun e => !decide (Addr.coreRam r ≤ e.1 ∧ e.1 < Addr.coreRam r + 0x8_0000)
    ecc := s.ecc.filter fun e => addrRegion e.1 != some r }

/-- The words that phase 5 writes: all but the reference CRC, which phase 7 commits, the kept regions, and regions fenced
meanwhile, which their release reloads (R22, R403, R405). -/
def State.applyWords (s : State) (keep : Nat) : List (Nat × Word) :=
  s.image.filter fun e =>
    !(e.1 == Addr.regifCfgCrcRef || e.1 == Addr.regifCfgCrcRefG || keeps keep (holdRegion e.1)
      || keeps (s.field Addr.globalRegionState 0 4) (addrRegion e.1))

/-- The regions that a wake reloads have been written (R22, R23). -/
def State.reloaded (s : State) : State :=
  s.noteSuspend (s.each (List.range 4) fun s r => s.setFlag Addr.globalRegionState (12 + r) false)

/-- A CAN controller that woke while its region slept enters INTEGRATING (R178). -/
def State.canResume (s : State) (n : Nat) : State :=
  let w := s.canWakeOf n
  let init := (s.can n).sync == .init
  let s :=
    if w.woke ≠ 0 then
      let t := s.canWakeUp n w.woke
      if init then t.setCan n { t.can n with sync := .init } else t
    else s
  if (s.can n).sync == .sleep then s else s.setCanWake n { s.canWakeOf n with asleep := false }

/-- The filter of a retained pin meets the level that the ball has now (R141, R413). -/
def State.pinResume (s : State) (p : Nat) : State :=
  let x := s.pin p
  if x.raw = x.filt then s else (s.setPin p { x with raw := x.filt }).pinChange p x.raw

/-- What the image declares and the hub as seen does not match is a mismatch with cause 3 as phase 5 ends, and the node is to
be released in Transit (R2, R29, R241, R408). -/
def State.applyCheck (s : State) : State :=
  if s.start.transitCause = 3 || s.declaredMismatch then
    let t := s.enterTransit 3
    { t with start := { t.start with transitCause := 3 } }
  else s

/-- R403: phase 5 ends. `failed`: the items of the partial self-test that fail, by unit and kind. -/
def execApplyComplete (failed : List (HubUnit × FaultKind)) (s : State) : Host.Outcome State Fault Refusal :=
  if !(s.start.logicUp && s.start.phase == 5) then .next s
  else
    let keep := s.keptRegions
    let s := s.each ((List.range 4).filter fun r => s.start.retained.testBit r && !keep.testBit r) State.dropRegion
    let s := (s.bootWords (s.applyWords keep)).reloaded.applyCheck
    let s := { s with time := { s.time with offset := s.seedOffset } }
    let s := s.each failed fun s e => s.raise e.1 e.2 0 none
    let s := s.each (List.range 8) State.canResume
    let s := s.each ((List.range 256).filter fun p => keep.testBit (p / 64)) State.pinResume
    .next { s with start := { s.start with
      phase := 6, retained := 0, selftestFail := s.start.selftestFail || !failed.isEmpty } }

end Sys2Proof.Machine
end

