-- ==== Sys2Proof/Machine/BridgeExec.lean ====
section
/-! DEFINITION. The bridge (chapter 10) at both ends of a transaction: requests that reach this hub, the target ports of
spaces 1 to 3, the endpoint directory (R348 to R351), responses, RETRY and timeouts, and bridging pairs (R241). -/

namespace Sys2Proof.Machine

/-- Offset of a space-3 access in the service RAM, and DRAM, as the memory holds them: space 3 offset o lies at local
address 0x0060_0000 + o (log entry 65); space 2 offset o is DRAM address o (R343). -/
def ramAddr (off : Nat) : Nat := Addr.coreRam 0 + off

/-- The service RAM has a word at space-3 offset `off`. -/
def ramHas (off : Nat) : Bool := decide (off < 0x20_0000) && decide (off % 0x8_0000 < 0x6_0000)

/-- KIND of the error that an access of `n` words to space 2 meets (R343, R346); `c` is the local core, if one makes it. -/
def State.dramKind (s : State) (c : Option (Fin 4)) (off n : Nat) : Option Nat :=
  if s.dram.sync != .ready || decide (s.dramSize < off + 4 * n) then some 4
  else
    match c with
    | none => none
    | some k =>
      let lo := s.field (Addr.dramOvfBase k.val) 16 16 * 65536
      let hi := lo + s.field (Addr.dramOvfSize k.val) 0 16 * 65536
      if bit s.dram.cfg 7 && !(decide (lo ≤ off) && decide (off + 4 * n ≤ hi)) then some 4 else none

/-- KIND of the error that an access of `n` words to space 3 meets (R38, log entry 65). -/
def State.ramKind (s : State) (off n : Nat) : Option Nat :=
  if !((List.range n).all fun k => ramHas (off + 4 * k)) then some 4
  else if (List.range n).any (fun k => s.unitFenced (coreUnit ((off + 4 * k) / 0x8_0000))) then some 7
  else none

/-- The endpoint entry of an ID: the lowest valid one (R349). -/
def State.endpoint (s : State) (id : Nat) : Option Nat :=
  (s.regs.filterMap fun p =>
    if decide (0x80_8000 ≤ p.1 ∧ p.1 < 0x81_0000 ∧ p.1 % 8 = 0) && bit p.2 31 && bits p.2 0 18 == id then
      some ((p.1 - 0x80_8000) / 8) else none).head?

/-- The entry that serves an access of `n` words to space 1, or the KIND of its error (R348, R349). -/
def State.endpointKind (s : State) (off n : Nat) (isWrite : Bool) : Nat ⊕ Nat :=
  match (if off / 2 ^ 26 = 0 then s.endpoint (off / 256 % 2 ^ 18) else none) with
  | none => .inr 4
  | some e =>
    let w1 := s.reg (Addr.epEntry e 1)
    if bits w1 8 6 + 1 < off / 4 % 64 + n then .inr 4
    else if isWrite && !bit w1 14 then .inr 5
    else .inl e

/-- This hub, as a bridge, sent the frame on: its TAG is that of a record (R241). -/
def State.isBridged (s : State) (f : RingFrame) : Bool := s.bridge.records.any fun r => r.tag.toNat == frameTag f

/-- The initiator of a request as this hub logs it (R61). A request that this hub sent on as a bridge is one of a remote hub,
which appears as this ring and node (R241). -/
def State.frameInit (s : State) (f : RingFrame) : Initiator :=
  if f.srcNode = s.node ∧ f.srcRing = s.ringNo ∧ !s.isBridged f then
    match (frameWho f).toNat with
    | 0 => .host | 1 => .mgmt | 2 => .usb | 4 => .core 0 | 5 => .core 1 | 6 => .core 2 | 7 => .core 3 | 8 => .ephem
    | 12 => .boot
    | _ => .remote f.srcRing f.srcNode
  else .remote f.srcRing f.srcNode

/-- The local core that makes a request, if one does (R346). -/
def State.frameCore (s : State) (f : RingFrame) : Option (Fin 4) :=
  match s.frameInit f with
  | .core n => some n
  | _ => none

/-- A request meets a bus error at a target port: it is logged, and answered with its KIND (R39, R343, R348). -/
def State.refuseRequest (s : State) (f : RingFrame) (kind : Nat) : State :=
  (s.busError (s.frameInit f) (frameAddr f) (f.typ != 3) kind).respond f 1 kind []

/-- RETRY (R247). -/
def State.answerRetry (s : State) (f : RingFrame) : State := (s.respond f 2 0 []).inc Addr.bridgeRetrySentCount

/-- The fetch in slot `k`, and setting it. -/
def State.fetch (s : State) (k : Nat) : Option Fetch := Store.get none s.bridge.fetches k
def State.setFetch (s : State) (k : Nat) (x : Option Fetch) : State :=
  { s with bridge := { s.bridge with fetches := Store.put none s.bridge.fetches k x } }

/-- The key of a read (R248). -/
def fetchKey (f : RingFrame) : FetchKey :=
  ⟨f.srcRing, f.srcNode, frameWho f, BitVec.ofNat 8 (frameTag f), frameAddr f, frameCount f⟩

/-- The slot that holds a key, and the lowest free slot. -/
def State.slotOf (s : State) (k : FetchKey) : Option Nat :=
  (List.range 32).find? fun j => match s.fetch j with | some x => x.key == k | none => false
def State.freeSlot (s : State) : Option Nat := (List.range 32).find? fun j => (s.fetch j).isNone

/-- A fetch ends: its read is answered if it still waits, and the outcome waits HOLD otherwise (R247, R248). -/
def State.fetchDone (s : State) (k : Nat) (data : Option (List Word)) : State :=
  match s.fetch k with
  | none => s
  | some x =>
    if x.state != .running then s
    else if x.answered then
      s.setFetch k (some { x with state := match data with | some d => .ready d | none => .failed })
    else
      match data with
      | some d => (s.setFetch k none).respond x.frame 0 0 d
      | none => (s.setFetch k none).respond x.frame 1 0 []

/-- The queue takes no request of the bridge (R331, R333). -/
def State.edgeRefuses (s : State) (q : Nat) : Bool := !s.qOpen q || s.qProducer q != 0x0280

/-- The edge port gives the requests in its buffer to their queues, oldest first, as far as there is room (R350, R351);
a queue that takes nothing refuses the word, and a read so lost fails its fetch. `n` bounds their number. -/
def State.edgeDrain (s : State) : Nat → State
  | 0 => s
  | n + 1 =>
    match s.bridge.edge with
    | [] => s
    | x :: r =>
      let t := { s with bridge := { s.bridge with edge := r } }
      if s.edgeRefuses x.queue then
        let t := (t.qOffer x.queue 0x0280 (x.words.headD 0) .data).2
        State.edgeDrain (match x.slot with | some k => t.fetchDone k none | none => t) n
      else if s.qRoom x.queue 0x0280 x.words.length then State.edgeDrain (t.qOfferPacket x.queue 0x0280 x.words).2 n
      else s

/-- Requests held by the edge port at most: 64 writes and 32 reads. -/
def edgeBound : Nat := 96

/-- A request enters the buffer of the edge port; one that finds its queue full marks FULL there (R341). -/
def State.edgePut (s : State) (x : EdgeRequest) : State :=
  let full := !s.edgeRefuses x.queue && !s.qRoom x.queue 0x0280 x.words.length
  let s := { s with bridge := { s.bridge with edge := s.bridge.edge ++ [x] } }
  (s.when full fun s => s.event (Addr.qEvents x.queue) 1).edgeDrain edgeBound

/-- Writes in the buffer of the edge port. -/
def State.edgeWrites (s : State) : Nat := (s.bridge.edge.filter fun x => x.slot.isNone).length

/-- A request is accepted by the edge port, and a write so complete (R245). -/
def State.edgeTake (s : State) (x : EdgeRequest) : State :=
  (s.when x.ack fun s => s.respond x.frame 0 0 []).edgePut x

/-- A request for the edge port: a write that finds no room in its buffer waits, and so does what comes behind it (R64,
R245). -/
def State.edgeOffer (s : State) (x : EdgeRequest) : State :=
  if s.bridge.blocked.isEmpty && (x.slot.isSome || decide (s.edgeWrites < 64)) then s.edgeTake x
  else { s with bridge := { s.bridge with blocked := s.bridge.blocked ++ [x] } }

/-- The reads at the front of those that wait for the edge port go on; `n` bounds their number. -/
def State.edgeReads (s : State) : Nat → State
  | 0 => s
  | n + 1 =>
    match s.bridge.blocked with
    | [] => s
    | x :: r =>
      if x.slot.isSome then
        State.edgeReads ({ s with bridge := { s.bridge with blocked := r } }.edgeTake x) n
      else s

/-- A read of space 1 to 3 that its target port may serve (R247, R248); `start` presents it to the port. -/
def State.fetchRead (s : State) (f : RingFrame) (start : State → Nat → State) : State :=
  match s.slotOf (fetchKey f) with
  | some k =>
    match s.fetch k with
    | none => s
    | some x =>
      match x.state with
      | .running => s.answerRetry f
      | .ready d => (s.setFetch k none).respond f 0 0 d
      | .failed => (s.setFetch k none).respond f 1 0 []
  | none =>
    match s.freeSlot with
    | none => s.answerRetry f
    | some k => start (s.setFetch k (some ⟨fetchKey f, .running, f, false⟩)) k

/-- Words 0 and 1 of a request packet for `n` words of the frame, from its word `first` (R350). -/
def edgeHead (f : RingFrame) (e id slot first n : Nat) : List Word :=
  [word (ofBool (f.typ != 3) * 2 ^ 31 + (n - 1) % 64 * 2 ^ 24 + (faOffset (frameAddr f) / 4 + first) % 64 * 2 ^ 16 + slot),
   word (e * 2 ^ 20 + id)]

/-- R65: an older write to a word, after a newer one of its initiator, is superseded. -/
def superseded (last iseq : Half) : Bool := let d := (last - iseq).toNat; decide (0 < d) && decide (d < 32768)

/-- The entry is of the source, initiator and word of the frame's word `k`. -/
def Newest.isOf (e : Newest) (f : RingFrame) (k : Nat) : Bool :=
  e.ring == f.srcRing && e.node == f.srcNode && e.who == frameWho f && e.addr == frameAddr f + BitVec.ofNat 48 (4 * k)

/-- The newest issue sequence seen of a source, initiator and word, the word being word `k` of the frame; it counts for
2 × TXN_TIMEOUT, after which a comparison modulo 2^16 says nothing (DESIGN CHOICE, log entry 131). -/
def State.newestOf (s : State) (f : RingFrame) (k : Nat := 0) : Option Half :=
  (s.bridge.newest.find? fun e => e.isOf f k && !s.elapsed e.since (2 * cyclesUs s.txnTimeout)).map (·.iseq)

/-- The frame's write to its word `k` is superseded (R65). -/
def State.oldWord (s : State) (f : RingFrame) (k : Nat) : Bool :=
  match s.newestOf f k with
  | some q => superseded q (frameIseq f)
  | none => false

/-- Note the write of the frame's word `k` as the newest of its source, initiator and word. -/
def State.noteNewest (s : State) (f : RingFrame) (k : Nat) : State :=
  let x : Newest := ⟨f.srcRing, f.srcNode, frameWho f, frameAddr f + BitVec.ofNat 48 (4 * k), frameIseq f, s.now⟩
  { s with bridge := { s.bridge with newest := x :: s.bridge.newest.filter fun e => !e.isOf f k } }

/-- The words that a write gives, with their numbers, but for those that newer writes have superseded (R65). -/
def State.freshWords (s : State) (f : RingFrame) : List (Nat × Word) :=
  ((List.range (frameCount f)).zip f.payload).filter fun p => !s.oldWord f p.1

/-- The runs of words with consecutive numbers. -/
def runsOf : List (Nat × Word) → List (List (Nat × Word))
  | [] => []
  | p :: r =>
    match runsOf r with
    | (q :: l) :: t => if q.1 = p.1 + 1 then (p :: q :: l) :: t else [p] :: (q :: l) :: t
    | t => [p] :: t

/-- R250: a read of this hub's own at the front of the edge port, whose initiator waits for a ring access, yields the port
to an inbound access: it is answered RETRY, to be issued again after RETRY_GAP. -/
def State.edgeYield (s : State) (f : RingFrame) : State :=
  let isLocal (f : RingFrame) : Bool := f.srcNode == s.node && f.srcRing == s.ringNo && !s.isBridged f
  match s.bridge.edge with
  | x :: r =>
    match x.slot with
    | some k =>
      if isLocal x.frame && !isLocal f
          && (s.liveTxns.any fun e => e.2.who == s.frameInit x.frame && !s.isOwn e.2.addr) then
        let t := { s with bridge := { s.bridge with edge := r } }
        (((t.setFetch k none).answerRetry x.frame).inc Addr.bridgeYieldCount).event Addr.bridgeEvents 5
      else s
    | none => s
  | [] => s

/-- A request to space 1 (R348 to R350); a write gives each run of words that no newer write has superseded (R65). -/
def State.edgeRequest (s : State) (f : RingFrame) : State :=
  let off := faOffset (frameAddr f)
  let n := frameCount f
  let id := off / 256 % 2 ^ 18
  match (if off % 4 = 0 then s.endpointKind off n (f.typ != 3) else .inr 3) with
  | .inr k => s.refuseRequest f k
  | .inl e =>
    let q := s.field (Addr.epEntry e 1) 0 6
    let s := s.edgeYield f
    if f.typ = 3 then
      s.fetchRead f fun s k => s.edgeOffer ⟨q, edgeHead f e id k 0 n, some k, f, false⟩
    else
      let runs := runsOf (s.freshWords f)
      s.each ((List.range runs.length).zip runs) fun s p =>
        s.edgeOffer ⟨q, edgeHead f e id 0 ((p.2.headD (0, 0)).1) p.2.length ++ p.2.map (·.2), none, f,
          decide (p.1 + 1 = runs.length)⟩

/-- Words are written at memory address `a` upwards. -/
def State.putWords (s : State) (a : Nat) (l : List (Nat × Word)) : State :=
  s.each l fun s p => { s with mem := Memory.setWord s.mem (a + 4 * p.1) p.2 }

/-- Words are written into the service RAM from space-3 offset `off` upwards (R310). -/
def State.ramPut (s : State) (off : Nat) (l : List (Nat × Word)) : State :=
  s.each l fun s p => s.coreRamWrite ((off + 4 * p.1) / 0x8_0000) ((off + 4 * p.1) % 0x8_0000) p.2

/-- Words are read from the service RAM; `none` when one has an uncorrectable error (R309). -/
def State.ramGet (s : State) (off : Nat) : Nat → Option (List Word) × State
  | 0 => (some [], s)
  | n + 1 =>
    let r := s.coreRamRead (off / 0x8_0000) (off % 0x8_0000)
    let p := State.ramGet r.2.2 (off + 4) n
    (if r.2.1 then none else p.1.map (r.1 :: ·), p.2)

/-- Words are read from DRAM. -/
def State.dramGet (s : State) (off n : Nat) : List Word :=
  (List.range n).map fun k => Memory.word s.mem (dramBase + off + 4 * k)

/-- A buffered write reaches its memory. -/
def State.memPut (s : State) (w : MemWrite) : State :=
  if w.port = 5 then s.putWords (dramBase + w.off) w.words else s.ramPut w.off w.words

/-- Every buffered write of the ports that `p` admits reaches its memory. -/
def State.memDrain (s : State) (p : Nat → Bool) : State :=
  ({ s with bridge := { s.bridge with mem := s.bridge.mem.filter fun (w : MemWrite) => !p w.port } }).each
    (s.bridge.mem.filter fun (w : MemWrite) => p w.port) State.memPut

/-- The oldest buffered write of each port reaches its memory. -/
def State.memTick (s : State) : State :=
  s.each [1, 2, 3, 4, 5] fun s p =>
    match s.bridge.mem.find? fun w => w.port == p with
    | none => s
    | some w => ({ s with bridge := { s.bridge with mem := s.bridge.mem.erase w } }).memPut w

/-- A write is accepted into the buffer of its port, and so complete (R245). One of this hub's own reaches its memory at
once, as its initiator may go on to the same word by another way (R64). -/
def State.memAccept (s : State) (w : MemWrite) : State :=
  let t := { s with bridge := { s.bridge with mem := s.bridge.mem ++ [w] } }.respond w.frame 0 0 []
  match s.frameInit w.frame with
  | .remote _ _ => t
  | _ => t.memDrain (· == w.port)

/-- A write for a memory port: with 64 in its buffer it waits, and so does what comes behind it (R245). -/
def State.memOffer (s : State) (w : MemWrite) : State :=
  let waits := s.bridge.memBlocked.any fun x => x.port == w.port
  if !waits && decide ((s.bridge.mem.filter fun x => x.port == w.port).length < 64) then s.memAccept w
  else { s with bridge := { s.bridge with memBlocked := s.bridge.memBlocked ++ [w] } }

/-- The port of a write to space 2 or 3. -/
def memPort (space off : Nat) : Nat := if space = 2 then 5 else off / 0x8_0000 + 1

/-- A request to space 2 or 3: a write is complete as its port accepts it, a read starts a fetch (R245, R247). -/
def State.memRequest (s : State) (f : RingFrame) (space : Nat) : State :=
  let off := faOffset (frameAddr f)
  let n := frameCount f
  if off % 4 ≠ 0 then s.refuseRequest f 3
  else
    match (if space = 2 then s.dramKind (s.frameCore f) off n else s.ramKind off n) with
    | some k => s.refuseRequest f k
    | none =>
      if f.typ = 3 then s.fetchRead f fun s _ => s
      else s.memOffer ⟨memPort space off, off, s.freshWords f, f⟩

/-- A request to space 0 is a register access, answered as it ends (R247, R12); of more than one word it is too wide (R38).
Buffered writes reach the service RAM first, whose words it may name too (R64). -/
def State.regRequest (s : State) (f : RingFrame) : State :=
  let s := s.memDrain (· != 5)
  let p := s.accessAs (.request f) (s.frameInit f) (frameAddr f) (faOffset (frameAddr f)) (4 * frameCount f) (f.typ != 3)
    (f.payload.headD 0) s.bridge.order
  p.2.requestEnd f p.1

/-- A transaction request reaches this hub (R243, R245, R247). A write whose every word is superseded is acknowledged as
complete (R65). -/
def State.request (s : State) (f : RingFrame) : State :=
  let ks := List.range (frameCount f)
  if f.typ != 3 && ks.all (s.oldWord f) then s.respond f 0 0 []
  else
    let s := if f.typ = 3 then s else s.each ks fun s k => if s.oldWord f k then s else s.noteNewest f k
    match faSpace (frameAddr f) with
    | 0 => s.regRequest f
    | 1 => s.edgeRequest f
    | 2 => s.memRequest f 2
    | 3 => s.memRequest f 3
    | _ => s.refuseRequest f 4

/-- A frame of the pair unit: a heartbeat (R359) or a mirror record (R361), from the partner. -/
def State.isHeartbeat (s : State) (f : RingFrame) : Bool :=
  f.cls == .t && f.typ == 1 && faSpace (frameAddr f) == 0 && faOffset (frameAddr f) == 0x0090_0800
    && f.payload.length == 3 && f.srcNode.toNat == s.partner && f.srcRing == s.ringNo && f.dstNode != 254
def State.isM2 (s : State) (f : RingFrame) : Bool :=
  f.cls == .c && f.typ == 1 && faSpace (frameAddr f) == 0 && faOffset (frameAddr f) == 0x0090_1000
    && f.payload.length == 4 && f.srcNode.toNat == s.partner && f.srcRing == s.ringNo

/-- A transaction request that is no beacon and no frame of the pair unit. -/
def State.isRequest (s : State) (f : RingFrame) : Bool :=
  decide (1 ≤ f.typ.toNat ∧ f.typ.toNat ≤ 3) && !isTimeBeacon f && !isAngleBeacon f && !s.isHeartbeat f && !s.isM2 f

/-- R247, R250: the oldest request: an inbound one before one of this hub's own. -/
def execRingRequestReceive (s : State) : Host.Outcome State Fault Refusal :=
  if !s.start.logicUp then .next s else
  match s.takeInbox s.isRequest with
  | some (x, t) => .next (t.request x.frame)
  | none =>
    match s.bridge.loop.find? fun f => f.typ != 4 with
    | some f => .next ({ s with bridge := { s.bridge with loop := s.bridge.loop.erase f } }.request f)
    | none => .next s

/-- R247: data not ready within 1 µs; the fetch goes on. -/
def execBridgeFetchRetry (slot : Fin 32) (s : State) : Host.Outcome State Fault Refusal :=
  if !s.start.logicUp then .next s else
  match s.fetch slot.val with
  | some x =>
    if x.state == .running && !x.answered then
      .next ((s.setFetch slot.val (some { x with answered := true })).answerRetry x.frame)
    else .next s
  | none => .next s

/-- A write of the read's initiator to one of its words still waits for room in its port (R64). -/
def State.memWaits (s : State) (f : RingFrame) : Bool :=
  s.bridge.memBlocked.any fun w =>
    w.frame.srcRing == f.srcRing && w.frame.srcNode == f.srcNode && frameWho w.frame == frameWho f
      && sharesWord (frameAddr w.frame) (frameCount w.frame) (frameAddr f) (frameCount f)

/-- R248: a fetch ends at its target port. Space 2 and 3 give their data, buffered writes before it, unless it is in error (R309, R345); data of
space 1 comes with its reply (R351). -/
def execBridgeFetchComplete (slot : Fin 32) (ok : Bool) (s : State) : Host.Outcome State Fault Refusal :=
  if !s.start.logicUp then .next s else
  match s.fetch slot.val with
  | none => .next s
  | some x =>
    let off := faOffset x.key.addr
    if x.state != .running then .next s
    else
      match faSpace x.key.addr with
      | 2 =>
        let s := s.memDrain (· == 5)
        if s.memWaits x.frame then .next s
        else if ok then .next (s.fetchDone slot.val (some (s.dramGet off x.key.count)))
        else .next ((s.dramError off 2).fetchDone slot.val none)
      | 3 =>
        let s := s.memDrain (· == memPort 3 off)
        if s.memWaits x.frame then .next s
        else
        let p := s.ramGet off x.key.count
        .next (p.2.fetchDone slot.val (if ok then p.1 else none))
      | _ => if ok then .next s else .next (s.fetchDone slot.val none)

/-- R248: fetched data has waited HOLD; it is discarded, as is a failure. -/
def execBridgeHoldExpiry (slot : Fin 32) (s : State) : Host.Outcome State Fault Refusal :=
  if !s.start.logicUp then .next s else
  match s.fetch slot.val with
  | none => .next s
  | some x =>
    match x.state with
    | .running => .next s
    | .failed => .next (s.setFetch slot.val none)
    | .ready _ => .next (((s.setFetch slot.val none).inc Addr.bridgeHoldExpiredCount).event Addr.bridgeEvents 3)

/-- The write that waits longest for the edge port is accepted if there is room, and the reads behind it go on. -/
def State.edgeRoom (s : State) : State :=
  let s := (s.edgeDrain edgeBound).edgeReads edgeBound
  match s.bridge.blocked with
  | [] => s
  | x :: r =>
    if s.edgeWrites < 64 then
      ({ s with bridge := { s.bridge with blocked := r } }.edgeTake x).edgeReads edgeBound
    else s

/-- The write that waits longest for memory port `p` is accepted if there is room. -/
def State.memRoom (s : State) (p : Nat) : State :=
  match s.bridge.memBlocked.find? fun w => w.port == p with
  | none => s
  | some w =>
    if (s.bridge.mem.filter fun x => x.port == p).length < 64 then
      ({ s with bridge := { s.bridge with memBlocked := s.bridge.memBlocked.erase w } }).memAccept w
    else s

/-- R245: the write buffer of a port has room for the write that waits longest: 0 the edge port, 1 to 4 those of service
RAM, 5 that of DRAM. -/
def execBridgeWriteBufferAccept (port : Fin 6) (s : State) : Host.Outcome State Fault Refusal :=
  if !s.start.logicUp then .next s else
  if port = 0 then .next s.edgeRoom else .next (s.memRoom port.val)

/-- The REPLY queue (R342). -/
def State.replyQueue (s : State) : Nat := s.field Addr.queueEpCtrl 0 6

/-- `ws` filled up to `n` words with free values (log entry 67). -/
def State.fillFree (s : State) (ws : List Word) (n : Nat) : List Word × State :=
  ((ws ++ (List.range (n - ws.length)).map fun k => Config.freeWord (s.free + k)).take n,
    { s with free := s.free + (n - ws.length) })

/-- A reply packet (R350, R351). -/
def State.replyIn (s : State) (ws : List Word) : State :=
  let w := ws.headD 0
  let k := bits w 0 5
  match s.fetch k with
  | some x =>
    if x.state == .running && faSpace x.key.addr == 1 then
      if bits w 28 4 = 0 then
        let p := s.fillFree ws.tail x.key.count
        p.2.fetchDone k (some p.1)
      else s.fetchDone k none
    else s.inc Addr.bridgeLateDiscardCount
  | none => s.inc Addr.bridgeLateDiscardCount

/-- Take the words of the REPLY queue up to and including a mark; an aborted packet is discarded (R332). -/
def State.replyTake (s : State) : Nat → State
  | 0 => s
  | n + 1 =>
    match s.qTakeAs s.replyQueue 0x0280 with
    | none => s
    | some (w, s) =>
      let ws := s.bridge.reply ++ [w.v]
      match w.mark with
      | .data => State.replyTake { s with bridge := { s.bridge with reply := ws } } n
      | .last => { s with bridge := { s.bridge with reply := [] } }.replyIn ws
      | .abort => { s with bridge := { s.bridge with reply := [] } }

/-- R351: the bridge takes one reply packet. -/
def execEndpointReply (s : State) : Host.Outcome State Fault Refusal :=
  if !s.start.logicUp then .next s else
  .next (s.replyTake ((s.queue s.replyQueue).words.length))

/-- R351: no reply within FETCH_LIMIT; a request that still waits in the edge port goes with it. -/
def execEndpointFetchLimitExpiry (slot : Fin 32) (s : State) : Host.Outcome State Fault Refusal :=
  if !s.start.logicUp then .next s else
  match s.fetch slot.val with
  | none => .next s
  | some x =>
    if x.state == .running && faSpace x.key.addr == 1 then
      .next ({ s with bridge := { s.bridge with
        edge := s.bridge.edge.filter fun e => e.slot != some slot.val
        blocked := s.bridge.blocked.filter fun e => e.slot != some slot.val } }.fetchDone slot.val none)
    else .next s

/-- T0 of a transaction frame with another TAG. -/
def withTag (f : RingFrame) (tag : Nat) : RingFrame :=
  { f with hdr := setAt f.hdr 0 (setBits (f.hdr.getD 0 0) 24 8 tag) }

/-- Where a bridging hub sends a frame in its ring: to the node that the frame names there, or to the route of a third ring
(R240, R241). -/
def State.bridgeNode (s : State) (f : RingFrame) (node : Nat) : Nat :=
  if f.dstRing = s.ringNo then node else s.field (Addr.ringRoute f.dstRing.toNat) 0 8

/-- A frame that a bridging hub sends into its ring, as its own (R240, R241); one for a ring with no route is dropped, for
DST_NODE 255 is never sent (R215, log entry 132). -/
def State.bridgeSend (s : State) (f : RingFrame) (node : Nat) : State :=
  let d := s.bridgeNode f node
  let g := s.newFrame f.cls f.typ.toNat d f.dstRing.toNat f.hdr f.payload
  if d = 255 then s
  else if f.dstRing = s.ringNo ∧ d = s.node.toNat then
    { s with bridge := { s.bridge with loop := s.bridge.loop ++ [g] } }
  else s.originate { g with pad := f.pad }

/-- A request that came over PAIR takes a record and a TAG, or waits (R241). -/
def State.bridgeRequest (s : State) (f : RingFrame) : State :=
  if s.bridgeNode f (faNode (frameAddr f)) = 255 then s
  else
    match s.freeTag with
    | none => { s with bridge := { s.bridge with pairWait := s.bridge.pairWait ++ [f] } }
    | some tag =>
      let r : BridgeRecord := ⟨BitVec.ofNat 8 tag, f.srcRing, f.srcNode, frameWho f, BitVec.ofNat 8 (frameTag f), s.now⟩
      let s := { s with bridge := { s.bridge with records := s.bridge.records ++ [r] } }
      s.bridgeSend (withTag f tag) (faNode (frameAddr f))

/-- Requests that wait in the PAIR receive path are tried again, oldest first. -/
def State.pairRetry (s : State) : State :=
  let l := s.bridge.pairWait
  ({ s with bridge := { s.bridge with pairWait := [] } }).each l fun s f => s.bridgeRequest f

/-- A TAG is free or a transaction is over: the requests that wait for it start, this hub's own and then those of the PAIR
receive path, and held accesses are tried again (R241, R244, R246). -/
def State.txnOver (s : State) : State := (s.retryWaiting.pairRetry).releaseReads

/-- A read answered RETRY waits for RETRY_GAP, or ends as RETRY_MAX is reached (R249). -/
def State.txnRetry (s : State) (tag : Nat) (t : Txn) : State :=
  let m := s.field Addr.bridgeRetry 8 8
  if m ≠ 0 ∧ m ≤ t.reissues then (s.failTxn tag t 5 0).txnOver
  else s.setTxn tag (some { t with waiting := false })

/-- Bound of level 4 in CORE cycles (R254, R255). -/
def State.deadline (s : State) (who : Initiator) : Nat :=
  let a := if who = .host then Addr.bridgeHostLimit else Addr.bridgeDeadline
  cyclesUs (max (clamp 100 40000 (s.field a 0 16)) (s.txnTimeout + 10))

/-- The deadline of the transaction has passed (R254, R255); a posted write has none. -/
def State.pastDeadline (s : State) (t : Txn) : Bool := t.kind != .posted && s.elapsed t.first (s.deadline t.who)

/-- The response timer or the deadline of the transaction has expired: it decides (R252). -/
def State.txnExpired (s : State) (t : Txn) : Bool := s.elapsed t.last (cyclesUs s.txnTimeout) || s.pastDeadline t

/-- A response for a live TAG that waits for one and whose time has not expired (R243, R249, R252, R253); any other is a
late one (R244). -/
def State.response (s : State) (f : RingFrame) : State :=
  let tag := frameTag f
  let late := (s.inc Addr.bridgeLateDiscardCount).event Addr.bridgeEvents 4
  match s.txn tag with
  | none => late
  | some t =>
    if !t.waiting || s.txnExpired t then late
    else if frameStatus f = 0 then
      (s.completeTxn tag t (if t.kind == .read then f.payload.take t.count else [])).txnOver
    else if frameStatus f = 2 ∧ t.kind = .read then s.txnRetry tag t
    else (s.failTxn tag t 1 (if frameStatus f = 1 then bits (f.hdr.getD 2 0) 28 4 else 0)).txnOver

/-- A response whose TAG is that of a record is mapped back and returned across PAIR (R241). -/
def State.mapBack (s : State) (f : RingFrame) (r : BridgeRecord) : State :=
  let s := { s with bridge := { s.bridge with records := s.bridge.records.filter fun x => x.tag != r.tag } }
  (s.pairSend { withTag f r.origTag.toNat with dstNode := r.srcNode, dstRing := r.srcRing }).txnOver

/-- A response has reached this hub. -/
def State.responseIn (s : State) (f : RingFrame) : State :=
  match s.bridge.records.find? fun r => r.tag.toNat == frameTag f with
  | some r => s.mapBack f r
  | none => s.response f

/-- R244: a response, from the ring or to a request of this hub to itself. -/
def execRingResponseReceive (s : State) : Host.Outcome State Fault Refusal :=
  if !s.start.logicUp then .next s else
  match s.takeInbox fun f => f.typ == 4 with
  | some (x, t) => .next (t.responseIn x.frame)
  | none =>
    match s.bridge.loop.find? fun f => f.typ == 4 with
    | some f => .next ({ s with bridge := { s.bridge with loop := s.bridge.loop.erase f } }.responseIn f)
    | none => .next s

/-- R229: SOF and H0 to H2 of a frame have arrived on `port`, while `used` bytes of the other port's transit buffer are in
use; `residence` is the frame's residence time in 2^-16 ns. A frame whose LSEQ is not the one expected goes no further: its
end, LINK_FRAME_RECEIVE, answers it (R203). A copy that came back may end a transaction (R236). -/
def execRingFrameArrive (port : RingPort) (x : LinkFrame) (used residence : Nat) (s : State) :
    Host.Outcome State Fault Refusal :=
  if !s.start.logicUp then .next s else
  if !(s.active (ringLink port) && (s.link (ringLink port)).takes x.rp x.lseq) then .next s
  else
    let f := x.frame
    let own := f.srcRing = s.ringNo ∧ f.srcNode = s.node
    let t := s.frameArrive port f used residence
    .next (if own then t.txnOver else t)

/-- R241: a transaction frame over PAIR at a bridging hub; a bad one is dropped as it was received (R193), and so is one whose
LSEQ is not the one expected (R203). -/
def execBridgePairFrameReceive (x : LinkFrame) (s : State) : Host.Outcome State Fault Refusal :=
  if !s.start.logicUp then .next s else
  let f := x.frame
  if !(s.bridges && s.active .pair && (s.link .pair).takes x.rp x.lseq && isTxnFrame f && frameGood f) || f.dstNode = 254 then
    .next s
  else if malformed f then .next (s.inc Addr.ringHdrErrCount)
  else if f.typ = 4 then .next (s.bridgeSend f f.dstNode.toNat)
  else .next (s.bridgeRequest f)

/-- R241: the oldest record has stood for 2 × TXN_TIMEOUT. -/
def execBridgeRecordExpiry (s : State) : Host.Outcome State Fault Refusal :=
  if !s.start.logicUp then .next s else
  .next { s with bridge := { s.bridge with records := s.bridge.records.drop 1 } }.txnOver

/-- R249: RETRY_GAP has passed: the read is issued again with the same TAG. -/
def execBridgeRetryGapExpiry (tag : Byte) (s : State) : Host.Outcome State Fault Refusal :=
  if !s.start.logicUp then .next s else
  match s.txn tag.toNat with
  | none => .next s
  | some t =>
    if t.waiting then .next s
    else .next ((s.inc Addr.bridgeReissueCount).sendTxn tag.toNat { t with reissues := t.reissues + 1 })

/-- R252: no response within TXN_TIMEOUT: cause 2, or 4 when the deadline ends in the same cycle. -/
def execTxnResponseTimeout (tag : Byte) (s : State) : Host.Outcome State Fault Refusal :=
  if !s.start.logicUp then .next s else
  match s.txn tag.toNat with
  | none => .next s
  | some t =>
    if !t.waiting then .next s
    else
      let cause := if s.pastDeadline t then 4 else 2
      .next (s.failTxn tag.toNat t cause 0).txnOver

/-- R254, R255: the deadline of a transaction, or the host load limit. -/
def execTxnDeadlineExpiry (tag : Byte) (s : State) : Host.Outcome State Fault Refusal :=
  if !s.start.logicUp then .next s else
  match s.txn tag.toNat with
  | none => .next s
  | some t => if t.kind = .posted then .next s else .next (s.failTxn tag.toNat t 4 0).txnOver

/-- R244: a TAG freed by a timeout may be used again. -/
def execTagQuarantineEnd (tag : Byte) (s : State) : Host.Outcome State Fault Refusal :=
  if !s.start.logicUp then .next s else
  .next { s with bridge := { s.bridge with
    quarantine := s.bridge.quarantine.filter fun e => e.1 != tag.toNat } }.txnOver

end Sys2Proof.Machine
end

