-- ==== Sys2Proof/Machine/Operands.lean ====
section
/-! DEFINITION. The operand forms of the service cores' instructions (R312 to R314, R316, R317, R320): the results of the
ALU group, of the operations on an immediate and of the CRC helpers, conditions, addresses, and parts of a word. -/

namespace Sys2Proof.Machine

/-- simm: a 16-bit immediate, sign-extended (R312). -/
def simm (v : Half) : Word := BitVec.signExtend 32 v
/-- zimm: a 16-bit immediate, zero-extended (R312). -/
def zimm (v : Half) : Word := BitVec.zeroExtend 32 v

/-- Arithmetic right shift. -/
def sraWord (a : Word) (n : Nat) : Word := BitVec.sshiftRight a n

/-- High 32 bits of the signed product (R314). -/
def mulHighS (a b : Word) : Word := BitVec.ofInt 32 (floorDiv (a.toInt * b.toInt) (2 ^ 32))
/-- High 32 bits of the unsigned product (R314). -/
def mulHighU (a b : Word) : Word := word (a.toNat * b.toNat / 2 ^ 32)

/-- Signed 0x8000_0000 ÷ −1 (R314). -/
def divOver (a b : Word) : Bool := a == 0x8000_0000 && b == 0xFFFF_FFFF

/-- Quotients and remainders (R314). -/
def divS (a b : Word) : Word :=
  if b = 0 then 0 else if divOver a b then 0x7FFF_FFFF else BitVec.ofInt 32 (Int.tdiv a.toInt b.toInt)
def divU (a b : Word) : Word := if b = 0 then 0 else word (a.toNat / b.toNat)
def remS (a b : Word) : Word :=
  if b = 0 then a else if divOver a b then 0 else BitVec.ofInt 32 (Int.tmod a.toInt b.toInt)
def remU (a b : Word) : Word := if b = 0 then a else word (a.toNat % b.toNat)

/-- Leading zeros of the low `n` bits of `v`. -/
def leadingZeros : Nat → Nat → Nat
  | 0, _ => 0
  | n + 1, v => if v.testBit n then 0 else 1 + leadingZeros n v

/-- The number of 1 bits of the low `n` bits of `v`. -/
def popCount (n v : Nat) : Nat := (onesOf n v).length

/-- The word with its byte order reversed. -/
def byteSwap (a : Word) : Word := word (beNat (leBytes 4 a.toNat))

/-- The result of an operation of the ALU group on ra and rb; `k` is the rb field itself, which the immediate shifts
use (R314). -/
def aluResult (op : AluOp) (a b : Word) (k : Nat) : Word :=
  match op with
  | .add => a + b
  | .sub => a - b
  | .and => a &&& b
  | .or => a ||| b
  | .xor => a ^^^ b
  | .sll => a <<< (b.toNat % 32)
  | .srl => a >>> (b.toNat % 32)
  | .sra => sraWord a (b.toNat % 32)
  | .clt => word (ofBool (decide (a.toInt < b.toInt)))
  | .cltu => word (ofBool (decide (a.toNat < b.toNat)))
  | .mul => a * b
  | .mulhs => mulHighS a b
  | .mulhu => mulHighU a b
  | .div => divS a b
  | .divu => divU a b
  | .rem => remS a b
  | .remu => remU a b
  | .clz => word (leadingZeros 32 a.toNat)
  | .popc => word (popCount 32 a.toNat)
  | .bswap => byteSwap a
  | .slli => a <<< k
  | .srli => a >>> k
  | .srai => sraWord a k

/-- The result of an operation on an immediate (R313). -/
def immResult (op : ImmOp) (a : Word) (v : Half) : Word :=
  match op with
  | .addi => a + simm v
  | .andi => a &&& zimm v
  | .ori => a ||| zimm v
  | .xori => a ^^^ zimm v
  | .clti => word (ofBool (decide (a.toInt < (simm v).toInt)))
  | .cltiu => word (ofBool (decide (a.toNat < (simm v).toNat)))

/-- The condition of a branch on ra and rb (R313). -/
def condHolds (c : Cond) (a b : Word) : Bool :=
  match c with
  | .eq => decide (a = b)
  | .ne => decide (a ≠ b)
  | .lt => decide (a.toInt < b.toInt)
  | .ge => decide (b.toInt ≤ a.toInt)
  | .ltu => decide (a.toNat < b.toNat)
  | .geu => decide (b.toNat ≤ a.toNat)

/-- Target of a branch at `pc` (R313). -/
def branchTarget (pc : Word) (off : Half) : Word := pc + simm off * 4
/-- Target of JMP and CALL at `pc`. -/
def jumpTarget (pc : Word) (off : BitVec 26) : Word := pc + BitVec.signExtend 32 off * 4
/-- Target of JR and CALLR. -/
def regTarget (a : Word) (v : Half) : Word := (a + simm v) &&& 0xFFFF_FFFC

/-- Bytes of a load, and of a store. -/
def loadSize : LoadOp → Nat
  | .word => 4 | .half | .halfU => 2 | .byte | .byteU => 1
def storeSize : StoreOp → Nat
  | .word => 4 | .half => 2 | .byte => 1

/-- The value that a load takes from the word that holds its address (R313). -/
def loadPart (op : LoadOp) (w : Word) (a : Nat) : Word :=
  match op with
  | .word => w
  | .half => BitVec.signExtend 32 (BitVec.ofNat 16 (w.toNat >>> (8 * (a % 4))))
  | .halfU => BitVec.zeroExtend 32 (BitVec.ofNat 16 (w.toNat >>> (8 * (a % 4))))
  | .byte => BitVec.signExtend 32 (BitVec.ofNat 8 (w.toNat >>> (8 * (a % 4))))
  | .byteU => BitVec.zeroExtend 32 (BitVec.ofNat 8 (w.toNat >>> (8 * (a % 4))))

/-- The word that a store leaves where `w` stood (R313). -/
def storePart (op : StoreOp) (w : Word) (a : Nat) (v : Word) : Word :=
  match op with
  | .word => v
  | .half => setBits w (8 * (a % 4)) 16 v.toNat
  | .byte => setBits w (8 * (a % 4)) 8 v.toNat

/-- One bit step of the CRC-16 with a reflected polynomial. -/
def crc16Bit (p c : Nat) : Nat := if c % 2 = 1 then (c / 2) ^^^ p else c / 2

/-- `n` bit steps. -/
def crc16Bits (p : Nat) : Nat → Nat → Nat
  | 0, c => c
  | n + 1, c => crc16Bits p n (crc16Bit p c)

/-- The result of a CRC helper on the running value and rb; `poly` is CRC16POLY (R320). -/
def crcResult (op : CrcOp) (a b : Word) (poly : Nat) : Word :=
  let run (n : Nat) : Word := word ((leBytes n b.toNat).foldl crc32cByte a.toNat)
  match op with
  | .c32b => run 1
  | .c32h => run 2
  | .c32w => run 4
  | .c16b => word (crc16Bits poly 8 (bits a 0 16 ^^^ bits b 0 8))

/-- The queue that a queue operand names (R312). -/
def State.queueOf (s : State) (n : Nat) (q : QSel) : Nat := if q.byReg then bits (s.greg n q.rq) 0 6 else q.q.toNat

/-- The register after `r` (R316). -/
def nextReg (r : Reg) : Reg := r + 1

/-- The fabric address in a register pair (R316). -/
def State.pairAddr (s : State) (n : Nat) (r : Reg) : FabricAddr :=
  BitVec.ofNat 48 ((s.greg n r).toNat + bits (s.greg n (nextReg r)) 0 16 * 2 ^ 32)

end Sys2Proof.Machine
end

