-- ==== Sys2Proof/Machine/Flags.lean ====
section
/-! DEFINITION. The flags of a service core: CTX.DZ and CTX.OV, which a division sets and only a PUTS clears (R314, R322). -/

namespace Sys2Proof.Machine

/-- The operation divides. -/
def aluDivides : AluOp → Bool
  | .div | .divu | .rem | .remu => true
  | _ => false

/-- The operation sets DZ: a division by zero. -/
def setsDz (op : AluOp) (b : Word) : Bool := aluDivides op && b == 0

/-- The operation sets OV: a signed division of 0x8000_0000 by −1. -/
def setsOv (op : AluOp) (a b : Word) : Bool := (op == .div || op == .rem) && divOver a b

/-- The sticky flags after an operation of the ALU group. -/
def State.aluFlags (s : State) (n : Nat) (op : AluOp) (a b : Word) : State :=
  let s := if setsDz op b then s.setCtxBit n 3 true else s
  if setsOv op a b then s.setCtxBit n 4 true else s

end Sys2Proof.Machine
end

