-- ==== Sys2Proof/Machine/PairExec.lean ====
section
/-! DEFINITION. Charon (chapter 15): posted writes as paired commands, heartbeats and roles, mirror records, handover. -/

namespace Sys2Proof.Machine

/-- The initiator is selected in PAIR_CMD_SEL (R358, R361). -/
def State.pairSelected (s : State) (who : Initiator) : Bool :=
  match who with
  | .ephem => s.flag Addr.pairCmdSel 0
  | .core n => s.flag Addr.pairCmdSel (1 + n.val)
  | _ => false

/-- A posted write to a space of this hub (R60, R123): space 0 is a register access; a failure is reported by R76, also one that comes after the access was held. -/
def State.postOwn (s : State) (who : Initiator) (a : FabricAddr) (v : Word) (entry : Nat) : State :=
  if faSpace a = 0 then
    let p := s.accessAs (.posted a entry) who (localFabric (faOffset a)) (faOffset a) 4 true v s.bridge.order
    p.2.postedEnd who a entry p.1
  else s.issueTxn .posted who a 1 [v] .c entry

/-- Class of a posted write of a core or of the Ephemeris (R123, R316). -/
def postClass (a : FabricAddr) : RingClass := if faNode a = 254 then .t else .c

/-- A posted write of one word by an initiator, at an address the hub does not refuse. In a pair, one by a selected
initiator is discarded in every role but PRIMARY (R358); at a PRIMARY it is a paired command (R361). -/
def State.postWrite (s : State) (who : Initiator) (a : FabricAddr) (v : Word) (entry : Nat) : State :=
  let sel := s.pairSelected who && s.pair.role != .off
  if sel && s.pair.role != .primary then s.inc Addr.pairSuppressCount
  else if s.isOwn a then s.postOwn who a v entry
  else if sel then
    let p := s.nextOrder
    { p.2 with pair := { p.2.pair with
      cmds := p.2.pair.cmds ++ [{ who := who, addr := a, data := v, cls := postClass a, entry := entry, order := p.1 }] } }
  else s.issueTxn .posted who a 1 [v] (postClass a) entry

/-- A paired command leaves for the ring with its alias SEQ and EPOCH (R361). -/
def State.issueCmd (s : State) (c : PairedCmd) (key : Half × Byte) : State :=
  s.startTxn ⟨.own, .posted, c.who, c.addr, 1, [c.data], c.cls, some key, c.entry, c.order⟩

/-- The words of an M2 record (R361). -/
def m2Words (c : PairedCmd) (key : Half × Byte) : List Word :=
  [word (key.1.toNat + key.2.toNat * 2 ^ 16 + (if c.cls = .t then 0 else 2 ^ 24)), word c.addr.toNat,
   word (bits c.addr 32 16), c.data]

/-- Address of a word of the partner's PAIR block. -/
def State.partnerAddr (s : State) (off : Nat) : FabricAddr := fabricAddr s.ringNo.toNat s.partner 0 off

/-- Send words to the partner's PAIR block over the PAIR link; T0 is a free value (log entry 3). -/
def State.pairFrame (s : State) (cls : RingClass) (off : Nat) (ws : List Word) : State :=
  (s.linkSend .pair (s.postedFrame cls s.partner s.ringNo.toNat (Config.freeWord s.free) (s.partnerAddr off) ws)).nextFree

/-- Send an M2 record: over PAIR, or as a posted write over the ring while PAIR is not ACTIVE (R361, R366). -/
def State.sendM2 (s : State) (c : PairedCmd) (key : Half × Byte) : State :=
  if s.active .pair then s.pairFrame .c 0x0090_1000 (m2Words c key)
  else
    let p := s.nextOrder
    p.2.startTxn ⟨.m2, .posted, c.who, s.partnerAddr 0x0090_1000, 4, m2Words c key, .c, none, c.entry, p.1⟩

/-- R361: the oldest paired command takes its alias SEQ. With a STANDBY partner its M2 record is sent, with M0 after it,
and the command waits for acceptance; otherwise it is issued. A handover under way stops this (R368). -/
def execPairedCommandIssue (s : State) : Host.Outcome State Fault Refusal :=
  if !s.start.logicUp then .next s else
  match s.pair.cmds with
  | [] => .next s
  | c :: r =>
    if s.pair.role != .primary || s.pair.handover then .next s
    else
      let s := { s with pair := { s.pair with cmds := r } }
      let k := s.aliasNext (classCode c.cls)
      if s.pair.partnerRole = 3 then
        let s := k.2.sendM2 c k.1
        let s := s.mirrorSend s.aliasRecord
        .next { s with pair := { s.pair with m2 := s.pair.m2 ++ [{ c with since := s.now, key := some k.1 }] } }
      else
        let s := k.2.mirrorSend k.2.aliasRecord
        .next (s.issueCmd c k.1)

/-- PAIR_M2_WAIT_MAX (R361): the longest wait in ns. -/
def State.noteM2Wait (s : State) (since : Nat) : State :=
  let ns := min 0xFFFF ((s.now - since) * 5 / 2)
  s.setReg Addr.pairM2WaitMax (word (max (s.field Addr.pairM2WaitMax 0 16) ns))

/-- R361: the oldest M2 record is accepted, or its acceptance fails; the command is issued either way. A hub that has left
PRIMARY discards it (R358, R372). -/
def execM2RecordAccept (ok : Bool) (s : State) : Host.Outcome State Fault Refusal :=
  if !s.start.logicUp then .next s else
  match s.pair.m2 with
  | [] => .next s
  | c :: r =>
    let s := { s with pair := { s.pair with m2 := r } }
    let s := if ok then s.noteM2Wait c.since else s
    match c.key with
    | some k => if s.pair.role == .primary then .next (s.issueCmd c k) else .next (s.inc Addr.pairSuppressCount)
    | none => .next s

/-- A STANDBY sends the command that an M2 record holds, with the recorded SEQ and EPOCH, and its alias counter moves on
(R362). -/
def State.twin (s : State) (ws : List Word) : State :=
  let w := ws.getD 0 0
  let cls : RingClass := if bit w 24 then .c else .t
  let q : Half := BitVec.ofNat 16 (bits w 0 16)
  let a : FabricAddr := BitVec.ofNat 48 ((ws.getD 1 0).toNat + bits (ws.getD 2 0) 0 16 * 2 ^ 32)
  let s := { s with ring := { s.ring with aliasSeqs := setAt s.ring.aliasSeqs (classCode cls) (q + 1) } }
  let p := s.nextOrder
  p.2.startTxn ⟨.twin, .posted, .remote s.ringNo s.node, a, 1, [ws.getD 3 0], cls,
    some (q, BitVec.ofNat 8 (bits w 16 8)), 0, p.1⟩

/-- R362: an M2 record, over PAIR as given or the oldest that came over the ring, which is acknowledged. -/
def execM2RecordReceive (r : Option (List Word)) (s : State) : Host.Outcome State Fault Refusal :=
  if !s.start.logicUp then .next s else
  let go (s : State) (ws : List Word) : State := if s.pair.role == .standby then s.twin ws else s
  match r with
  | some ws => if s.active .pair && ws.length == 4 then .next (go s ws) else .next s
  | none =>
    match s.takeInbox s.isM2 with
    | none => .next s
    | some (x, s) => .next (go (s.respond x.frame 0 0 []) x.frame.payload)

/-- The words of a heartbeat (R359). -/
def State.heartbeat (s : State) (handover : Bool) (term : Byte) : List Word :=
  [word (roleCode s.pair.role + ofBool s.pairHealthy * 2 ^ 3 + ofBool handover * 2 ^ 4 + term.toNat * 2 ^ 8
      + s.rank * 2 ^ 16 + s.field Addr.ringPair 0 8 * 2 ^ 24), s.pair.hbSeq, s.pair.echo]

/-- Send a heartbeat over both paths (R359), to a partner that is declared. -/
def State.heartbeatSend (s : State) (handover : Bool) (term : Byte) : State :=
  if s.partner = 0xFF then s
  else
  let s := { s with pair := { s.pair with hbSeq := s.pair.hbSeq + 1 } }
  let ws := s.heartbeat handover term
  let s := if s.active .pair then s.pairFrame .t 0x0090_0800 ws else s
  (s.originate (s.postedFrame .t s.partner s.ringNo.toNat (Config.freeWord s.free) (s.partnerAddr 0x0090_0800) ws)).nextFree

/-- A PRIMARY that is not healthy hands over to a healthy STANDBY (R360). -/
def State.healthReview (s : State) : State :=
  if s.pair.role == .primary && !s.pairHealthy && s.pair.partnerHealthy then s.startHandover else s

/-- A takeback is asked for (R370) by a healthy STANDBY with TAKEBACK_EN 1 and the lower RANK. -/
def State.mayAsk (s : State) : Bool :=
  s.pair.role == .standby && s.flag Addr.pairCtrl 1 && decide (s.rank < s.pair.partnerRank.toNat) && s.pairHealthy

/-- One that has asked and no longer may asks no more: TAKEBACK_HOLD runs without a break (R370). -/
def State.askReview (s : State) : State := { s with pair := { s.pair with ask := s.pair.ask && s.mayAsk } }

/-- R359: the heartbeat of every 10 µs; a STANDBY that asks for a takeback sends HANDOVER (R370). -/
def execPairHeartbeatSend (s : State) : Host.Outcome State Fault Refusal :=
  if !s.start.logicUp then .next s else
  if s.pair.role == .off then .next s
  else
    let s := s.askReview.healthReview
    .next (s.heartbeatSend s.pair.ask s.pair.term)

/-- R368: every M2 record is accepted: the heartbeat with HANDOVER and TERM + 1. -/
def execHandoverSend (s : State) : Host.Outcome State Fault Refusal :=
  if !s.start.logicUp then .next s else
  if s.pair.role == .primary && s.pair.handover && s.pair.m2.isEmpty then
    let s := { s with pair := { s.pair with sentTerm := some (s.pair.term + 1) } }
    .next (s.heartbeatSend true (s.pair.term + 1))
  else .next s

/-- A register value as mirror class M3 sends it (R364). -/
def State.m3Value (s : State) (a : Nat) : Word :=
  match locate a with
  | some (b, _) => s.viewReg .boot b a
  | none => 0

/-- The registers of PAIR_M3_LIST. -/
def State.m3List (s : State) : List Nat :=
  (List.range 256).filterMap fun i => if s.flag (Addr.pairM3List i) 31 then some (s.field (Addr.pairM3List i) 0 24) else none

/-- Words of M3 and M4 that still wait for RING_RATE. -/
def State.rateLeft (s : State) : List (Nat × Nat) := s.pair.m4.filter fun e => decide (s.now < e.2)

/-- One mirrored word of M3 or M4 takes its turn at RING_RATE, which the two classes share, while the PAIR link is not
ACTIVE (R366); `tag` is the core of an M4 word, and 4 for M3. A word is 32 bits of RING_RATE (log entry 68). -/
def State.rateTake (s : State) (tag : Nat) : State :=
  if s.active .pair then { s with pair := { s.pair with m4 := [] } }
  else
    let rate := clamp 1 1000 (s.field Addr.pairMirrorCtrl 16 16)
    let from_ := max s.now ((s.rateLeft.getLast?.map (·.2)).getD 0)
    { s with pair := { s.pair with m4 := s.rateLeft ++ [(tag, from_ + 12800 / rate)] } }

/-- Send the M3 values that differ from those last sent; all of them in a snapshot. -/
def State.m3Send (s : State) (all : Bool) : State :=
  s.each s.m3List fun s a =>
    let v := s.m3Value a
    if all || assocGet s.pair.m3 a != some v then
      let s := { s with pair := { s.pair with m3 := assocSet s.pair.m3 a v } }
      (s.rateTake 4).mirrorSend (.m3 (word a) v)
    else s

/-- The M1 record of an entry: W7 and its next instance (R364). -/
def State.m1Record (s : State) (e : Nat) : MirrorRecord :=
  let x := s.ephInst e
  .m1 (fin 4095 e) (s.eph e 7) x.k x.ended

/-- An entry has executed or passed an instance (R364). -/
def State.m1Send (s : State) (e : Nat) : State :=
  if s.flag Addr.pairMirrorCtrl 0 then s.mirrorSend (s.m1Record e) else s

/-- The snapshot of M0, M1, M3 and M4 in full (R365), in the order of R364. -/
def State.snapshot (s : State) : State :=
  let s := s.mirrorSend s.aliasRecord
  let s := if s.flag Addr.pairMirrorCtrl 0 then
      s.each (s.ephListed.filter fun e => ephEn (s.eph e 0)) fun s e => s.mirrorSend (s.m1Record e) else s
  let s := s.each (List.range 4) fun s n =>
    if s.flag Addr.pairMirrorCtrl (2 + n) then
      s.each (List.range 1024) fun s j =>
        s.mirrorSend (.m4 (fin 3 n) (word (0x5_F000 + 4 * j)) (Memory.word s.mem (Addr.coreRam n + 0x5_F000 + 4 * j)))
    else s
  if s.flag Addr.pairMirrorCtrl 1 then s.m3Send true else s

/-- R364: M3_PERIOD has passed. -/
def execM3PeriodSend (s : State) : Host.Outcome State Fault Refusal :=
  if !s.start.logicUp then .next s else
  if s.flag Addr.pairMirrorCtrl 1 && s.pair.role == .primary && (s.pair.partnerRole == 2 || s.pair.partnerRole == 3) then
    .next (s.m3Send false)
  else .next s

/-- Most M4 stores that wait for one core: 4 KB of data words (R366, log entry 68). -/
def m4Limit : Nat := 1024

/-- A word stored by core `n` into the mirrored part of its DMEM (R364); while PAIR is not ACTIVE it leaves at RING_RATE,
and one that finds the queue full ends the mirror: the partner gets a snapshot (R366). -/
def State.m4Send (s : State) (n : Nat) (a : Nat) (v : Word) : State :=
  let on := s.flag Addr.pairMirrorCtrl (2 + n) && s.pair.role == .primary
    && (s.pair.partnerRole == 2 || s.pair.partnerRole == 3)
  if !on then s
  else if !s.active .pair && decide (m4Limit ≤ (s.rateLeft.filter fun e => e.1 == n).length) then
    ({ s with pair := { s.pair with m4 := [] } }.event Addr.pairEvents 5).snapshot
  else (s.rateTake n).mirrorSend (.m4 (fin 3 n) (word a) v)

/-- TERM `a` is higher than `b` (R357). -/
def termHigher (a b : Byte) : Bool := let d := (a - b).toNat; decide (1 ≤ d) && decide (d ≤ 127)

/-- PAIR_DUAL_ACTIVE (R369). -/
def State.dualActive (s : State) : State :=
  ((s.inc Addr.pairDualCount).event Addr.pairEvents 2).raise .pair .pairDualActive 0 none

/-- A PRIMARY hears its partner as PRIMARY under TERM `term` (R357, R369); `heard` is when it last heard it before. -/
def State.meetPrimary (s : State) (term : Byte) (rank heard : Nat) : State :=
  if s.pair.sentTerm = some term then { s with pair := { s.pair with term := term } }.pairTo .standby
  else if termHigher term s.pair.term then
    (s.when (s.elapsed heard (cyclesUs 100)) fun s => s.dualActive).pairTo .syncing
  else if term = s.pair.term then
    let s := if s.pair.dualTold then s
      else { s.dualActive with pair := { s.dualActive.pair with dualTold := true } }
    if rank < s.rank then s.pairTo .syncing else s
  else s

/-- The change of ROLE that a heartbeat makes (R357): the partner's role, HANDOVER, TERM and RANK. A HELD hub was PRIMARY for
250 µs of the silence before (R369). -/
def State.roleMove (s : State) (p : Nat) (handover : Bool) (term : Byte) (rank heard : Nat) : State :=
  match s.pair.role with
  | .off | .syncing => s
  | .seeking => if p = 4 then s.pairTo .syncing else if p = 1 ∧ s.rank < rank then s.pairFirst else s
  | .standby =>
    if handover && p == 4 then
      let s := if s.pair.ask then s.event Addr.pairEvents 6 else s
      (s.pairTo .primary).setTerm term
    else s
  | .primary =>
    if p = 4 then s.meetPrimary term rank heard
    else if p = 3 ∧ handover then
      if s.pair.handover then s else s.startHandover.event Addr.pairEvents 6
    else if p ≠ 3 then { s with pair := { s.pair with handover := false, sentTerm := none } }
    else s
  | .held =>
    if p = 4 then (s.when (termHigher term s.pair.term) fun s => s.dualActive).pairTo .syncing else s.pairTake

/-- The declarations of a partner differ from this hub's (R355): the alias, or equal ranks. -/
def State.pairMismatch (s : State) (w0 : Word) : Bool :=
  bits w0 24 8 != s.field Addr.ringPair 0 8 || bits w0 16 8 == s.rank

/-- A heartbeat has arrived on a path (R357, R359). -/
def State.heartbeatIn (s : State) (ring : Bool) (w0 hbSeq : Word) : State :=
  let old := s.pair
  if old.role == .off then s
  else
    let p := bits w0 0 3
    let term : Byte := BitVec.ofNat 8 (bits w0 8 8)
    let s := { s with pair := { old with
      partnerRole := p, partnerTerm := term, partnerRank := BitVec.ofNat 8 (bits w0 16 8), partnerHealthy := bit w0 3,
      seenPair := old.seenPair || !ring, seenRing := old.seenRing || ring, echo := hbSeq, lastHeard := s.now } }
    let s := if s.pairMismatch w0 then s.enterTransitAs .pair 3 else s
    let s := (s.roleMove p (bit w0 4) term (bits w0 16 8) old.lastHeard).healthReview
    if s.pair.role == .primary && p == 2 && (old.partnerRole != 2 || old.role != .primary) then s.snapshot else s

/-- R357: a heartbeat of the partner, over PAIR as given or the oldest that came over the ring. -/
def execPairHeartbeatReceive (hb : Option (Word × Word × Word)) (s : State) : Host.Outcome State Fault Refusal :=
  if !s.start.logicUp then .next s else
  match hb with
  | some w => if s.active .pair then .next (s.heartbeatIn false w.1 w.2.1) else .next s
  | none =>
    match s.takeInbox s.isHeartbeat with
    | none => .next s
    | some (x, s) => .next (s.heartbeatIn true (x.frame.payload.getD 0 0) (x.frame.payload.getD 1 0))

/-- R359: a path has been silent for 30 µs. -/
def execPairPathSilence (ring : Bool) (s : State) : Host.Outcome State Fault Refusal :=
  if !s.start.logicUp then .next s else
  if ring then .next { s with pair := { s.pair with seenRing := false } }
  else .next { s with pair := { s.pair with seenPair := false } }

/-- R371: PAIR has been silent for 100 µs while ring heartbeats arrive. -/
def execPairLinkLost (s : State) : Host.Outcome State Fault Refusal :=
  if !s.start.logicUp then .next s else
  if s.pair.role != .off && !s.pair.linkLost && s.pair.seenRing then
    .next (({ s with pair := { s.pair with linkLost := true } }.event Addr.pairEvents 3).raise .pair .pairLinkLost 0 none)
  else .next s

/-- R357: START_WAIT of silence since SEEKING was entered. -/
def execPairStartWaitExpiry (s : State) : Host.Outcome State Fault Refusal :=
  if !s.start.logicUp then .next s else
  if s.pair.role == .seeking then .next s.pairFirst else .next s

/-- R357, R367: 100 µs of silence; a heartbeat of the same CORE cycle ends it without a change of role (R372). -/
def execPairSilence100us (s : State) : Host.Outcome State Fault Refusal :=
  if !s.start.logicUp then .next s else
  if s.pair.lastHeard = s.now then .next s else
  match s.pair.role with
  | .syncing => .next (s.pairTo .seeking)
  | .standby =>
    .next (((s.inc Addr.pairTakeoverCount).event Addr.pairEvents 1).raise .pair .pairTakeover 0 none).pairTake
  | _ => .next s

/-- R357, R369: 250 µs of silence while the partner is not recorded absent; a heartbeat of the same CORE cycle ends it
(R372). -/
def execPairSilence250us (s : State) : Host.Outcome State Fault Refusal :=
  if !s.start.logicUp then .next s else
  if s.pair.lastHeard = s.now then .next s else
  if s.pair.role == .primary && s.present s.partner && !s.flag Addr.pairCtrl 2 then .next (s.pairTo .held) else .next s

/-- R357, R365: the snapshot is complete. -/
def execPairSnapshotComplete (s : State) : Host.Outcome State Fault Refusal :=
  if !s.start.logicUp then .next s else
  if s.pair.role == .syncing then .next ((s.pairTo .standby).event Addr.pairEvents 4) else .next s

/-- R370: a STANDBY of lower RANK has been HEALTHY for TAKEBACK_HOLD: it asks for a handover, in a heartbeat at once. -/
def execTakebackHoldExpiry (s : State) : Host.Outcome State Fault Refusal :=
  if !s.start.logicUp then .next s else
  if s.mayAsk then
    let s := { s with pair := { s.pair with ask := true } }
    .next (s.heartbeatSend true s.pair.term)
  else .next s

/-- M0 at the partner (R364): the alias counters and TERM. A STANDBY whose counters do not agree has missed an M2 record
and goes to SYNCING (R357, log entry 69). -/
def State.m0Apply (s : State) (l : List (Half × Byte)) (term : Byte) : State :=
  let gap := s.pair.role == .standby && l.map (·.1) != s.ring.aliasSeqs
  let s := { s with
    ring := { s.ring with aliasSeqs := l.map (·.1), aliasEpochs := l.map (·.2) }, mramEpochs := l.map (·.2),
    pair := { s.pair with term := term } }
  if gap then s.syncLost else s

/-- R364: a mirror record at a STANDBY or SYNCING hub. -/
def execMirrorRecordReceive (r : MirrorRecord) (s : State) : Host.Outcome State Fault Refusal :=
  if !s.start.logicUp then .next s else
  if s.pair.role != .standby && s.pair.role != .syncing then .next s
  else
    match r with
    | .m0 l term => if l.length = 4 then .next (s.m0Apply l term) else .next s
    | .m1 e w7 k ended =>
      .next ((s.setReg (Addr.ephemEntry e.val 7) w7).setEphInst e.val { k := k, shift := (s.ephInst e.val).shift, ended := ended })
    | .m3 a v => .next (s.writeLocal (.remote s.ringNo (BitVec.ofNat 8 s.partner)) a.toNat v).2
    | .m4 n a v =>
      if 0x5_F000 ≤ a.toNat ∧ a.toNat ≤ 0x5_FFFC ∧ a.toNat % 4 = 0 then .next (s.coreRamWrite n.val a.toNat v) else .next s

end Sys2Proof.Machine
end

