-- ==== Sys2Proof/Machine/CoreExec.lean ====
section
/-! DEFINITION. A service core executes (chapter 13): what each instruction does, stalls and their ends, and the instruction
boundary at which breakpoints, exceptions and interrupts are taken. -/

namespace Sys2Proof.Machine

/-- Source ID of core `n`. -/
def coreSource (n : Nat) : SourceId := sourceId (coreUnit n)
/-- Core `n` as an initiator. -/
def coreInit (n : Nat) : Initiator := .core (fin 3 n)

/-- The instruction completes, and the next one follows it. -/
def State.coreNext (s : State) (n : Nat) : State := (s.setCorePc n (s.corePc n + 4)).coreBoundary n

/-- The instruction completes with a result in rd. -/
def State.coreResult (s : State) (n : Nat) (rd : Reg) (v : Word) : State := (s.setGreg n rd v).coreNext n

/-- The instruction completes and execution goes on at `a`. -/
def State.coreJump (s : State) (n : Nat) (a : Word) : State := (s.setCorePc n a).coreBoundary n

/-- The instruction raises a precise exception (R321). -/
def State.coreFault (s : State) (n c : Nat) : State := s.coreException n (s.corePc n) c

/-- The instruction raises a precise exception that loads TRAPADDR (R321). -/
def State.coreFaultAt (s : State) (n c : Nat) (a : FabricAddr) (cause : Nat) : State :=
  s.coreExceptionAt n (s.corePc n) c a cause

/-- The instruction stalls with a code of SVC_STATUS.STALL (R330). -/
def State.coreStall (s : State) (n code : Nat) : State :=
  s.setCore n { s.core n with sync := .stalled, stall := code }

/-- Regions of a core's own addresses (R308). -/
inductive CoreRegion where
  | imem | dmem | map | absent
  deriving DecidableEq, Repr

/-- The region of a core address (R308). -/
def coreRegion (a : Nat) : CoreRegion :=
  if a < 0x2_0000 then .imem
  else if a < 0x6_0000 then .dmem
  else if 0x1000_0000 ≤ a ∧ a < 0x1100_0000 then .map
  else .absent

/-- The exception that the address of a load or store raises, if one does: MISALIGNED before ACCESS (R308, R313, log entry
71). -/
def coreAddrFault (a size : Nat) : Option Nat :=
  if a % size ≠ 0 then some 3
  else
    match coreRegion a with
    | .dmem => none
    | .absent => some 4
    | _ => if size = 4 then none else some 4

/-- A load or store of `size` bytes at core address `a` raises exception `c`; into the register map it is no aligned word
access, and a bus error too (R38, R40). -/
def State.coreBadAddr (s : State) (n a size c : Nat) (isWrite : Bool) : State :=
  let s := if coreRegion a = .map then
      s.busError (coreInit n) (localFabric (a - 0x1000_0000)) isWrite (if size < 4 then 1 else 3)
    else s
  s.coreFaultAt n c (BitVec.ofNat 48 a) 0

/-- An access to the register map at local address `a` would be held by a unit reset, so the core stalls (R12, R311). -/
def State.coreHeld (s : State) (n a : Nat) (isWrite : Bool) : Bool :=
  (s.accessKind (coreInit n) a 4 isWrite).isNone
    && (match locate a with
        | some (b, _) => s.mustHold (coreInit n) b a s.bridge.order
        | none => false)

/-- Posted stores of core `n` that are outstanding (R311). -/
def State.coreStores (s : State) (n : Nat) : Nat := (s.held.filter fun h => h.who == coreInit n && h.isWrite).length

/-- LDW, LDH, LDHU, LDB and LDBU at core address `a` (R308, R309, R311, R313). -/
def State.coreLoad (s : State) (n : Nat) (op : LoadOp) (rd : Reg) (a : Word) : State :=
  let fa : FabricAddr := BitVec.ofNat 48 a.toNat
  match coreAddrFault a.toNat (loadSize op) with
  | some c => s.coreBadAddr n a.toNat (loadSize op) c false
  | none =>
    if coreRegion a.toNat = .map then
      let la := a.toNat - 0x1000_0000
      if s.coreHeld n la false then s.coreStall n 6
      else
        let p := s.readLocal (coreInit n) la
        match p.1 with
        | .data w => p.2.coreResult n rd w
        | _ => p.2.coreFaultAt n 4 fa 0
    else
      let r := s.coreRamRead n (a.toNat / 4 * 4)
      if r.2.1 then r.2.2.coreFaultAt n 6 fa 0 else r.2.2.coreResult n rd (loadPart op r.1 a.toNat)

/-- A store into the core's own memory, with its mirror record (R309, R364). A halfword or byte store reads the word first;
an uncorrectable error there is an ECC_DATA exception (log entry 72). -/
def State.coreRamStore (s : State) (n : Nat) (op : StoreOp) (a v : Word) : State :=
  let off := a.toNat / 4 * 4
  let r := if op = .word then (v, false, s) else s.coreRamRead n off
  if r.2.1 then r.2.2.coreFaultAt n 6 (BitVec.ofNat 48 a.toNat) 0
  else
    let w := storePart op r.1 a.toNat v
    let s := r.2.2.coreRamWrite n off w
    let s := if 0x5_F000 ≤ off ∧ off < 0x6_0000 then s.m4Send n off w else s
    s.coreNext n

/-- STW, STH and STB at core address `a` (R308, R311, R313): a store to the register map is posted. -/
def State.coreStore (s : State) (n : Nat) (op : StoreOp) (a v : Word) : State :=
  match coreAddrFault a.toNat (storeSize op) with
  | some c => s.coreBadAddr n a.toNat (storeSize op) c true
  | none =>
    if coreRegion a.toNat = .map then
      let la := a.toNat - 0x1000_0000
      if s.coreHeld n la true && decide (8 ≤ s.coreStores n) then s.coreStall n 6
      else
        let p := s.writeLocal (coreInit n) la v
        match p.1 with
        | .err _ =>
          let x := p.2.core n
          (p.2.setCore n { x with badStores := x.badStores ++ [a] }).coreNext n
        | _ => p.2.coreNext n
    else s.coreRamStore n op a v

/-- The hub refuses the address at issue: KIND 8 and a precise ACCESS exception (R60, R316). -/
def State.coreRefused (s : State) (n : Nat) (a : FabricAddr) (isWrite : Bool) : State :=
  (s.refuseAccess (coreInit n) a isWrite 8).2.coreFaultAt n 4 a 0

/-- LDF and STF (R316): `v` is the word written, none for a read. Space 0 of this hub is the local map (R62). -/
def State.coreFabric (s : State) (n : Nat) (rd : Reg) (a : FabricAddr) (v : Option Word) : State :=
  let kind : TxnKind := if v.isSome then .write else .read
  if s.refusesAddr a kind then s.coreRefused n a v.isSome
  else if s.isOwn a && faSpace a == 0 then
    if s.coreHeld n (faOffset a) v.isSome then s.coreStall n 3
    else
      let p := s.access (coreInit n) (localFabric (faOffset a)) (faOffset a) 4 v.isSome (v.getD 0)
      match p.1 with
      | .data w => p.2.coreResult n rd w
      | .done => p.2.coreNext n
      | _ => p.2.coreFaultAt n 4 a 0
  else (s.issueTxn kind (coreInit n) a 1 v.toList .c 0).coreStall n 3

/-- A posted write of core `n` waits for a TAG (R244). -/
def State.coreTagless (s : State) (n : Nat) : Bool :=
  s.bridge.waiting.any fun w => w.who == coreInit n && w.kind == .posted && w.role == .own

/-- STFP (R316). -/
def State.coreStfp (s : State) (n : Nat) (a : FabricAddr) (v : Word) : State :=
  if s.refusesAddr a .posted then s.coreRefused n a true
  else
    let s := s.postWrite (coreInit n) a v 0
    if s.coreTagless n then s.coreStall n 3 else s.coreNext n

/-- Every earlier access of core `n` to local units is complete (R62, R68). -/
def State.fenceLDone (s : State) (n : Nat) : Bool :=
  !(s.held.any fun h => h.who == coreInit n)
    && !(s.liveTxns.any fun e => e.2.who == coreInit n && s.isOwn e.2.addr)
    && !(s.bridge.waiting.any fun w => w.who == coreInit n && s.isOwn w.addr)

/-- Every ring access of core `n` issued before `p`, broadcasts aside, has resolved (R69). -/
def State.fenceFDone (s : State) (n p : Nat) : Bool :=
  let mine (who : Initiator) (order : Nat) (a : FabricAddr) : Bool :=
    who == coreInit n && decide (order < p) && !s.isOwn a && faNode a != 254
  !(s.liveTxns.any fun e => mine e.2.who e.2.order e.2.addr)
    && !(s.bridge.waiting.any fun w => mine w.who w.order w.addr)
    && !(s.pair.cmds.any fun c => mine c.who c.order c.addr)
    && !(s.pair.m2.any fun c => mine c.who c.order c.addr)

/-- FENCE.L, as issued and as its stall ends (R68). -/
def State.coreFenceL (s : State) (n : Nat) : State :=
  if s.fenceLDone n then ({ s with fences := assocDel s.fences (coreInit n) }).coreNext n
  else { s with fences := assocSet s.fences (coreInit n) ⟨false, s.bridge.order⟩ }.coreStall n 4

/-- The result word of a fence (R71). -/
def FenceCount.word (c : FenceCount) : Word :=
  Sys2Proof.Machine.word (min 0xFFFF c.fails + ofBool c.timeout * 2 ^ 16)

/-- FENCE.F ends with its result; failures of later writes wait for the next fence (R71, R72). -/
def State.fenceFEnd (s : State) (n : Nat) (rd : Reg) : State :=
  let c := (assocGet s.fenceCounts (coreInit n)).getD {}
  let s := { s with
    fences := assocDel s.fences (coreInit n)
    fenceCounts := assocSet s.fenceCounts (coreInit n) { fails := c.nextFails, timeout := c.nextTimeout } }
  (s.emit (.fenceEnd (coreInit n) c.word)).coreResult n rd c.word

/-- FENCE.F, as issued (R69). -/
def State.coreFenceF (s : State) (n : Nat) (rd : Reg) : State :=
  let p := s.bridge.order
  if s.fenceFDone n p then s.fenceFEnd n rd
  else { s with fences := assocSet s.fences (coreInit n) ⟨true, p⟩ }.coreStall n 4

/-- STAMP (R114, R316). -/
def State.coreStamp (s : State) (n : Nat) (rd : Reg) (what : Nat) : State :=
  match what with
  | 0 =>
    let t := s.timeNs
    if rd = 0 then s.coreNext n
    else ((s.setGreg n rd (word t)).setGreg n (nextReg rd) (word (t / 2 ^ 32))).coreNext n
  | 1 => s.coreResult n rd (word s.timeNs)
  | 2 => s.coreResult n rd s.angleNow
  | _ => s.coreResult n rd (s.cycleAt s.time16)

/-- LOOKUP (R319). -/
def State.coreLookup (s : State) (n : Nat) (rd ra : Reg) (ktype : Nat) : State :=
  let key := (s.greg n ra).toNat + (s.greg n (nextReg ra)).toNat * 2 ^ 32
  let hits := ((List.range 4).map fun k => 4 * bucketOf ktype key + k).filter fun e => s.entryMatches ktype key e
  let p := s.exactLookup ktype key
  p.2.coreResult n rd (match p.1 with
    | some e => word (2 ^ 31 + ofBool (decide (2 ≤ hits.length)) * 2 ^ 30 + e)
    | none => 0)

/-- The mark that SEND's MARK field names (R317). -/
def markOf (m : Fin 3) : Mark := if m = 0 then .data else if m = 1 then .last else .abort

/-- Queue `q` has no room for a word of core `n` with this mark (R332). -/
def State.sendFull (s : State) (n q : Nat) (m : Mark) : Bool :=
  s.qOpen q && s.qProducer q == coreSource n && !(s.queue q).dropping && decide (s.qLimit q m ≤ (s.queue q).words.length)

/-- SEND, as issued (R317). -/
def State.coreSend (s : State) (n : Nat) (rs rr : Reg) (q : QSel) (nb : Bool) (m : Fin 3) : State :=
  let k := s.queueOf n q
  let full := s.sendFull n k (markOf m)
  let p := s.qOffer k (coreSource n) (s.greg n rs) (markOf m)
  if full then (if nb then p.2.coreResult n rr 1 else p.2.coreStall n 2) else p.2.coreResult n rr 0

/-- RECV, as issued and as its stall ends (R317, R335). -/
def State.coreRecv (s : State) (n : Nat) (rd rm : Reg) (q : QSel) (nb : Bool) : State :=
  match s.qTakeAs (s.queueOf n q) (coreSource n) with
  | some (w, s) => ((s.setGreg n rd w.v).setGreg n rm (word (markCode w.mark))).coreNext n
  | none => if nb then ((s.setGreg n rd 0).setGreg n rm 3).coreNext n else s.coreStall n 1

/-- DROPPKT (R317, R335, R336). -/
def State.coreDrop (s : State) (n : Nat) (q : QSel) : State :=
  let k := s.queueOf n q
  (if s.qConsumer k == coreSource n then s.qDropPkt k else s).coreNext n

/-- GETS (R315, R318, R322). -/
def State.coreGets (s : State) (n : Nat) (rd : Reg) (i : Nat) : State :=
  match i with
  | 8 =>
    let c := s.coreCycles n
    (s.setCore n { s.core n with cycleHi := word (c / 2 ^ 32) }).coreResult n rd (word c)
  | 9 => s.coreResult n rd (s.core n).cycleHi
  | 17 =>
    match s.corePop n with
    | some (v, s) => s.coreResult n rd v
    | none => s.coreFault n 9
  | i => s.coreResult n rd (s.sregValue n i)

/-- PUTS (R315, R318, R322). -/
def State.corePuts (s : State) (n i : Nat) (v : Word) : State :=
  if i = 17 then
    match s.corePush n v with
    | some s => s.coreNext n
    | none => s.coreFault n 9
  else (s.sregWrite n i v).coreNext n

/-- RTT (R318): ILLEGAL while INTRAP is 0. -/
def State.coreRtt (s : State) (n : Nat) : State :=
  if s.ctxBit n 2 then
    let s := (s.setCtxBit n 0 (s.ctxBit n 1)).setCtxBit n 2 false
    s.coreJump n (s.reg (Addr.svcSreg n 1))
  else s.coreFault n 1

/-- WFE, as issued and as its wait ends (R318): with INTEN 1 the interrupt is taken, else execution goes on. -/
def State.coreWfe (s : State) (n : Nat) : State :=
  if (s.interrupts n).isEmpty then s.setCore n { s.core n with sync := .waiting, stall := 0 }
  else if s.ctxBit n 0 && !s.ctxBit n 2 && (s.core n).sync == .waiting then s.takeInterrupt n
  else s.coreNext n

/-- BRK (R318): the core halts with the PC past the instruction (log entry 75), or raises BREAK. -/
def State.coreBrk (s : State) (n : Nat) : State :=
  if s.flag (Addr.svcCtrl n) 0 then (s.setCorePc n (s.corePc n + 4)).coreHalt n 3 else s.coreFault n 8

/-- What an instruction does as it is issued (R313 to R320). -/
def State.coreExec (s : State) (n : Nat) (i : SInstr) : State :=
  let g (r : Reg) : Word := s.greg n r
  let pc := s.corePc n
  match i with
  | .alu op rd ra rb => (s.aluFlags n op (g ra) (g rb)).coreResult n rd (aluResult op (g ra) (g rb) rb.toNat)
  | .imm op rd ra v => s.coreResult n rd (immResult op (g ra) v)
  | .ldhi rd v => s.coreResult n rd (zimm v <<< 16)
  | .load op rd ra v => s.coreLoad n op rd (g ra + simm v)
  | .store op rs ra v => s.coreStore n op (g ra + simm v) (g rs)
  | .branch c ra rb off => if condHolds c (g ra) (g rb) then s.coreJump n (branchTarget pc off) else s.coreNext n
  | .jmp off => s.coreJump n (jumpTarget pc off)
  | .call off =>
    match s.corePush n (pc + 4) with
    | some t => t.coreJump n (jumpTarget pc off)
    | none => s.coreFault n 9
  | .jr ra v => s.coreJump n (regTarget (g ra) v)
  | .callr ra v =>
    match s.corePush n (pc + 4) with
    | some t => t.coreJump n (regTarget (g ra) v)
    | none => s.coreFault n 9
  | .ret =>
    match s.corePop n with
    | some (v, t) => t.coreJump n v
    | none => s.coreFault n 9
  | .ldf rd ra => s.coreFabric n rd (s.pairAddr n ra) none
  | .stf rs ra => s.coreFabric n 0 (s.pairAddr n ra) (some (g rs))
  | .stfp rs ra => s.coreStfp n (s.pairAddr n ra) (g rs)
  | .fenceL => s.coreFenceL n
  | .fenceF rd => s.coreFenceF n rd
  | .stamp rd what => s.coreStamp n rd what.val
  | .lookup rd ra k => s.coreLookup n rd ra k.val
  | .crc op rd ra rb => s.coreResult n rd (crcResult op (g ra) (g rb) (s.field (Addr.svcSreg n 12) 0 16))
  | .send rs rr q nb m => s.coreSend n rs rr q nb m
  | .recv rd rm q nb => s.coreRecv n rd rm q nb
  | .droppkt q => s.coreDrop n q
  | .gets rd i => s.coreGets n rd i.val
  | .puts i ra => s.corePuts n i.val (g ra)
  | .rtt => s.coreRtt n
  | .wfe => s.coreWfe n
  | .brk => s.coreBrk n

/-- An interrupt is taken at this boundary (R324). -/
def State.interruptDue (s : State) (n : Nat) : Bool :=
  s.ctxBit n 0 && !s.ctxBit n 2 && !(s.interrupts n).isEmpty

/-- The instruction that core `n` fetches, or the code of the exception that the fetch raises, and the state (R309, R312,
R321). -/
def State.coreFetch (s : State) (n : Nat) : (Nat ⊕ Word × SInstr) × State :=
  let pc := (s.corePc n).toNat
  if pc % 4 ≠ 0 ∨ 0x2_0000 ≤ pc then (.inl 2, s)
  else
    let r := s.coreRamRead n pc
    if r.2.1 then (.inl 5, r.2.2)
    else
      match decodeS r.1 with
      | none => (.inl 1, r.2.2)
      | some i => (.inr (r.1, i), r.2.2)

/-- A running core's next instruction boundary and the instruction after it (R324, R328): a breakpoint, a store's bus error,
an interrupt, or the instruction, if it is one that `want` admits; otherwise nothing happens. -/
def State.sClock (s : State) (n : Nat) (want : SInstr → Bool) : State :=
  if !s.start.logicUp || (s.core n).sync != .running then s
  else if s.bpMatch n then s.coreHalt n 2
  else if !(s.core n).badStores.isEmpty then s.coreImprecise n
  else if s.interruptDue n then s.takeInterrupt n
  else
    match s.coreFetch n with
    | (.inl c, t) => t.coreFault n c
    | (.inr (w, i), t) => if want i then (t.setCore n { t.core n with cur := w }).coreExec n i else s

/-- Take the result of the transaction that core `n` waits for. -/
def State.takeEnded (s : State) (n : Nat) : Option (TxnDone × State) :=
  match s.bridge.ended.find? fun d => d.who == coreInit n with
  | none => none
  | some d => some (d, { s with bridge := { s.bridge with ended := s.bridge.ended.erase d } })

/-- LDF or STF ends: its word, or a FABRIC exception with the cause of R253 (R316). -/
def State.fabricEnd (s : State) (n : Nat) (rd : Reg) (isRead : Bool) : State :=
  match s.takeEnded n with
  | none => s
  | some (d, s) =>
    if d.cause = 0 then (if isRead then s.coreResult n rd (d.data.headD 0) else s.coreNext n)
    else s.coreFaultAt n 7 d.addr d.cause

/-- The wait of a stalled instruction ends, if it can (R311, R316, R317). -/
def State.coreResume (s : State) (n : Nat) (i : SInstr) : State :=
  let g (r : Reg) : Word := s.greg n r
  match i with
  | .load op rd ra v => s.coreLoad n op rd (g ra + simm v)
  | .store op rs ra v => s.coreStore n op (g ra + simm v) (g rs)
  | .ldf rd ra =>
    let a := s.pairAddr n ra
    if s.isOwn a && faSpace a == 0 then s.coreFabric n rd a none else s.fabricEnd n rd true
  | .stf rs ra =>
    let a := s.pairAddr n ra
    if s.isOwn a && faSpace a == 0 then s.coreFabric n 0 a (some (g rs)) else s.fabricEnd n 0 false
  | .stfp _ _ => if s.coreTagless n then s else s.coreNext n
  | .fenceL => if (s.core n).badStores.isEmpty then s.coreFenceL n else s.coreImprecise n
  | .fenceF rd =>
    match assocGet s.fences (coreInit n) with
    | some f => if s.fenceFDone n f.point then s.fenceFEnd n rd else s
    | none => s
  | .send rs rr q nb m => if s.sendFull n (s.queueOf n q) (markOf m) then s else s.coreSend n rs rr q nb m
  | .recv rd rm q nb => s.coreRecv n rd rm q nb
  | _ => s

/-- The end of the wait of a stalled core, if `want` admits the instruction that stalls; a WFE goes on under R318. -/
def State.stallEnd (s : State) (n : Nat) (want : SInstr → Bool) : State :=
  match (s.core n).sync with
  | .stalled =>
    match decodeS (s.core n).cur with
    | some i => if want i then s.coreResume n i else s
    | none => s
  | .waiting => if want .wfe then s.coreWfe n else s
  | _ => s

end Sys2Proof.Machine
end

