-- ==== Sys2Proof/Machine/CoreInstr.lean ====
section
/-! DEFINITION. The commands of the service cores: one for each instruction, which the core named fetches and executes if
it is the instruction at its PC (R313 to R318), and the ends of stalls (R311). -/

namespace Sys2Proof.Machine

/-- The instruction is of an operation of the ALU group, on an immediate, and so on. -/
def isAlu (op : AluOp) : SInstr → Bool
  | .alu o _ _ _ => o == op
  | _ => false
def isImm (op : ImmOp) : SInstr → Bool
  | .imm o _ _ _ => o == op
  | _ => false
def isLdhi : SInstr → Bool
  | .ldhi _ _ => true
  | _ => false
def isLoad (op : LoadOp) : SInstr → Bool
  | .load o _ _ _ => o == op
  | _ => false
def isStore (op : StoreOp) : SInstr → Bool
  | .store o _ _ _ => o == op
  | _ => false
def isBranch (c : Cond) : SInstr → Bool
  | .branch o _ _ _ => o == c
  | _ => false
def isJmp : SInstr → Bool
  | .jmp _ => true
  | _ => false
def isCall : SInstr → Bool
  | .call _ => true
  | _ => false
def isJr : SInstr → Bool
  | .jr _ _ => true
  | _ => false
def isCallr : SInstr → Bool
  | .callr _ _ => true
  | _ => false
def isRet : SInstr → Bool
  | .ret => true
  | _ => false
def isLdf : SInstr → Bool
  | .ldf _ _ => true
  | _ => false
def isStf : SInstr → Bool
  | .stf _ _ => true
  | _ => false
def isStfp : SInstr → Bool
  | .stfp _ _ => true
  | _ => false
def isFenceL : SInstr → Bool
  | .fenceL => true
  | _ => false
def isFenceF : SInstr → Bool
  | .fenceF _ => true
  | _ => false
def isStamp : SInstr → Bool
  | .stamp _ _ => true
  | _ => false
def isLookup : SInstr → Bool
  | .lookup _ _ _ => true
  | _ => false
def isCrc (op : CrcOp) : SInstr → Bool
  | .crc o _ _ _ => o == op
  | _ => false
def isSend : SInstr → Bool
  | .send _ _ _ _ _ => true
  | _ => false
def isRecv : SInstr → Bool
  | .recv _ _ _ _ => true
  | _ => false
def isDroppkt : SInstr → Bool
  | .droppkt _ => true
  | _ => false
def isGets : SInstr → Bool
  | .gets _ _ => true
  | _ => false
def isPuts : SInstr → Bool
  | .puts _ _ => true
  | _ => false
def isRtt : SInstr → Bool
  | .rtt => true
  | _ => false
def isWfe : SInstr → Bool
  | .wfe => true
  | _ => false
def isBrk : SInstr → Bool
  | .brk => true
  | _ => false

/-- R314: rd = ra + rb. -/
def execAdd (n : Fin 4) (s : State) : Host.Outcome State Fault Refusal :=
  .next (s.sClock n.val (isAlu .add))

/-- R314: rd = ra − rb. -/
def execSub (n : Fin 4) (s : State) : Host.Outcome State Fault Refusal :=
  .next (s.sClock n.val (isAlu .sub))

/-- R314: rd = ra AND rb. -/
def execAnd (n : Fin 4) (s : State) : Host.Outcome State Fault Refusal :=
  .next (s.sClock n.val (isAlu .and))

/-- R314: rd = ra OR rb. -/
def execOr (n : Fin 4) (s : State) : Host.Outcome State Fault Refusal :=
  .next (s.sClock n.val (isAlu .or))

/-- R314: rd = ra XOR rb. -/
def execXor (n : Fin 4) (s : State) : Host.Outcome State Fault Refusal :=
  .next (s.sClock n.val (isAlu .xor))

/-- R314: rd = ra shifted left by rb[4:0]. -/
def execSll (n : Fin 4) (s : State) : Host.Outcome State Fault Refusal :=
  .next (s.sClock n.val (isAlu .sll))

/-- R314: rd = ra shifted right by rb[4:0]. -/
def execSrl (n : Fin 4) (s : State) : Host.Outcome State Fault Refusal :=
  .next (s.sClock n.val (isAlu .srl))

/-- R314: rd = ra shifted right arithmetically by rb[4:0]. -/
def execSra (n : Fin 4) (s : State) : Host.Outcome State Fault Refusal :=
  .next (s.sClock n.val (isAlu .sra))

/-- R314: rd = 1 if ra < rb, signed. -/
def execClt (n : Fin 4) (s : State) : Host.Outcome State Fault Refusal :=
  .next (s.sClock n.val (isAlu .clt))

/-- R314: rd = 1 if ra < rb, unsigned. -/
def execCltu (n : Fin 4) (s : State) : Host.Outcome State Fault Refusal :=
  .next (s.sClock n.val (isAlu .cltu))

/-- R314: rd = low word of the product. -/
def execMul (n : Fin 4) (s : State) : Host.Outcome State Fault Refusal :=
  .next (s.sClock n.val (isAlu .mul))

/-- R314: rd = high word of the signed product. -/
def execMulhs (n : Fin 4) (s : State) : Host.Outcome State Fault Refusal :=
  .next (s.sClock n.val (isAlu .mulhs))

/-- R314: rd = high word of the unsigned product. -/
def execMulhu (n : Fin 4) (s : State) : Host.Outcome State Fault Refusal :=
  .next (s.sClock n.val (isAlu .mulhu))

/-- R314: rd = signed quotient. -/
def execDiv (n : Fin 4) (s : State) : Host.Outcome State Fault Refusal :=
  .next (s.sClock n.val (isAlu .div))

/-- R314: rd = unsigned quotient. -/
def execDivu (n : Fin 4) (s : State) : Host.Outcome State Fault Refusal :=
  .next (s.sClock n.val (isAlu .divu))

/-- R314: rd = signed remainder. -/
def execRem (n : Fin 4) (s : State) : Host.Outcome State Fault Refusal :=
  .next (s.sClock n.val (isAlu .rem))

/-- R314: rd = unsigned remainder. -/
def execRemu (n : Fin 4) (s : State) : Host.Outcome State Fault Refusal :=
  .next (s.sClock n.val (isAlu .remu))

/-- R314: rd = leading zeros of ra. -/
def execClz (n : Fin 4) (s : State) : Host.Outcome State Fault Refusal :=
  .next (s.sClock n.val (isAlu .clz))

/-- R314: rd = 1 bits of ra. -/
def execPopc (n : Fin 4) (s : State) : Host.Outcome State Fault Refusal :=
  .next (s.sClock n.val (isAlu .popc))

/-- R314: rd = ra with its bytes reversed. -/
def execBswap (n : Fin 4) (s : State) : Host.Outcome State Fault Refusal :=
  .next (s.sClock n.val (isAlu .bswap))

/-- R314: rd = ra shifted left by the rb field. -/
def execSlli (n : Fin 4) (s : State) : Host.Outcome State Fault Refusal :=
  .next (s.sClock n.val (isAlu .slli))

/-- R314: rd = ra shifted right by the rb field. -/
def execSrli (n : Fin 4) (s : State) : Host.Outcome State Fault Refusal :=
  .next (s.sClock n.val (isAlu .srli))

/-- R314: rd = ra shifted right arithmetically by the rb field. -/
def execSrai (n : Fin 4) (s : State) : Host.Outcome State Fault Refusal :=
  .next (s.sClock n.val (isAlu .srai))

/-- R313: rd = ra + simm. -/
def execAddi (n : Fin 4) (s : State) : Host.Outcome State Fault Refusal :=
  .next (s.sClock n.val (isImm .addi))

/-- R313: rd = ra AND zimm. -/
def execAndi (n : Fin 4) (s : State) : Host.Outcome State Fault Refusal :=
  .next (s.sClock n.val (isImm .andi))

/-- R313: rd = ra OR zimm. -/
def execOri (n : Fin 4) (s : State) : Host.Outcome State Fault Refusal :=
  .next (s.sClock n.val (isImm .ori))

/-- R313: rd = ra XOR zimm. -/
def execXori (n : Fin 4) (s : State) : Host.Outcome State Fault Refusal :=
  .next (s.sClock n.val (isImm .xori))

/-- R313: rd = 1 if ra < simm, signed. -/
def execClti (n : Fin 4) (s : State) : Host.Outcome State Fault Refusal :=
  .next (s.sClock n.val (isImm .clti))

/-- R313: rd = 1 if ra < simm, unsigned. -/
def execCltiu (n : Fin 4) (s : State) : Host.Outcome State Fault Refusal :=
  .next (s.sClock n.val (isImm .cltiu))

/-- R313: rd = imm16 << 16. -/
def execLdhi (n : Fin 4) (s : State) : Host.Outcome State Fault Refusal :=
  .next (s.sClock n.val isLdhi)

/-- R313: rd = word at ra + simm. -/
def execLdw (n : Fin 4) (s : State) : Host.Outcome State Fault Refusal :=
  .next (s.sClock n.val (isLoad .word))

/-- R313: rd = halfword, sign-extended. -/
def execLdh (n : Fin 4) (s : State) : Host.Outcome State Fault Refusal :=
  .next (s.sClock n.val (isLoad .half))

/-- R313: rd = halfword, zero-extended. -/
def execLdhu (n : Fin 4) (s : State) : Host.Outcome State Fault Refusal :=
  .next (s.sClock n.val (isLoad .halfU))

/-- R313: rd = byte, sign-extended. -/
def execLdb (n : Fin 4) (s : State) : Host.Outcome State Fault Refusal :=
  .next (s.sClock n.val (isLoad .byte))

/-- R313: rd = byte, zero-extended. -/
def execLdbu (n : Fin 4) (s : State) : Host.Outcome State Fault Refusal :=
  .next (s.sClock n.val (isLoad .byteU))

/-- R313: word at ra + simm = rs. -/
def execStw (n : Fin 4) (s : State) : Host.Outcome State Fault Refusal :=
  .next (s.sClock n.val (isStore .word))

/-- R313: half at ra + simm = rs. -/
def execSth (n : Fin 4) (s : State) : Host.Outcome State Fault Refusal :=
  .next (s.sClock n.val (isStore .half))

/-- R313: byte at ra + simm = rs. -/
def execStb (n : Fin 4) (s : State) : Host.Outcome State Fault Refusal :=
  .next (s.sClock n.val (isStore .byte))

/-- R313: branch if ra = rb. -/
def execBeq (n : Fin 4) (s : State) : Host.Outcome State Fault Refusal :=
  .next (s.sClock n.val (isBranch .eq))

/-- R313: branch if ra ≠ rb. -/
def execBne (n : Fin 4) (s : State) : Host.Outcome State Fault Refusal :=
  .next (s.sClock n.val (isBranch .ne))

/-- R313: branch if ra < rb, signed. -/
def execBlt (n : Fin 4) (s : State) : Host.Outcome State Fault Refusal :=
  .next (s.sClock n.val (isBranch .lt))

/-- R313: branch if ra ≥ rb, signed. -/
def execBge (n : Fin 4) (s : State) : Host.Outcome State Fault Refusal :=
  .next (s.sClock n.val (isBranch .ge))

/-- R313: branch if ra < rb, unsigned. -/
def execBltu (n : Fin 4) (s : State) : Host.Outcome State Fault Refusal :=
  .next (s.sClock n.val (isBranch .ltu))

/-- R313: branch if ra ≥ rb, unsigned. -/
def execBgeu (n : Fin 4) (s : State) : Host.Outcome State Fault Refusal :=
  .next (s.sClock n.val (isBranch .geu))

/-- R313: a jump relative to the PC. -/
def execJmp (n : Fin 4) (s : State) : Host.Outcome State Fault Refusal :=
  .next (s.sClock n.val isJmp)

/-- R315: PC + 4 is pushed, and a jump relative to the PC. -/
def execCall (n : Fin 4) (s : State) : Host.Outcome State Fault Refusal :=
  .next (s.sClock n.val isCall)

/-- R313: a jump to ra + simm. -/
def execJr (n : Fin 4) (s : State) : Host.Outcome State Fault Refusal :=
  .next (s.sClock n.val isJr)

/-- R315: PC + 4 is pushed, and a jump to ra + simm. -/
def execCallr (n : Fin 4) (s : State) : Host.Outcome State Fault Refusal :=
  .next (s.sClock n.val isCallr)

/-- R315: a jump to the address popped. -/
def execRet (n : Fin 4) (s : State) : Host.Outcome State Fault Refusal :=
  .next (s.sClock n.val isRet)

/-- R316: a non-posted fabric read. -/
def execLdf (n : Fin 4) (s : State) : Host.Outcome State Fault Refusal :=
  .next (s.sClock n.val isLdf)

/-- R316: a non-posted fabric write. -/
def execStf (n : Fin 4) (s : State) : Host.Outcome State Fault Refusal :=
  .next (s.sClock n.val isStf)

/-- R316: a posted fabric write. -/
def execStfp (n : Fin 4) (s : State) : Host.Outcome State Fault Refusal :=
  .next (s.sClock n.val isStfp)

/-- R68: the core waits for its accesses to local units. -/
def execFenceL (n : Fin 4) (s : State) : Host.Outcome State Fault Refusal :=
  .next (s.sClock n.val isFenceL)

/-- R69: the core waits for its ring accesses. -/
def execFenceF (n : Fin 4) (s : State) : Host.Outcome State Fault Refusal :=
  .next (s.sClock n.val isFenceF)

/-- R316: fabric time, ANGLE or CYCLE. -/
def execStamp (n : Fin 4) (s : State) : Host.Outcome State Fault Refusal :=
  .next (s.sClock n.val isStamp)

/-- R319: a search of the exact-match table. -/
def execLookup (n : Fin 4) (s : State) : Host.Outcome State Fault Refusal :=
  .next (s.sClock n.val isLookup)

/-- R320: the running CRC in ra advances over rb. -/
def execCrc32cB (n : Fin 4) (s : State) : Host.Outcome State Fault Refusal :=
  .next (s.sClock n.val (isCrc .c32b))

/-- R320: the running CRC in ra advances over rb. -/
def execCrc32cH (n : Fin 4) (s : State) : Host.Outcome State Fault Refusal :=
  .next (s.sClock n.val (isCrc .c32h))

/-- R320: the running CRC in ra advances over rb. -/
def execCrc32cW (n : Fin 4) (s : State) : Host.Outcome State Fault Refusal :=
  .next (s.sClock n.val (isCrc .c32w))

/-- R320: the running CRC in ra advances over rb. -/
def execCrc16B (n : Fin 4) (s : State) : Host.Outcome State Fault Refusal :=
  .next (s.sClock n.val (isCrc .c16b))

/-- R317: a word and mark for a queue. -/
def execSend (n : Fin 4) (s : State) : Host.Outcome State Fault Refusal :=
  .next (s.sClock n.val isSend)

/-- R317: a word and mark from a queue. -/
def execRecv (n : Fin 4) (s : State) : Host.Outcome State Fault Refusal :=
  .next (s.sClock n.val isRecv)

/-- R317: a packet of a queue is dropped. -/
def execDroppkt (n : Fin 4) (s : State) : Host.Outcome State Fault Refusal :=
  .next (s.sClock n.val isDroppkt)

/-- R318: a special register is read. -/
def execGets (n : Fin 4) (s : State) : Host.Outcome State Fault Refusal :=
  .next (s.sClock n.val isGets)

/-- R318: a special register is written. -/
def execPuts (n : Fin 4) (s : State) : Host.Outcome State Fault Refusal :=
  .next (s.sClock n.val isPuts)

/-- R318: return from a trap. -/
def execRtt (n : Fin 4) (s : State) : Host.Outcome State Fault Refusal :=
  .next (s.sClock n.val isRtt)

/-- R318: wait for an interrupt condition. -/
def execWfe (n : Fin 4) (s : State) : Host.Outcome State Fault Refusal :=
  .next (s.sClock n.val isWfe)

/-- R318: halt or BREAK. -/
def execBrk (n : Fin 4) (s : State) : Host.Outcome State Fault Refusal :=
  .next (s.sClock n.val isBrk)

/-- R68: the last local access is complete. -/
def execFenceLComplete (n : Fin 4) (s : State) : Host.Outcome State Fault Refusal :=
  if !s.start.logicUp then .next s else
  .next (s.stallEnd n.val isFenceL)

/-- R71: the last ring access has resolved. -/
def execFenceFComplete (n : Fin 4) (s : State) : Host.Outcome State Fault Refusal :=
  if !s.start.logicUp then .next s else
  .next (s.stallEnd n.val isFenceF)

/-- R311: the wait of a stalled core ends. -/
def execSvcStallComplete (n : Fin 4) (s : State) : Host.Outcome State Fault Refusal :=
  if !s.start.logicUp then .next s else
  .next (s.stallEnd n.val (fun _ => true))

end Sys2Proof.Machine
end

