-- ==== Sys2Proof/Machine/EphExec.lean ====
section
/-! DEFINITION. The Ephemeris executes (R120 to R134): actions, chains, late and passed instances, staging and pulses. -/

namespace Sys2Proof.Machine

/-- The region of unit `u` is fenced, so that an action aimed at it is refused (R124). -/
def State.aimFenced (s : State) (u : HubUnit) : Bool := s.unitFenced u

/-- A pin takes a level from an Ephemeris action, which ends a pulse on it (R123). -/
def State.ephPin (s : State) (p : Nat) (b : Bool) : State :=
  { s.setPin p { s.pin p with ephLevel := b } with
    ephem := { s.ephem with pulses := s.ephem.pulses.filter fun x => x.pin != p } }

/-- The pin shows Ephemeris actions: it is muxed to them, in a region that is not fenced (R123, R124). -/
def State.ephDrives (s : State) (p : Nat) : Bool := s.pinMux p == 3 && !s.aimFenced (bankUnit (p / 32))

/-- CORE cycles of a pulse (R123): its width rounded up to PIN ticks of 5 ns, at least one. -/
def pulseCycles (width : Nat) : Nat := 2 * max 1 ((width + 4) / 5)

/-- PIN_PULSE on pin `p`. -/
def State.ephPulse (s : State) (p : Nat) (low : Bool) (width : Nat) : State :=
  let s := s.ephPin p (!low)
  { s with ephem := { s.ephem with pulses := s.ephem.pulses ++ [⟨p, s.now + pulseCycles width, low⟩] } }

/-- PIN_GROUP_WRITE on bank `n`: the pins of the mask that are muxed change; the action is refused if one is not (R124, log
entry 77). -/
def State.ephGroup (s : State) (n values mask : Nat) : Bool × State :=
  let ps := onesOf 32 mask
  let mine := ps.filter fun i => s.ephDrives (32 * n + i)
  (mine.length == ps.length, s.each mine fun s i => s.ephPin (32 * n + i) (values.testBit i))

/-- The 24-byte record of SAMPLE_TRIGGER and CAPTURE_MARK (R123). -/
def State.ephRecord (s : State) (e action : Nat) (f : Int) (v : Nat) : List Byte :=
  beBytes 2 e ++ [BitVec.ofNat 8 action, 0] ++ beBytes 4 (s.cycleAt f).toNat ++ beBytes 4 (wordInt (s.angleAt f)).toNat
    ++ beBytes 4 v ++ beBytes 8 (f / 65536).toNat

/-- Bytes `bs` with those of `new` at offset `o`, unless the field passes the end. -/
def overlay (bs : List Byte) (o : Nat) (new : List Byte) : List Byte :=
  if o = 0xFF ∨ bs.length < o + new.length then bs else bs.take o ++ new ++ bs.drop (o + new.length)

/-- Word `i` of template `t` (R134). -/
def State.template (s : State) (t i : Nat) : Word := s.reg (Addr.ephemTemplate (64 * t + i))

/-- FRAME_SEND: the frame of template `t`, patched and stamped; `none` when the template is empty (R134). -/
def State.ephFrame (s : State) (t : Nat) (operand : Word) (f : Int) : Option (List Byte) :=
  let h := s.template t 0
  let n := bits h 0 8
  if n < 60 ∨ 252 < n then none
  else
    let bs := (bytesBE ((List.range 63).map fun i => s.template t (i + 1))).take n
    some (overlay (overlay bs (bits h 8 8) (beBytes 4 operand.toNat)) (bits h 16 8) (beBytes 8 (f / 65536).toNat))

/-- FABRIC_WRITE (R123): a refused address and a failure are reported by R77. -/
def State.ephFabric (s : State) (e target : Nat) (off v : Word) : State :=
  let a := fabricAddr (target / 2 ^ 12 % 16) (target / 2 ^ 4 % 256) (target % 16) off.toNat
  if s.refusesAddr a .posted then (s.refuseAccess .ephem a true 8).2.postedWriteFail .ephem a 1 8 e
  else s.postWrite .ephem a v e

/-- The action of entry `e` under `w0` with the fire time `f`: whether its target performed it, and the state (R122 to
R124). A FABRIC_WRITE whose target is a register of this hub in a fenced region is reported by R77 alone (log entry 141). -/
def State.ephAct (s : State) (e : Nat) (w0 : Word) (f : Int) : Bool × State :=
  let t := ephTarget w0
  let op := (s.ephOperands e f).1
  let w6 := (s.ephOperands e f).2
  let p := t % 256
  match ephAction w0 with
  | 0x01 => if s.ephDrives p then (true, s.ephPin p true) else (false, s)
  | 0x02 => if s.ephDrives p then (true, s.ephPin p false) else (false, s)
  | 0x03 => if s.ephDrives p then (true, s.ephPulse p (t.testBit 8) op.toNat) else (false, s)
  | 0x04 => s.ephGroup (t % 8) op.toNat w6.toNat
  | 0x10 => (true, (s.assertEs (t % 32)).assertEsCores (t % 32))
  | 0x11 =>
    let n := t % 8
    if s.aimFenced (bankUnit n) then (false, s)
    else (true, s.each (onesOf 8 op.toNat) fun s k => s.engStart (8 * n + k))
  | 0x12 =>
    let g := t % 64
    if s.aimFenced (engUnit g) then (false, s) else s.engInject g (BitVec.ofNat 16 op.toNat)
  | 0x20 => (true, s.gateWrite (t % 2) (bits op 8 8) (bits op 0 8) (bits op 16 16))
  | 0x30 =>
    match s.ephFrame (t % 128) op f with
    | some bs => (true, s.swEdge bs)
    | none => (false, s)
  | 0x31 =>
    let r := s.ephRecord e 0x31 f 0
    (true, ((s.assertEs (t % 32)).assertEsCores (t % 32)).capRecord (bits op 0 4) 1 false r)
  | 0x40 => (true, s.capRecord (t % 16) 1 false (s.ephRecord e 0x40 f op.toNat))
  | 0x50 => if !s.dieLink.up then (false, s) else (!s.groupTripped (t % 8), s.groupSend (t % 8) true)
  | 0x51 => if !s.dieLink.up then (false, s) else (true, s.groupSend (t % 8) false)
  | 0x60 => (true, s.ephFabric e t w6 op)
  | _ => (false, s)

/-- The action has pin effects (R125). -/
def ephPinEffect (a : Nat) : Bool := [0x01, 0x02, 0x03, 0x04, 0x10, 0x11, 0x12, 0x31].contains a

/-- Count pin effects that share one F; the 65th sets CROWDED (R125). -/
def State.ephCrowd (s : State) (a : Nat) (f : Int) : State :=
  if !ephPinEffect a then s
  else
    let n := if s.ephem.crowdAt = some f then s.ephem.crowd + 1 else 1
    let s := { s with ephem := { s.ephem with crowdAt := some f, crowd := n } }
    if n = 65 then s.event Addr.ephemEvents 3 else s

/-- FIRE_COUNT + 1, and REFUSED as the target answered (R117, R124). -/
def State.ephFired (s : State) (e : Nat) (refused : Bool) : State :=
  let w := s.eph e 7
  s.setReg (Addr.ephemEntry e 7) (setBit (setBits w 16 16 (bits w 16 16 + 1)) 6 refused)

/-- Entry `e` performs its action under `w0` with the fire time `f`: whether its target did (R124, R125). -/
def State.ephPerform (s : State) (e : Nat) (w0 : Word) (f : Int) : Bool × State :=
  let p := (s.ephCrowd (ephAction w0) f).ephAct e w0 f
  (p.1, if p.1 then p.2 else p.2.event Addr.ephemEvents 4)

/-- Entry `e` executes with the fire time `f`, and is counted (R124, R126). -/
def State.ephExecute (s : State) (e : Nat) (f : Int) : State :=
  let p := s.ephPerform e (s.eph e 0) f
  let s := p.2.ephFired e (!p.1)
  let s := s.setEphInst e { s.ephInst e with ops := [] }
  if ephEn (s.eph e 0) then s.m1Send e else s

/-- The chain of an entry whose W0 is `w0`, after `seen` (R126): it ends at an invalid entry, as one without an action of
R122 is (log entry 139), and at a limit, which sets CHAIN_LIMIT; `n` bounds its length. -/
def State.ephRunChain (s : State) (e : Nat) (w0 : Word) (f : Int) (seen : List Nat) : Nat → State
  | 0 => if ephChain w0 then s.event Addr.ephemEvents 2 else s
  | n + 1 =>
    if !ephChain w0 then s
    else
      let k := bits (s.eph e 6) 0 12
      let w := s.eph k 0
      if seen.contains k then s.event Addr.ephemEvents 2
      else if bit (s.eph k 7) 7 || !ephActionKnown (ephAction w) then s
      else State.ephRunChain (s.ephExecute k f) k w f (k :: seen) n

/-- MISS_COUNT of the entry and EPHEM_MISS_COUNT rise by `n` (R128, R129). -/
def State.ephMiss (s : State) (e n : Nat) : State :=
  let w := s.eph e 7
  (s.setReg (Addr.ephemEntry e 7) (setBits w 8 8 (min 255 (bits w 8 8 + n)))).addTo Addr.ephemMissCount n

/-- A late instance (R128): whether it is executed, and the state; `ns` is its lateness. -/
def State.ephLateOne (s : State) (e cause ns : Nat) : Bool × State :=
  let late := ephLate (s.eph e 0)
  let s := ((s.inc Addr.ephemLateCount).setReg Addr.ephemLastLate (word (cause * 2 ^ 12 + e))).setReg Addr.ephemLateBy
    (word (min 0xFFFF_FFFF ns))
  let s := s.event Addr.ephemEvents 0
  let s := if 2 ≤ late then s.raise .ephem .ephemerisLate cause none else s
  let s := if late = 0 then s else s.setFlag (Addr.ephemEntry e 7) 4 true
  if late = 1 ∨ late = 2 then (true, s) else (false, s.ephMiss e 1)

/-- Angle instances are passed (R130, R131): UNLOCK_MODE 1, and the angle neither LOCKED nor FOLLOWING. -/
def State.ephPasses (s : State) (e : Nat) : Bool :=
  s.ephAngle e && s.flag Addr.ephemCtrl 0 && s.angle.sync != .locked && s.angle.sync != .following

/-- An instance is passed; the first of an unlocked interval with LATE 2 or 3 is told (R131). -/
def State.ephPassed (s : State) (e : Nat) : State :=
  let s := s.ephMiss e 1
  if 2 ≤ ephLate (s.eph e 0) ∧ !s.ephem.unlockTold then
    let s := { s with ephem := { s.ephem with unlockTold := true } }.event Addr.ephemEvents 5
    let s := (s.setReg Addr.ephemLastLate (word (5 * 2 ^ 12 + e))).setReg Addr.ephemLateBy 0
    s.raise .ephem .ephemerisLate 5 none
  else s

/-- The fire time of instance `k` is not after the present time. -/
def State.ephPast (s : State) (e k : Nat) : Bool :=
  match s.fireTime e k with
  | some f => decide (f ≤ s.time16)
  | none => false

/-- The latest instance due, from `k` on (R129): found from the spacing of the instances, which is even. -/
def State.ephLatest (s : State) (e k : Nat) : Nat :=
  if ephType (s.eph e 0) < 2 then k
  else
    match s.fireTime e k, s.fireTime e (k + 1) with
    | some a, some b =>
      if b ≤ a ∨ s.time16 < a then k
      else
        let j := k + Int.toNat ((s.time16 - a) / (b - a))
        if s.ephPast e (j + 1) then j + 1 else if s.ephPast e j then j else j - 1
    | _, _ => k

/-- The entry's next instance after `k` (R118, R129): the single one of types 0 and 1 is over, with DONE. -/
def State.ephAdvance (s : State) (e k : Nat) : State :=
  if ephType (s.eph e 0) < 2 then (s.setFlag (Addr.ephemEntry e 7) 5 true).setEphInst e
    { k := k, ended := true, ops := (s.ephInst e).ops }
  else s.setEphInst e { k := k + 1, shift := (s.ephInst e).shift, ops := (s.ephInst e).ops }

/-- The instance `k` of entry `e` with fire time `f` is issued, on time or late with a cause (R127, R128), with its
chain. EPHEM_LATE_BY is the lateness in whole ns, rounded down (log entry 140). -/
def State.ephIssue (s : State) (e : Nat) (f : Int) (cause : Nat) : State :=
  let w0 := s.eph e 0
  if cause = 0 then
    ((s.setFlag (Addr.ephemEntry e 7) 4 false).ephExecute e f).ephRunChain e w0 f [e] 15
  else
    let p := s.ephLateOne e cause (s.lateness f / 65536)
    if p.1 then (p.2.ephExecute e f).ephRunChain e w0 f [e] 15 else p.2.m1Send e

/-- The due instances of entry `e` are handled (R128 to R131). -/
def State.ephFire (s : State) (e : Nat) : State :=
  let x := s.ephInst e
  let k := if x.fixed.isSome then x.k else s.ephLatest e x.k
  match (match x.fixed with | some f => some f | none => s.fireTime e k) with
  | none => s
  | some f =>
    let s := if x.k < k ∧ !s.ephPasses e then s.ephMiss e (k - x.k) else s
    if s.ephPasses e then
      (((s.each (List.range (k + 1 - x.k)) fun s _ => s.ephPassed e).ephAdvance e k).m1Send e)
    else
      let cause := if x.late ≠ 0 then x.late
        else if x.k < k ∨ s.field Addr.ephemCtrl 4 12 * 65536 < s.lateness f then 4 else 0
      (s.ephAdvance e k).ephIssue e f cause

/-- The instance that a W0 write left to execute under the old W0 does so; it is not counted (R118). -/
def State.ephFireOld (s : State) (e : Nat) : State :=
  match (s.ephInst e).old with
  | some (f, w0) =>
    ((s.setEphInst e { s.ephInst e with old := none }).ephPerform e w0 f).2.ephRunChain e w0 f [e] 15
  | none => s

/-- The entries before `e` in the table whose due instance has the fire time of its own, in table order. -/
def State.ephTies (s : State) (e : Nat) : List Nat :=
  s.ephListed.filter fun k => decide (k < e) && s.ephDue k && s.nextFire k == s.nextFire e

/-- The due instance of entry `e` is handled, after those of lower index with the same fire time (R78, R125). -/
def State.ephFireAll (s : State) (e : Nat) : State :=
  s.each (s.ephTies e ++ [e]) fun s k => if s.ephDue k then s.ephFire k else s

/-- R125: at F the next instance of entry `e` is issued, handled late or passed. -/
def execEphemInstanceFire (e : Fin 4096) (s : State) : Host.Outcome State Fault Refusal :=
  if !s.start.logicUp then .next s else
  if !s.ephRuns then .next s
  else
    let s := s.ephFireOld e.val
    if s.ephDue e.val then .next (s.ephFireAll e.val) else .next s

/-- R127: 10 µs before F the next instance is staged. -/
def execEphemStage (e : Fin 4096) (s : State) : Host.Outcome State Fault Refusal :=
  if !s.start.logicUp then .next s else
  if s.ephInWindow e.val then .next (s.setEphInst e.val { s.ephInst e.val with staged := true }) else .next s

/-- R123: the pulse on a pin ends. -/
def execPinPulseEnd (pin : Fin 256) (s : State) : Host.Outcome State Fault Refusal :=
  if !s.start.logicUp then .next s else
  match s.ephem.pulses.find? fun x => x.pin == pin.val with
  | none => .next s
  | some x => .next (s.ephPin pin.val x.level)

end Sys2Proof.Machine
end

