-- ==== Sys2Proof/Machine/HostExec.lean ====
section
/-! DEFINITION. The host port (chapter 20): requests through the fabric windows, MSI-X messages, DMA channels, and the
PCIe link. -/

namespace Sys2Proof.Machine

/-- The KIND with which a request of `bytes` bytes through a fabric window is refused, the lowest code first (R453, R38);
`full`: every byte enable is set. Before release the host reaches no location but registers of this hub (R404). -/
def State.windowKind (s : State) (w : Nat) (fa : FabricAddr) (off : BitVec 28) (isWrite : Bool) (bytes : Nat) (full : Bool) :
    Option Nat :=
  if bytes < 4 ∨ !full then some 1
  else if (if faSpace fa = 0 then 4 else 256) < bytes then some 2
  else if off.toNat % 4 ≠ 0 ∨ bytes % 4 ≠ 0 then some 3
  else if !s.start.released && !(s.isOwn fa && faSpace fa == 0) then some 4
  else if !s.flag (Addr.hostXlatLo w) 0 || s.refusesAddr fa (if isWrite then .posted else .read) then some 8
  else none

/-- The fabric address of offset `off` of BAR 2 (R453). -/
def State.windowAddr (s : State) (off : BitVec 28) : FabricAddr :=
  let w := bits off 24 4
  BitVec.ofNat 48 (s.field (Addr.hostXlatHi w) 0 16 * 2 ^ 32 + s.field (Addr.hostXlatLo w) 24 8 * 2 ^ 24 + bits off 0 24)

/-- The request goes to its fabric address (R453): a word of this hub's registers at once, all else as one ring
transaction. -/
def State.windowSend (s : State) (fa : FabricAddr) (isWrite : Bool) (count : Nat) (data : List Word) : State :=
  let ws := (List.range count).map fun k => data.getD k 0
  if s.isOwn fa && faSpace fa == 0 then
    let p := s.access .host (localFabric (faOffset fa)) (faOffset fa) 4 isWrite (ws.getD 0 0)
    p.2.answer .host fa.toNat p.1
  else if isWrite then s.issueTxn .posted .host fa count ws (postClass fa) 0
  else s.issueTxn .read .host fa count [] .c 0

/-- R453: a request through BAR 2; the host has no credit for a read while the hub holds 32 of its loads (R255). -/
def execHostFabricRequest (off : BitVec 28) (isWrite : Bool) (bytes : Nat) (full : Bool) (data : List Word) (s : State) :
    Host.Outcome State Fault Refusal :=
  if !s.start.logicUp then .next s else
  let fa := s.windowAddr off
  match s.windowKind (bits off 24 4) fa off isWrite bytes full with
  | some k =>
    let p := s.refuseAccess .host fa isWrite k
    .next (p.2.answer .host fa.toNat p.1)
  | none =>
    if !isWrite && decide (32 ≤ s.hostLoads) then .next s
    else .next (s.windowSend fa isWrite (bytes / 4) data)

/-- R456: a pending vector sends its message when neither it nor the function is masked. -/
def execMsixSend (v : Fin 64) (s : State) : Host.Outcome State Fault Refusal :=
  if !s.start.logicUp then .next s else
  let c := s.host.config
  if bit s.host.pba v.val && c.msixEn && !c.maskAll && !s.flag (Addr.msix v.val 3) 0 then
    .next ({ s with host := { s.host with pba := setBit s.host.pba v.val false } }.emit (.msix v.val))
  else .next s

/-- A channel stops with ERROR and its cause (R461). -/
def State.dmaFail (s : State) (c cause : Nat) : State :=
  let s := s.dmaAbort c
  (s.setDma c { s.dma c with running := false, cause := cause }).dmaEvent c 1

/-- The channel may move words: it runs, in the direction given. -/
def State.dmaRuns (s : State) (c : Nat) (toQueue : Bool) : Bool :=
  s.enabled .host && s.dmaEn c && (s.dma c).running && (s.flag (Addr.hostDmaCtrl c) 6 == toQueue)

/-- Descriptors in the ring (R457), and whether one is given. -/
def State.dmaRing (s : State) (c : Nat) : Nat := 2 ^ clamp 4 12 (s.field (Addr.hostDmaSize c) 0 4)
def State.dmaGiven (s : State) (c : Nat) : Bool :=
  (s.dma c).head % s.dmaRing c != s.field (Addr.hostDmaTail c) 0 12 % s.dmaRing c

/-- A descriptor is in order (R461). -/
def descOk (addr : Dword) (ctl : Word) : Bool := addr.toNat % 4 == 0 && bits ctl 0 16 % 4 == 0 && bits ctl 0 16 != 0

/-- Address of word 3 of the descriptor at HEAD (R457). -/
def State.dmaStatusAt (s : State) (c : Nat) : Dword :=
  BitVec.ofNat 64 ((s.reg (Addr.hostDmaRingLo c)).toNat + (s.reg (Addr.hostDmaRingHi c)).toNat * 2 ^ 32
    + 16 * (s.dma c).head + 12)

/-- STARVED is set while the ring is empty and a packet is available (R458). -/
def State.dmaStarve (s : State) (c : Nat) : State :=
  if !s.dmaGiven c && s.qAvail (s.dmaQueue c) && s.qConsumer (s.dmaQueue c) == sourceId .host
      && !s.flag (Addr.hostDmaStatus c) 2 then s.dmaEvent c 2
  else s

/-- The buffer ends: status write, HEAD, and DONE where IRQ asks for it (R457, R460). -/
def State.dmaDone (s : State) (c : Nat) (ctl : Word) (moved : Nat) (last abort : Bool) : State :=
  let w := moved + ofBool last * 2 ^ 16 + ofBool abort * 2 ^ 17 + 2 ^ 31
  let s := s.emit (.hostWrite (s.dmaStatusAt c) (leBytes 4 w))
  let x := s.dma c
  let s := s.setDma c { x with head := (x.head + 1) % s.dmaRing c, desc := none, moved := 0 }
  if bit ctl 18 then s.dmaEvent c 0 else s

/-- The bytes of a word in host memory (R458). -/
def State.dmaBytes (s : State) (c : Nat) (v : Word) : List Byte :=
  if s.flag (Addr.hostDmaCtrl c) 7 then beBytes 4 v.toNat else leBytes 4 v.toNat

/-- Words move into the buffer until it ends or no word is available (R458); `n` bounds their number. -/
def State.dmaFill (s : State) (c : Nat) (addr : Dword) (ctl : Word) : Nat → State
  | 0 => s
  | n + 1 =>
    match s.qTakeAs (s.dmaQueue c) (sourceId .host) with
    | none => s
    | some (w, s) =>
      let moved := (s.dma c).moved
      if w.mark == .abort then s.dmaDone c ctl moved false true
      else
        let s := s.emit (.hostWrite (addr + BitVec.ofNat 64 moved) (s.dmaBytes c w.v))
        let s := s.setDma c { s.dma c with moved := moved + 4 }
        if w.mark == .last ∨ bits ctl 0 16 ≤ moved + 4 then s.dmaDone c ctl (moved + 4) (w.mark == .last) false
        else State.dmaFill s c addr ctl n

/-- R458: a to-host channel reads the descriptor at HEAD and moves what its queue has; the same again goes on with the
buffer. -/
def execDmaToHostBuffer (c : Fin 8) (addr : Dword) (ctl : Word) (s : State) : Host.Outcome State Fault Refusal :=
  if !s.start.logicUp then .next s else
  let c := c.val
  if !s.dmaRuns c false then .next s
  else if !s.dmaGiven c then .next (s.dmaStarve c)
  else
    let d := ((s.dma c).desc).getD (addr, ctl)
    if !descOk d.1 d.2 then .next (s.dmaFail c 3)
    else
      let t := s.setDma c { s.dma c with desc := some d }
      .next ((t.dmaFill c d.1 d.2 (bits d.2 0 16 / 4 + 1)).dmaStarve c)

/-- The channel's held words are offered; a word refused by a full queue stays held, one that the queue does not take
from this producer is lost (R333, R459). -/
def State.dmaOffer (s : State) (c : Nat) : List (Word × Mark) → State
  | [] => s.setDma c { s.dma c with wait := [] }
  | (v, m) :: r =>
    let q := s.dmaQueue c
    let p := s.qOffer q (sourceId .host) v m
    if p.1 then State.dmaOffer (p.2.setDma c { p.2.dma c with part := m == .data }) c r
    else if s.qOpen q && s.qProducer q == sourceId .host then p.2.setDma c { p.2.dma c with wait := (v, m) :: r }
    else State.dmaOffer p.2 c r

/-- The words of a to-queue buffer with their marks (R459). -/
def State.dmaWords (s : State) (c : Nat) (ctl : Word) (bytes : List Byte) : List (Word × Mark) :=
  let bs := bytes.take (bits ctl 0 16)
  let ws := if s.flag (Addr.hostDmaCtrl c) 7 then wordsBE bs else wordsOfBytes bs
  (if bit ctl 16 then packet ws else ws.map fun v => (v, .data)) ++ (if bit ctl 17 then [(0, .abort)] else [])

/-- R459: a to-queue channel reads a buffer and offers its words; words held for a full queue are offered again first, and
the buffer ends with the last of them. -/
def execDmaToQueueBuffer (c : Fin 8) (addr : Dword) (ctl : Word) (bytes : List Byte) (s : State) :
    Host.Outcome State Fault Refusal :=
  if !s.start.logicUp then .next s else
  let c := c.val
  if !s.dmaRuns c true || !s.dmaGiven c then .next s
  else
    let d := ((s.dma c).desc).getD (addr, ctl)
    if !descOk d.1 d.2 then .next (s.dmaFail c 3)
    else
      let ws := if (s.dma c).desc.isSome then (s.dma c).wait else s.dmaWords c d.2 bytes
      let t := (s.setDma c { s.dma c with desc := some d }).dmaOffer c ws
      .next (if (t.dma c).wait.isEmpty then t.dmaDone c d.2 (bits d.2 0 16) (bit d.2 16) (bit d.2 17) else t)

/-- R461: a completion with error status (1, 2), a bad descriptor (3), or Bus Master Enable cleared (4). -/
def execDmaError (c : Fin 8) (cause : Fin 5) (s : State) : Host.Outcome State Fault Refusal :=
  if !s.start.logicUp then .next s else
  if s.dmaEn c.val && (s.dma c.val).running && cause != 0 then .next (s.dmaFail c.val cause.val) else .next s

/-- R462: the PCIe link has come up or gone down, or the host has changed the function's configuration; clearing Bus
Master Enable stops every channel (R461). The unit trains once the fuses are loaded (R410). -/
def execPcieLinkChange (up : Bool) (config : PcieConfig) (s : State) : Host.Outcome State Fault Refusal :=
  if up && !(s.host.perst && s.start.logicUp && decide (4 ≤ s.start.phase)) then .next s
  else
    let was := s.host
    let s := { s with host := { s.host with up := up, config := config } }
    let s := if up == was.up then s else s.eventIrq 2 7 Addr.hostEvents (if up then 0 else 1)
    .next (if was.config.busMaster && !config.busMaster then
        s.each (List.range 8) fun s c => if s.dmaEn c && (s.dma c).running then s.dmaFail c 4 else s
      else s)

end Sys2Proof.Machine
end

