-- ==== Sys2Proof/Machine/Mgmt.lean ====
section
/-! DEFINITION. The management port (R463 to R467): its commands, their check, and its status bytes. -/

namespace Sys2Proof.Machine

/-- The bytes of a command before its CRC, multi-byte fields most significant byte first (R464). -/
def mgmtBytes : MgmtCmd → List Byte
  | .read a _ => 0x0B :: beBytes 3 a.toNat
  | .write a v _ => 0x02 :: (beBytes 3 a.toNat ++ beBytes 4 v.toNat)
  | .paired a v w _ => 0x22 :: (beBytes 3 a.toNat ++ beBytes 4 v.toNat ++ beBytes 4 w.toNat)

/-- The CRC byte received, and the address. -/
def mgmtCrc : MgmtCmd → Byte
  | .read _ c => c | .write _ _ c => c | .paired _ _ _ c => c
def mgmtAddr : MgmtCmd → Nat
  | .read a _ => a.toNat | .write a _ _ => a.toNat | .paired a _ _ _ => a.toNat

/-- A falling chip select wakes a hub that hibernates with MGMT_EN (R415, R466). -/
def State.mgmtSelect (s : State) : State := if s.flag Addr.cometHibCtrl 10 then s.wake 3 4 else s

/-- The location is served: COMET always, all else from release on (R467). -/
def State.mgmtServes (s : State) (a : Nat) : Bool :=
  decide (0xC0_0000 ≤ a ∧ a < 0xC1_0000)
    || (s.start.logicUp && s.start.released && (s.comet.power == .run || s.comet.power == .entering))

/-- A register access of the management port: its end, and the state. -/
def State.mgmtAccess (s : State) (use : HeldUse) (a : Nat) (isWrite : Bool) (v : Word) : AccessResult × State :=
  s.accessAs use .mgmt (localFabric a) a 4 isWrite v s.bridge.order

/-- A status byte with the data read; none while the access is held. -/
def mgmtResult (r : AccessResult) : Option (Byte × Option Word) :=
  if r = .wait then none else some (statusByte r, r.word?)

/-- Both words of a pair are presented (R464): one status byte, once neither is held any more. -/
def State.mgmtPaired (s : State) (use : HeldUse) (a : Nat) (v w : Word) : Option (Byte × Option Word) × State :=
  let p := s.mgmtAccess use a true v
  let q := p.2.mgmtAccess use (a + 4) true w
  let bad (r : AccessResult) : Bool := r != .wait && statusByte r != 0xC0
  let left := ([p.1, q.1].filter fun r => r == .wait).length
  let err := bad p.1 || bad q.1
  if left = 0 then (some (if err then 0xC1 else 0xC0, none), q.2)
  else (none, { q.2 with mgmt := { q.2.mgmt with pairLeft := left, pairErr := err } })

/-- A command that passed its checks is carried out (R464); `lost`: its answer is lost (R466). -/
def State.mgmtRun (s : State) (lost : Bool) (c : MgmtCmd) : Option (Byte × Option Word) × State :=
  let use (u : HeldUse) : HeldUse := if lost then .silent else u
  match c with
  | .read a _ => let p := s.mgmtAccess (use .mgmtRead) a.toNat false 0; (mgmtResult p.1, p.2)
  | .write a v _ => let p := s.mgmtAccess (use .mgmtWrite) a.toNat true v; (mgmtResult p.1, p.2)
  | .paired a v w _ => s.mgmtPaired (use .mgmtPair) a.toNat v w

/-- Checks and effect of a command (R465, R467): the status byte and data read; none while an access is held. -/
def State.mgmtDo (s : State) (lost : Bool) (c : MgmtCmd) : Option (Byte × Option Word) × State :=
  if crc8 (mgmtBytes c) != mgmtCrc c || mgmtAddr c % 4 != 0 then (some (0xC3, none), s)
  else if !s.mgmtServes (mgmtAddr c) then (some (0xC2, none), s)
  else s.mgmtRun lost c

/-- R464: a READ command. -/
def execMgmtRead (addr : BitVec 24) (crc : Byte) (s : State) : Host.Outcome State Fault Refusal :=
  if !s.comet.vaon then .next s
  else
    let p := s.mgmtSelect.mgmtDo false (.read addr crc)
    match p.1 with
    | some r => .next (p.2.mgmtReadAnswer r.1 r.2)
    | none => .next p.2

/-- A command that answers a status byte alone. -/
def State.mgmtStatusOnly (s : State) (c : MgmtCmd) : State :=
  let p := s.mgmtSelect.mgmtDo false c
  match p.1 with
  | some r => p.2.emit (.mgmt [r.1])
  | none => p.2

/-- R464: a WRITE command. -/
def execMgmtWrite (addr : BitVec 24) (v : Word) (crc : Byte) (s : State) : Host.Outcome State Fault Refusal :=
  if !s.comet.vaon then .next s else .next (s.mgmtStatusOnly (.write addr v crc))

/-- R464: a PAIRED WRITE command. -/
def execMgmtPairedWrite (addr : BitVec 24) (v w : Word) (crc : Byte) (s : State) : Host.Outcome State Fault Refusal :=
  if !s.comet.vaon then .next s else .next (s.mgmtStatusOnly (.paired addr v w crc))

/-- R464, R465: STATUS, or an unknown command byte; a known command with nothing after it has too few bytes. -/
def execMgmtStatus (cmd : Byte) (s : State) : Host.Outcome State Fault Refusal :=
  if !s.comet.vaon then .next s
  else
    let t := s.mgmtSelect
    if cmd = 0x05 then .next (t.emit (.mgmt [BitVec.ofNat 8 (bits t.mgmtStatusWord 0 8)]))
    else if cmd = 0x0B ∨ cmd = 0x02 ∨ cmd = 0x22 then .next (t.emit (.mgmt [0xC3]))
    else .next (t.emit (.mgmt [0xC4]))

/-- R466: the chip select rises before the CRC byte is complete, or after it (the command given) but before the status
byte. -/
def execMgmtCsRiseEarly (c : Option MgmtCmd) (s : State) : Host.Outcome State Fault Refusal :=
  if !s.comet.vaon then .next s
  else
    let t := s.mgmtSelect
    match c with
    | none => .next (t.event Addr.cometMgmtEvents 4)
    | some c => .next ((t.mgmtDo true c).2.event Addr.cometMgmtEvents 5)

end Sys2Proof.Machine
end

