-- ==== Sys2Proof/Machine/Dispatch.lean ====
section
/-! DEFINITION. The dispatch of a command to its meaning, one arm for each constructor. -/

namespace Sys2Proof.Machine

def exec (i : Instr) (s : State) : Host.Outcome State Fault Refusal :=
  match i with
  | .registerWrite who addr size v => Sys2Proof.Machine.execRegisterWrite who addr size v s
  | .unitReset who u v => Sys2Proof.Machine.execUnitReset who u v s
  | .unitResetComplete u => Sys2Proof.Machine.execUnitResetComplete u s
  | .unitEnableWrite who u v => Sys2Proof.Machine.execUnitEnableWrite who u v s
  | .readLowWordLatch who addr => Sys2Proof.Machine.execReadLowWordLatch who addr s
  | .writeLowWordStage who addr v => Sys2Proof.Machine.execWriteLowWordStage who addr v s
  | .writeHighWordCommit who addr v => Sys2Proof.Machine.execWriteHighWordCommit who addr v s
  | .sqClearWrite who addr v => Sys2Proof.Machine.execSqClearWrite who addr v s
  | .guardValueWrite who addr v => Sys2Proof.Machine.execGuardValueWrite who addr v s
  | .guardExpiry addr => Sys2Proof.Machine.execGuardExpiry addr s
  | .cfgCrcScanComplete => Sys2Proof.Machine.execCfgCrcScanComplete s
  | .cfgCrcRefCommit who compl => Sys2Proof.Machine.execCfgCrcRefCommit who compl s
  | .regionFence who compl => Sys2Proof.Machine.execRegionFence who compl s
  | .regionRelease who compl => Sys2Proof.Machine.execRegionRelease who compl s
  | .regionReloadComplete r => Sys2Proof.Machine.execRegionReloadComplete r s
  | .dieLinkParityError power => Sys2Proof.Machine.execDieLinkParityError power s
  | .dieLinkLost => Sys2Proof.Machine.execDieLinkLost s
  | .linkLossHoldExpiry => Sys2Proof.Machine.execLinkLossHoldExpiry s
  | .dieLinkRecover => Sys2Proof.Machine.execDieLinkRecover s
  | .fenceL n => Sys2Proof.Machine.execFenceL n s
  | .fenceLComplete n => Sys2Proof.Machine.execFenceLComplete n s
  | .fenceF n => Sys2Proof.Machine.execFenceF n s
  | .fenceFComplete n => Sys2Proof.Machine.execFenceFComplete n s
  | .hostFenceMark v => Sys2Proof.Machine.execHostFenceMark v s
  | .hostFenceRead => Sys2Proof.Machine.execHostFenceRead s
  | .hostFenceReadComplete => Sys2Proof.Machine.execHostFenceReadComplete s
  | .timeStep who compl => Sys2Proof.Machine.execTimeStep who compl s
  | .timeRateWrite who v => Sys2Proof.Machine.execTimeRateWrite who v s
  | .timeNowRead who => Sys2Proof.Machine.execTimeNowRead who s
  | .timeSourceWrite who v => Sys2Proof.Machine.execTimeSourceWrite who v s
  | .servoMeasurement source theta => Sys2Proof.Machine.execServoMeasurement source theta s
  | .slewTermExpiry => Sys2Proof.Machine.execSlewTermExpiry s
  | .timeSourceLossTimeout => Sys2Proof.Machine.execTimeSourceLossTimeout s
  | .clockLaneLoss l => Sys2Proof.Machine.execClockLaneLoss l s
  | .clockLaneReturn l => Sys2Proof.Machine.execClockLaneReturn l s
  | .clockDirReturn => Sys2Proof.Machine.execClockDirReturn s
  | .lineWindowComplete count => Sys2Proof.Machine.execLineWindowComplete count s
  | .timeBeaconSend => Sys2Proof.Machine.execTimeBeaconSend s
  | .timeBeaconReceive stamp => Sys2Proof.Machine.execTimeBeaconReceive stamp s
  | .ptpMessageReceive p m stamp => Sys2Proof.Machine.execPtpMessageReceive p m stamp s
  | .ptpMessageSend p => Sys2Proof.Machine.execPtpMessageSend p s
  | .irigBFrameReceive k f edge => Sys2Proof.Machine.execIrigBFrameReceive k f edge s
  | .tinPpsEdge k edge => Sys2Proof.Machine.execTinPpsEdge k edge s
  | .ppsOutSecond => Sys2Proof.Machine.execPpsOutSecond s
  | .ppsOutWidthEnd => Sys2Proof.Machine.execPpsOutWidthEnd s
  | .anglePinCrossing pin edge => Sys2Proof.Machine.execAnglePinCrossing pin edge s
  | .angleSvStageWrite who addr v => Sys2Proof.Machine.execAngleSvStageWrite who addr v s
  | .angleSvPush who v => Sys2Proof.Machine.execAngleSvPush who v s
  | .angleTrackTimeout => Sys2Proof.Machine.execAngleTrackTimeout s
  | .angleBeaconReceive => Sys2Proof.Machine.execAngleBeaconReceive s
  | .angleBeaconLossTimeout => Sys2Proof.Machine.execAngleBeaconLossTimeout s
  | .angleNowRead who => Sys2Proof.Machine.execAngleNowRead who s
  | .angleCtrlWrite who v => Sys2Proof.Machine.execAngleCtrlWrite who v s
  | .ephemW0Write who e v => Sys2Proof.Machine.execEphemW0Write who e v s
  | .ephemWordWrite who e w v => Sys2Proof.Machine.execEphemWordWrite who e w v s
  | .ephemStage e => Sys2Proof.Machine.execEphemStage e s
  | .ephemInstanceFire e => Sys2Proof.Machine.execEphemInstanceFire e s
  | .pinPulseEnd pin => Sys2Proof.Machine.execPinPulseEnd pin s
  | .ephemCtrlWrite who v => Sys2Proof.Machine.execEphemCtrlWrite who v s
  | .pinCfgWrite who pin v => Sys2Proof.Machine.execPinCfgWrite who pin v s
  | .pinInputChange pin level => Sys2Proof.Machine.execPinInputChange pin level s
  | .pinEdgeAccept pin => Sys2Proof.Machine.execPinEdgeAccept pin s
  | .eventRecordDrain n => Sys2Proof.Machine.execEventRecordDrain n s
  | .chatterWindowExpiry pin => Sys2Proof.Machine.execChatterWindowExpiry pin s
  | .chatterRelease pin => Sys2Proof.Machine.execChatterRelease pin s
  | .bankVmismatch n => Sys2Proof.Machine.execBankVmismatch n s
  | .bankVokRecover n => Sys2Proof.Machine.execBankVokRecover n s
  | .bankEngStart who n v => Sys2Proof.Machine.execBankEngStart who n v s
  | .bankEngStop who n v => Sys2Proof.Machine.execBankEngStop who n v s
  | .pNop e => Sys2Proof.Machine.execPNop e s
  | .pStop e => Sys2Proof.Machine.execPStop e s
  | .pSho e => Sys2Proof.Machine.execPSho e s
  | .pShi e levels => Sys2Proof.Machine.execPShi e levels s
  | .pFetch e => Sys2Proof.Machine.execPFetch e s
  | .pStore e => Sys2Proof.Machine.execPStore e s
  | .pWait e => Sys2Proof.Machine.execPWait e s
  | .pJmp e => Sys2Proof.Machine.execPJmp e s
  | .pAddi e => Sys2Proof.Machine.execPAddi e s
  | .pMov e => Sys2Proof.Machine.execPMov e s
  | .pSetp e => Sys2Proof.Machine.execPSetp e s
  | .pClkset e => Sys2Proof.Machine.execPClkset e s
  | .pEvt e => Sys2Proof.Machine.execPEvt e s
  | .pStamp e => Sys2Proof.Machine.execPStamp e s
  | .engineWaitResume e => Sys2Proof.Machine.execEngineWaitResume e s
  | .engineStallResume e levels => Sys2Proof.Machine.execEngineStallResume e levels s
  | .engPcWrite who e v => Sys2Proof.Machine.execEngPcWrite who e v s
  | .engCtrlWrite who e v => Sys2Proof.Machine.execEngCtrlWrite who e v s
  | .engInjectWrite who e v => Sys2Proof.Machine.execEngInjectWrite who e v s
  | .injectedInstructionExecute e levels => Sys2Proof.Machine.execInjectedInstructionExecute e levels s
  | .engTxfWrite who e v => Sys2Proof.Machine.execEngTxfWrite who e v s
  | .engRxfRead who e => Sys2Proof.Machine.execEngRxfRead who e s
  | .engTxqFill e => Sys2Proof.Machine.execEngTxqFill e s
  | .engRxqDrain e => Sys2Proof.Machine.execEngRxqDrain e s
  | .canInitSet who n v => Sys2Proof.Machine.execCanInitSet who n v s
  | .canInitClear who n v => Sys2Proof.Machine.execCanInitClear who n v s
  | .canRecover who n v => Sys2Proof.Machine.execCanRecover who n v s
  | .canSleepReq who n v => Sys2Proof.Machine.execCanSleepReq who n v s
  | .canSleepReqClear who n v => Sys2Proof.Machine.execCanSleepReqClear who n v s
  | .canIntegrationComplete n => Sys2Proof.Machine.execCanIntegrationComplete n s
  | .canRecoveryComplete n => Sys2Proof.Machine.execCanRecoveryComplete n s
  | .canSleepEnter n => Sys2Proof.Machine.execCanSleepEnter n s
  | .canTxStart n => Sys2Proof.Machine.execCanTxStart n s
  | .canArbitrationLost n => Sys2Proof.Machine.execCanArbitrationLost n s
  | .canTxComplete n tdc => Sys2Proof.Machine.execCanTxComplete n tdc s
  | .canProtocolError n lec x => Sys2Proof.Machine.execCanProtocolError n lec x s
  | .canFrameReceive n f sof => Sys2Proof.Machine.execCanFrameReceive n f sof s
  | .canTxadd who n v => Sys2Proof.Machine.execCanTxadd who n v s
  | .canTxcancel who n v => Sys2Proof.Machine.execCanTxcancel who n v s
  | .canRxWord0Read who n => Sys2Proof.Machine.execCanRxWord0Read who n s
  | .canRxLastWordRead who n => Sys2Proof.Machine.execCanRxLastWordRead who n s
  | .canWakeDominant n => Sys2Proof.Machine.execCanWakeDominant n s
  | .canWakeFrameDecode n f => Sys2Proof.Machine.execCanWakeFrameDecode n f s
  | .uartTxfWrite who u v => Sys2Proof.Machine.execUartTxfWrite who u v s
  | .uartRxfRead who u => Sys2Proof.Machine.execUartRxfRead who u s
  | .uartTxFrameStart u => Sys2Proof.Machine.execUartTxFrameStart u s
  | .uartCharSent u => Sys2Proof.Machine.execUartCharSent u s
  | .uartDeLagEnd u => Sys2Proof.Machine.execUartDeLagEnd u s
  | .uartCharReceive u c gap => Sys2Proof.Machine.execUartCharReceive u c gap s
  | .uartEchoTimeout u => Sys2Proof.Machine.execUartEchoTimeout u s
  | .uartFrameGapExpiry u => Sys2Proof.Machine.execUartFrameGapExpiry u s
  | .uartTxqFill u => Sys2Proof.Machine.execUartTxqFill u s
  | .linkTrainStart who addr v => Sys2Proof.Machine.execLinkTrainStart who addr v s
  | .linkClockLocked l => Sys2Proof.Machine.execLinkClockLocked l s
  | .linkBitAlignDone l => Sys2Proof.Machine.execLinkBitAlignDone l s
  | .linkSymbolLocked l => Sys2Proof.Machine.execLinkSymbolLocked l s
  | .linkDeskewed l lanes skew => Sys2Proof.Machine.execLinkDeskewed l lanes skew s
  | .linkConfigDone l id => Sys2Proof.Machine.execLinkConfigDone l id s
  | .linkTrainTimeout l => Sys2Proof.Machine.execLinkTrainTimeout l s
  | .linkTrainQuietEnd l => Sys2Proof.Machine.execLinkTrainQuietEnd l s
  | .linkTs1Receive l => Sys2Proof.Machine.execLinkTs1Receive l s
  | .linkSkpSend l => Sys2Proof.Machine.execLinkSkpSend l s
  | .linkSkpReceive l delta => Sys2Proof.Machine.execLinkSkpReceive l delta s
  | .linkAmSend l stamp => Sys2Proof.Machine.execLinkAmSend l stamp s
  | .linkAmReceive l m stamp aligned => Sys2Proof.Machine.execLinkAmReceive l m stamp aligned s
  | .linkFrameReceive l rp lseq f => Sys2Proof.Machine.execLinkFrameReceive l rp lseq f s
  | .linkAckReceive l lanes => Sys2Proof.Machine.execLinkAckReceive l lanes s
  | .linkNakReceive l lanes => Sys2Proof.Machine.execLinkNakReceive l lanes s
  | .linkReplayTimerExpiry l => Sys2Proof.Machine.execLinkReplayTimerExpiry l s
  | .linkReplayExhausted l => Sys2Proof.Machine.execLinkReplayExhausted l s
  | .linkBerWindowEnd l lanes => Sys2Proof.Machine.execLinkBerWindowEnd l lanes s
  | .linkLoopbackWrite who l v => Sys2Proof.Machine.execLinkLoopbackWrite who l v s
  | .linkTestWrite who l v => Sys2Proof.Machine.execLinkTestWrite who l v s
  | .bypassCtrlWrite who v => Sys2Proof.Machine.execBypassCtrlWrite who v s
  | .bypassJoinStart => Sys2Proof.Machine.execBypassJoinStart s
  | .bypassSettleEnd => Sys2Proof.Machine.execBypassSettleEnd s
  | .bypassJoinTimeout => Sys2Proof.Machine.execBypassJoinTimeout s
  | .bypassDownHoldExpiry => Sys2Proof.Machine.execBypassDownHoldExpiry s
  | .ringFrameArrive port x used residence => Sys2Proof.Machine.execRingFrameArrive port x used residence s
  | .ringFrameCommit port => Sys2Proof.Machine.execRingFrameCommit port s
  | .ringJoinReceive => Sys2Proof.Machine.execRingJoinReceive s
  | .ringLeaveReceive => Sys2Proof.Machine.execRingLeaveReceive s
  | .ringBreakReceive => Sys2Proof.Machine.execRingBreakReceive s
  | .ringHealReceive => Sys2Proof.Machine.execRingHealReceive s
  | .ringRejoin who compl => Sys2Proof.Machine.execRingRejoin who compl s
  | .ringLeave who compl => Sys2Proof.Machine.execRingLeave who compl s
  | .ringLeaveComplete => Sys2Proof.Machine.execRingLeaveComplete s
  | .reorderHoldExpiry => Sys2Proof.Machine.execReorderHoldExpiry s
  | .bridgePairFrameReceive x => Sys2Proof.Machine.execBridgePairFrameReceive x s
  | .bridgeRecordExpiry => Sys2Proof.Machine.execBridgeRecordExpiry s
  | .ringRequestReceive => Sys2Proof.Machine.execRingRequestReceive s
  | .bridgeFetchRetry slot => Sys2Proof.Machine.execBridgeFetchRetry slot s
  | .bridgeFetchComplete slot ok => Sys2Proof.Machine.execBridgeFetchComplete slot ok s
  | .bridgeHoldExpiry slot => Sys2Proof.Machine.execBridgeHoldExpiry slot s
  | .bridgeWriteBufferAccept port => Sys2Proof.Machine.execBridgeWriteBufferAccept port s
  | .ringResponseReceive => Sys2Proof.Machine.execRingResponseReceive s
  | .bridgeRetryGapExpiry tag => Sys2Proof.Machine.execBridgeRetryGapExpiry tag s
  | .txnResponseTimeout tag => Sys2Proof.Machine.execTxnResponseTimeout tag s
  | .txnDeadlineExpiry tag => Sys2Proof.Machine.execTxnDeadlineExpiry tag s
  | .tagQuarantineEnd tag => Sys2Proof.Machine.execTagQuarantineEnd tag s
  | .semaphoreRead who n => Sys2Proof.Machine.execSemaphoreRead who n s
  | .semaphoreWrite who n v => Sys2Proof.Machine.execSemaphoreWrite who n v s
  | .semaphoreLeaseExpiry n => Sys2Proof.Machine.execSemaphoreLeaseExpiry n s
  | .switchFrameArrive p q bytes => Sys2Proof.Machine.execSwitchFrameArrive p q bytes s
  | .switchFrameEnd p e => Sys2Proof.Machine.execSwitchFrameEnd p e s
  | .redIdleUpdate q => Sys2Proof.Machine.execRedIdleUpdate q s
  | .egressTxStart o => Sys2Proof.Machine.execEgressTxStart o s
  | .switchQueueDeliver o c => Sys2Proof.Machine.execSwitchQueueDeliver o c s
  | .queueSwitchWaitExpiry o c => Sys2Proof.Machine.execQueueSwitchWaitExpiry o c s
  | .captureQueuePacket c => Sys2Proof.Machine.execCaptureQueuePacket c s
  | .capRdWrite who c v => Sys2Proof.Machine.execCapRdWrite who c v s
  | .capCtrlWrite who c v => Sys2Proof.Machine.execCapCtrlWrite who c v s
  | .policerConfigWrite who p w v => Sys2Proof.Machine.execPolicerConfigWrite who p w v s
  | .shaperConfigWrite who sh w v => Sys2Proof.Machine.execShaperConfigWrite who sh w v s
  | .shaperEligible sh => Sys2Proof.Machine.execShaperEligible sh s
  | .gateEntryBoundary p => Sys2Proof.Machine.execGateEntryBoundary p s
  | .gateOverrideExpiry p c => Sys2Proof.Machine.execGateOverrideExpiry p c s
  | .configChange who p compl => Sys2Proof.Machine.execConfigChange who p compl s
  | .gateChangeTime p => Sys2Proof.Machine.execGateChangeTime p s
  | .prpFrameReceive p bytes good => Sys2Proof.Machine.execPrpFrameReceive p bytes good s
  | .prpSupervisionSend => Sys2Proof.Machine.execPrpSupervisionSend s
  | .staLinkChange p sync aligned localFault remoteFault => Sys2Proof.Machine.execStaLinkChange p sync aligned localFault remoteFault s
  | .add n => Sys2Proof.Machine.execAdd n s
  | .sub n => Sys2Proof.Machine.execSub n s
  | .and n => Sys2Proof.Machine.execAnd n s
  | .or n => Sys2Proof.Machine.execOr n s
  | .xor n => Sys2Proof.Machine.execXor n s
  | .sll n => Sys2Proof.Machine.execSll n s
  | .srl n => Sys2Proof.Machine.execSrl n s
  | .sra n => Sys2Proof.Machine.execSra n s
  | .clt n => Sys2Proof.Machine.execClt n s
  | .cltu n => Sys2Proof.Machine.execCltu n s
  | .mul n => Sys2Proof.Machine.execMul n s
  | .mulhs n => Sys2Proof.Machine.execMulhs n s
  | .mulhu n => Sys2Proof.Machine.execMulhu n s
  | .div n => Sys2Proof.Machine.execDiv n s
  | .divu n => Sys2Proof.Machine.execDivu n s
  | .rem n => Sys2Proof.Machine.execRem n s
  | .remu n => Sys2Proof.Machine.execRemu n s
  | .clz n => Sys2Proof.Machine.execClz n s
  | .popc n => Sys2Proof.Machine.execPopc n s
  | .bswap n => Sys2Proof.Machine.execBswap n s
  | .slli n => Sys2Proof.Machine.execSlli n s
  | .srli n => Sys2Proof.Machine.execSrli n s
  | .srai n => Sys2Proof.Machine.execSrai n s
  | .addi n => Sys2Proof.Machine.execAddi n s
  | .andi n => Sys2Proof.Machine.execAndi n s
  | .ori n => Sys2Proof.Machine.execOri n s
  | .xori n => Sys2Proof.Machine.execXori n s
  | .clti n => Sys2Proof.Machine.execClti n s
  | .cltiu n => Sys2Proof.Machine.execCltiu n s
  | .ldhi n => Sys2Proof.Machine.execLdhi n s
  | .ldw n => Sys2Proof.Machine.execLdw n s
  | .ldh n => Sys2Proof.Machine.execLdh n s
  | .ldhu n => Sys2Proof.Machine.execLdhu n s
  | .ldb n => Sys2Proof.Machine.execLdb n s
  | .ldbu n => Sys2Proof.Machine.execLdbu n s
  | .stw n => Sys2Proof.Machine.execStw n s
  | .sth n => Sys2Proof.Machine.execSth n s
  | .stb n => Sys2Proof.Machine.execStb n s
  | .beq n => Sys2Proof.Machine.execBeq n s
  | .bne n => Sys2Proof.Machine.execBne n s
  | .blt n => Sys2Proof.Machine.execBlt n s
  | .bge n => Sys2Proof.Machine.execBge n s
  | .bltu n => Sys2Proof.Machine.execBltu n s
  | .bgeu n => Sys2Proof.Machine.execBgeu n s
  | .jmp n => Sys2Proof.Machine.execJmp n s
  | .call n => Sys2Proof.Machine.execCall n s
  | .jr n => Sys2Proof.Machine.execJr n s
  | .callr n => Sys2Proof.Machine.execCallr n s
  | .ret n => Sys2Proof.Machine.execRet n s
  | .ldf n => Sys2Proof.Machine.execLdf n s
  | .stf n => Sys2Proof.Machine.execStf n s
  | .stfp n => Sys2Proof.Machine.execStfp n s
  | .stamp n => Sys2Proof.Machine.execStamp n s
  | .lookup n => Sys2Proof.Machine.execLookup n s
  | .crc32cB n => Sys2Proof.Machine.execCrc32cB n s
  | .crc32cH n => Sys2Proof.Machine.execCrc32cH n s
  | .crc32cW n => Sys2Proof.Machine.execCrc32cW n s
  | .crc16B n => Sys2Proof.Machine.execCrc16B n s
  | .send n => Sys2Proof.Machine.execSend n s
  | .recv n => Sys2Proof.Machine.execRecv n s
  | .droppkt n => Sys2Proof.Machine.execDroppkt n s
  | .gets n => Sys2Proof.Machine.execGets n s
  | .puts n => Sys2Proof.Machine.execPuts n s
  | .rtt n => Sys2Proof.Machine.execRtt n s
  | .wfe n => Sys2Proof.Machine.execWfe n s
  | .brk n => Sys2Proof.Machine.execBrk n s
  | .svcStallComplete n => Sys2Proof.Machine.execSvcStallComplete n s
  | .impreciseAccessException n => Sys2Proof.Machine.execImpreciseAccessException n s
  | .interruptEntry n => Sys2Proof.Machine.execInterruptEntry n s
  | .svcTimerCompare n => Sys2Proof.Machine.execSvcTimerCompare n s
  | .svcDoorbellWrite who n v => Sys2Proof.Machine.execSvcDoorbellWrite who n v s
  | .start who n v => Sys2Proof.Machine.execStart who n v s
  | .halt who n v => Sys2Proof.Machine.execHalt who n v s
  | .step who n v => Sys2Proof.Machine.execStep who n v s
  | .breakpointHit n => Sys2Proof.Machine.execBreakpointHit n s
  | .watchdog n => Sys2Proof.Machine.execWatchdog n s
  | .memoryScrubRead n addr => Sys2Proof.Machine.execMemoryScrubRead n addr s
  | .qPush who q v => Sys2Proof.Machine.execQPush who q v s
  | .qPushEnd who q v => Sys2Proof.Machine.execQPushEnd who q v s
  | .qPushAbort who q v => Sys2Proof.Machine.execQPushAbort who q v s
  | .qPop who q => Sys2Proof.Machine.execQPop who q s
  | .qPopHostStallExpiry q => Sys2Proof.Machine.execQPopHostStallExpiry q s
  | .qDroppkt who q v => Sys2Proof.Machine.execQDroppkt who q v s
  | .dramInitComplete => Sys2Proof.Machine.execDramInitComplete s
  | .dramTrainingComplete => Sys2Proof.Machine.execDramTrainingComplete s
  | .dramFillComplete ok => Sys2Proof.Machine.execDramFillComplete ok s
  | .dramBringupFail failStep => Sys2Proof.Machine.execDramBringupFail failStep s
  | .dramScrubRead addr bits => Sys2Proof.Machine.execDramScrubRead addr bits s
  | .endpointReply => Sys2Proof.Machine.execEndpointReply s
  | .endpointFetchLimitExpiry slot => Sys2Proof.Machine.execEndpointFetchLimitExpiry slot s
  | .pairHeartbeatSend => Sys2Proof.Machine.execPairHeartbeatSend s
  | .pairHeartbeatReceive hb => Sys2Proof.Machine.execPairHeartbeatReceive hb s
  | .pairPathSilence ring => Sys2Proof.Machine.execPairPathSilence ring s
  | .pairLinkLost => Sys2Proof.Machine.execPairLinkLost s
  | .pairStartWaitExpiry => Sys2Proof.Machine.execPairStartWaitExpiry s
  | .pairSilence100us => Sys2Proof.Machine.execPairSilence100us s
  | .pairSilence250us => Sys2Proof.Machine.execPairSilence250us s
  | .pairedCommandIssue => Sys2Proof.Machine.execPairedCommandIssue s
  | .m2RecordAccept ok => Sys2Proof.Machine.execM2RecordAccept ok s
  | .m2RecordReceive r => Sys2Proof.Machine.execM2RecordReceive r s
  | .mirrorRecordReceive r => Sys2Proof.Machine.execMirrorRecordReceive r s
  | .m3PeriodSend => Sys2Proof.Machine.execM3PeriodSend s
  | .pairSnapshotComplete => Sys2Proof.Machine.execPairSnapshotComplete s
  | .switchover who compl => Sys2Proof.Machine.execSwitchover who compl s
  | .resync who compl => Sys2Proof.Machine.execResync who compl s
  | .handoverSend => Sys2Proof.Machine.execHandoverSend s
  | .takebackHoldExpiry => Sys2Proof.Machine.execTakebackHoldExpiry s
  | .enableRise => Sys2Proof.Machine.execEnableRise s
  | .feedEnableQualified va vb => Sys2Proof.Machine.execFeedEnableQualified va vb s
  | .feedRampComplete f v => Sys2Proof.Machine.execFeedRampComplete f v s
  | .enableFall => Sys2Proof.Machine.execEnableFall s
  | .feedReverseTurnoff f v => Sys2Proof.Machine.execFeedReverseTurnoff f v s
  | .feedReverseRecover f v => Sys2Proof.Machine.execFeedReverseRecover f v s
  | .feedUv f v => Sys2Proof.Machine.execFeedUv f v s
  | .feedUvRecover f v rail => Sys2Proof.Machine.execFeedUvRecover f v rail s
  | .feedSwitchoverStart f => Sys2Proof.Machine.execFeedSwitchoverStart f s
  | .feedDeadTimeEnd v => Sys2Proof.Machine.execFeedDeadTimeEnd v s
  | .feedReturnHoldEnd v => Sys2Proof.Machine.execFeedReturnHoldEnd v s
  | .feedDisableWrite who f v => Sys2Proof.Machine.execFeedDisableWrite who f v s
  | .powerDieReset prio tmem => Sys2Proof.Machine.execPowerDieReset prio tmem s
  | .grpOn g => Sys2Proof.Machine.execGrpOn g s
  | .grpOff g => Sys2Proof.Machine.execGrpOff g s
  | .grpRampComplete g m => Sys2Proof.Machine.execGrpRampComplete g m s
  | .shortDuringRamp g m => Sys2Proof.Machine.execShortDuringRamp g m s
  | .grpLimitEnter g m => Sys2Proof.Machine.execGrpLimitEnter g m s
  | .grpLimitExit g m => Sys2Proof.Machine.execGrpLimitExit g m s
  | .groupFastTrip g m => Sys2Proof.Machine.execGroupFastTrip g m s
  | .groupSlowTrip g m => Sys2Proof.Machine.execGroupSlowTrip g m s
  | .groupEnergyLimit g limit m => Sys2Proof.Machine.execGroupEnergyLimit g limit m s
  | .grpRetryExpiry g => Sys2Proof.Machine.execGrpRetryExpiry g s
  | .grpRetriesClear g => Sys2Proof.Machine.execGrpRetriesClear g s
  | .tmemBlockEnd => Sys2Proof.Machine.execTmemBlockEnd s
  | .thermalWarn k t => Sys2Proof.Machine.execThermalWarn k t s
  | .thermalShut k t => Sys2Proof.Machine.execThermalShut k t s
  | .thermalClear k t => Sys2Proof.Machine.execThermalClear k t s
  | .logicPorRelease bootMode => Sys2Proof.Machine.execLogicPorRelease bootMode s
  | .logicSupplyLoss => Sys2Proof.Machine.execLogicSupplyLoss s
  | .resetNAssert => Sys2Proof.Machine.execResetNAssert s
  | .cometPor => Sys2Proof.Machine.execCometPor s
  | .vaonLoss => Sys2Proof.Machine.execVaonLoss s
  | .warm who compl => Sys2Proof.Machine.execWarm who compl s
  | .perstAssert => Sys2Proof.Machine.execPerstAssert s
  | .fuseLoadComplete ok => Sys2Proof.Machine.execFuseLoadComplete ok s
  | .imageLoadComplete flashOk => Sys2Proof.Machine.execImageLoadComplete flashOk s
  | .applyComplete failed => Sys2Proof.Machine.execApplyComplete failed s
  | .checkScanComplete => Sys2Proof.Machine.execCheckScanComplete s
  | .release => Sys2Proof.Machine.execRelease s
  | .cacheWriteComplete => Sys2Proof.Machine.execCacheWriteComplete s
  | .pcieCrsLimit => Sys2Proof.Machine.execPcieCrsLimit s
  | .anchorStore => Sys2Proof.Machine.execAnchorStore s
  | .xtalStop => Sys2Proof.Machine.execXtalStop s
  | .enter who compl => Sys2Proof.Machine.execEnter who compl s
  | .hibernateEntryComplete => Sys2Proof.Machine.execHibernateEntryComplete s
  | .wakePinAssert pin held => Sys2Proof.Machine.execWakePinAssert pin held s
  | .ktAlarm => Sys2Proof.Machine.execKtAlarm s
  | .begin who compl => Sys2Proof.Machine.execBegin who compl s
  | .program who compl => Sys2Proof.Machine.execProgram who compl s
  | .commit who compl => Sys2Proof.Machine.execCommit who compl s
  | .abort who compl => Sys2Proof.Machine.execAbort who compl s
  | .bootCmdComplete => Sys2Proof.Machine.execBootCmdComplete s
  | .ownerLock who compl => Sys2Proof.Machine.execOwnerLock who compl s
  | .bootProtectWrite who v => Sys2Proof.Machine.execBootProtectWrite who v s
  | .confirm who compl => Sys2Proof.Machine.execConfirm who compl s
  | .trialSecond => Sys2Proof.Machine.execTrialSecond s
  | .trialWindowExpiry => Sys2Proof.Machine.execTrialWindowExpiry s
  | .bootSetDataAccess who v => Sys2Proof.Machine.execBootSetDataAccess who v s
  | .faultRecordCommit => Sys2Proof.Machine.execFaultRecordCommit s
  | .mirrorWrite => Sys2Proof.Machine.execMirrorWrite s
  | .faultQuietExpiry => Sys2Proof.Machine.execFaultQuietExpiry s
  | .faultWindowExpiry => Sys2Proof.Machine.execFaultWindowExpiry s
  | .faultInject who compl => Sys2Proof.Machine.execFaultInject who compl s
  | .hostFabricRequest off isWrite bytes full data => Sys2Proof.Machine.execHostFabricRequest off isWrite bytes full data s
  | .msixSend v => Sys2Proof.Machine.execMsixSend v s
  | .hostDmaTailWrite who c v => Sys2Proof.Machine.execHostDmaTailWrite who c v s
  | .hostDmaCtrlWrite who c v => Sys2Proof.Machine.execHostDmaCtrlWrite who c v s
  | .dmaToHostBuffer c addr ctl => Sys2Proof.Machine.execDmaToHostBuffer c addr ctl s
  | .dmaToQueueBuffer c addr ctl bytes => Sys2Proof.Machine.execDmaToQueueBuffer c addr ctl bytes s
  | .dmaError c cause => Sys2Proof.Machine.execDmaError c cause s
  | .hostDoorbellWrite who v => Sys2Proof.Machine.execHostDoorbellWrite who v s
  | .mgmtRead addr crc => Sys2Proof.Machine.execMgmtRead addr crc s
  | .mgmtWrite addr v crc => Sys2Proof.Machine.execMgmtWrite addr v crc s
  | .mgmtPairedWrite addr v w crc => Sys2Proof.Machine.execMgmtPairedWrite addr v w crc s
  | .mgmtStatus cmd => Sys2Proof.Machine.execMgmtStatus cmd s
  | .mgmtCsRiseEarly c => Sys2Proof.Machine.execMgmtCsRiseEarly c s
  | .logicRestart who compl => Sys2Proof.Machine.execLogicRestart who compl s
  | .logicRestartRaise => Sys2Proof.Machine.execLogicRestartRaise s
  | .usbBusReset control => Sys2Proof.Machine.execUsbBusReset control s
  | .setConfiguration hub v => Sys2Proof.Machine.execSetConfiguration hub v s
  | .setInterface itf alt => Sys2Proof.Machine.execSetInterface itf alt s
  | .clearFeatureEndpointHalt hub ep => Sys2Proof.Machine.execClearFeatureEndpointHalt hub ep s
  | .portFeatureRequest port set f => Sys2Proof.Machine.execPortFeatureRequest port set f s
  | .usbPortConnectDebounced port => Sys2Proof.Machine.execUsbPortConnectDebounced port s
  | .usbPortResetEnd port => Sys2Proof.Machine.execUsbPortResetEnd port s
  | .usbPortResumeEnd port => Sys2Proof.Machine.execUsbPortResumeEnd port s
  | .usbOvercurrent port => Sys2Proof.Machine.execUsbOvercurrent port s
  | .usbSuspend remoteWake => Sys2Proof.Machine.execUsbSuspend remoteWake s
  | .usbRead op tag len addr => Sys2Proof.Machine.execUsbRead op tag len addr s
  | .usbWrite tag len addr data => Sys2Proof.Machine.execUsbWrite tag len addr data s
  | .usbPairedWrite tag len addr data => Sys2Proof.Machine.execUsbPairedWrite tag len addr data s
  | .faultRead tag len arg => Sys2Proof.Machine.execFaultRead tag len arg s
  | .imageBlock tag len off data => Sys2Proof.Machine.execImageBlock tag len off data s
  | .imageCmd tag len arg => Sys2Proof.Machine.execImageCmd tag len arg s
  | .audioInTransfer => Sys2Proof.Machine.execAudioInTransfer s
  | .audioFeedbackTransfer => Sys2Proof.Machine.execAudioFeedbackTransfer s
  | .usbRemoteWakeRequest audio => Sys2Proof.Machine.execUsbRemoteWakeRequest audio s
  | .usbRemoteWakeKEnd => Sys2Proof.Machine.execUsbRemoteWakeKEnd s
  | .cardRailLoss => Sys2Proof.Machine.execCardRailLoss s
  | .perstDeassert => Sys2Proof.Machine.execPerstDeassert s
  | .pcieLinkChange up config => Sys2Proof.Machine.execPcieLinkChange up config s
  | .usbHostResume => Sys2Proof.Machine.execUsbHostResume s
  | .usbPortDisconnect port => Sys2Proof.Machine.execUsbPortDisconnect port s
  | .usbPortBabble port => Sys2Proof.Machine.execUsbPortBabble port s
  | .usbPortDeviceResume port => Sys2Proof.Machine.execUsbPortDeviceResume port s
  | .setAddress addr => Sys2Proof.Machine.execSetAddress addr s

end Sys2Proof.Machine
end

