-- ==== Sys2Proof/Machine/Tick.lean ====
section
/-! DEFINITION. What passes with time alone (R80, R350, R411): the idle step of the hub. -/

namespace Sys2Proof.Machine

/-- One period of 2.5 ns passes: CLOCK and keep-time go on, and in a logic die that is up so does FRC, and the ports of
the bridge pass on what waits there (R245, R350). All other effects of time are commands of their own. -/
def State.tick (s : State) : State :=
  let t := { s.ktTick with clock := s.clock + 1 }
  if s.start.logicUp then ({ t with frc := t.frc + 1 }).memTick.edgeDrain edgeBound else t

end Sys2Proof.Machine
end

