-- ==== Sys2Proof/Safety.lean ====
section
/-! DEFINITION. The terms in which claims about the hub are stated: that a command completes, what it leaves alone, when a
register access is carried out at once, and when a core or an engine executes its next instruction. -/

namespace Sys2Proof.Machine

/-- Command `c` completes in `s` with a next state of which `P` holds. -/
def Runs (c : Instr) (s : State) (P : State → Prop) : Prop := ∃ t, exec c s = .next t ∧ P t

/-- The stored register words at the addresses outside `l` are the same. -/
def RegsBut (l : List Nat) (s t : State) : Prop := ∀ a, a ∉ l → t.reg a = s.reg a

/-- One hardware event on the sequence-cleared register at `a` (R46): flag `i` is set, SEQ has moved on by 1 and the other
flags are as before. -/
def Noted (a i : Nat) (s t : State) : Prop :=
  t.flag a i = true ∧ t.field a 24 8 = (s.field a 24 8 + 1) % 256 ∧ ∀ j, j < 24 → j ≠ i → t.flag a j = s.flag a j

/-- A register access of initiator `i` to the word at `a` is valid (R38), it is not held by a unit in reset (R12) or behind an
earlier fabric read of the word (R246), the die that holds it is up (R467), and no injected die-link error meets it (R446). -/
def State.ready (s : State) (i : Initiator) (a : Nat) (isWrite : Bool) : Bool :=
  (s.accessKind i a 4 isWrite).isNone
    && (match locate a with
        | some (b, _) => (s.start.logicUp || b == .comet) && !s.mustHold i b a s.bridge.order
            && !(powerBlock b && s.fault.inject.armed && s.fault.inject.target == 6)
        | none => false)

/-- What initiator `i` latched at `a` is gone, and the answer `r` of its access has left (R39, R42). -/
def State.written (s : State) (i : Initiator) (a : Nat) (r : AccessResult) : State :=
  { s with
    shadows := s.shadows.filter fun e => !(e.who == i && e.addr == a)
    out := .access i a r :: s.out }

/-- The guarded pair at `x` holds the armed value `v`, written at most 256 CORE cycles ago (R50). -/
def State.armedAt (s : State) (x : Nat) (v : Word) : Bool :=
  match (s.guard x).armed with
  | some a => a.value == v && decide (s.now ≤ a.since + 256)
  | none => false

/-- The guarded pair at `x` has committed once more and stands disarmed; the other pairs are as before (R50, R52). -/
def Committed (x : Nat) (s t : State) : Prop :=
  t.guard x = { s.guard x with commits := ((s.guard x).commits + 1) % 256, armed := none }
    ∧ ∀ y, y ≠ x → t.guard y = s.guard y

/-- Blocks all of whose writable words are ordinary (R6). -/
def plainBlock : Block → Bool
  | .queueCommon | .epEntry _ | .classRule _ | .canFilter _ | .canTx _ _ | .msix _ => true
  | _ => false

/-- The units with nothing to do when EN is set but to work from then on (R11). -/
def plainUnit : HubUnit → Bool
  | .uart _ | .engine _ | .bank _ | .group _ | .switch | .traffic | .classify | .time | .bridge => true
  | _ => false

/-- The sequence-cleared registers (R46): the one-instance ones, then those of each family. -/
def sqWords : List Nat :=
  [Addr.globalResetCause, Addr.regifBerrStatus, Addr.faultEvents, Addr.timeEvents, Addr.angleEvents, Addr.ephemEvents,
   Addr.ringEvents, Addr.bridgeEvents, Addr.bridgeTxnStatus, Addr.bridgePwfStatus, Addr.swEvents, Addr.trfEvents,
   Addr.classEvents, Addr.pairEvents, Addr.bootEvents, Addr.hostEvents, Addr.usbEvents, Addr.dramEvents,
   Addr.cometWakeStatus, Addr.cometMgmtEvents]
    ++ (List.range 8).map Addr.bankEvents ++ (List.range 64).map Addr.engEvents ++ (List.range 8).map Addr.canEvents
    ++ (List.range 16).map Addr.uartEvents ++ (List.range 3).map (fun l => linkReg (portOf (fin 2 l)) Addr.linkEvents)
    ++ (List.range 2).map Addr.staEvents ++ (List.range 2).map Addr.staGateEvents ++ [Addr.prpEvents 0]
    ++ (List.range 16).map Addr.capEvents ++ (List.range 4).map Addr.svcEvents ++ (List.range 64).map Addr.qEvents
    ++ (List.range 2).map Addr.feedEvents ++ (List.range 8).map Addr.grpEvents ++ (List.range 4).map Addr.thermEvents

/-- A logic power-on reset for `causes`, the flags of GLOBAL_RESET_CAUSE (R397), that leaves GLOBAL_REGION_STATE at
`regions`: the logic die is down, its other register words are at their reset values, those of the power die and of Comet
keep theirs but for the cause and LOGIC_DOWN, group commands on the die link are lost, and memory outside service RAM is as
before. -/
def WentDownTo (regions : Word) (causes : Nat) (s t : State) : Prop :=
  t.start = { logicUp := false, phase := 2, ephHold := true } ∧ t.frc = 0 ∧ t.power = s.power.linkCut ∧ t.fuses = s.fuses
    ∧ (∀ a, keptReg a = false → a ≠ Addr.globalRegionState → t.reg a = regReset a)
    ∧ t.reg Addr.globalRegionState = regions
    ∧ (∀ a, keptReg a = true → a ≠ Addr.globalResetCause → a ≠ Addr.cometMgmtEvents → t.reg a = s.reg a)
    ∧ (∀ j, j < 24 → t.flag Addr.globalResetCause j = (s.flag Addr.globalResetCause j || causes.testBit j))
    ∧ (s.start.released = true → t.flag Addr.cometMgmtEvents 2 = true)
    ∧ ∀ a, a < 0x60_0000 ∨ 0x80_0000 ≤ a → Memory.byte t.mem a = Memory.byte s.mem a

/-- A logic power-on reset that leaves every region released (R397). -/
def WentDown (causes : Nat) (s t : State) : Prop := WentDownTo (regReset Addr.globalRegionState) causes s t

/-- Core `n` executes instruction `i` next: it runs, no breakpoint, bus error of a store, interrupt, halt or STEP is due,
and its PC names a word of instruction memory without error that decodes to `i` (R309, R312, R321, R324, R328). -/
def State.issues (s : State) (n : Fin 4) (i : SInstr) : Bool :=
  let x := s.core n.val
  let pc := (s.corePc n.val).toNat
  s.start.logicUp && x.sync == .running && !s.bpMatch n.val && x.badStores.isEmpty && !s.interruptDue n.val
    && !x.stepping && !x.haltDue && pc % 4 == 0 && decide (pc < 0x2_0000)
    && Store.get 0 s.ecc (Addr.coreRam n.val + pc) == 0
    && decodeS (Memory.word s.mem (Addr.coreRam n.val + pc)) == some i

/-- The word that core `n` fetches at its PC. -/
def State.fetched (s : State) (n : Fin 4) : Word :=
  Memory.word s.mem (Addr.coreRam n.val + (s.corePc n.val).toNat)

/-- Core `n` has executed the instruction at its PC in `s` and stands at the next boundary in `t`; of the register words
only those of `l` have changed, and of the rest of the state only core `n` (R311). -/
def CoreRan (n : Fin 4) (l : List Nat) (s t : State) : Prop :=
  t = { s with regs := t.regs, cores := t.cores } ∧ RegsBut l s t ∧ (∀ m, m ≠ n.val → t.core m = s.core m)
    ∧ t.core n.val = { s.core n.val with cur := s.fetched n, stall := 0, skipBp := false }

/-- The words that a result in `rd` writes beside the PC: none for g0 (R307). -/
def gregWords (n : Fin 4) (rd : Reg) : List Nat := if rd = 0 then [] else [Addr.svcGreg n.val rd.toNat]

/-- Engine `e` runs, has no instruction latched, no injected one is due, and its PC names a word that spells `i` (R151, R152,
R160, R162). -/
def State.pIssues (s : State) (e : Fin 64) (i : PInstr) : Bool :=
  s.start.logicUp && (s.eng e.val).sync == .running && (s.eng e.val).cur.isNone && !s.slotDue e.val && decodeP (s.pWord e.val) == some i

/-- Of the state only engine `e` has changed; it stands at the instruction after its PC and is otherwise `x` (R151). -/
def EngineRan (e : Fin 64) (x : EngineState) (s t : State) : Prop :=
  t = { s with engines := t.engines } ∧ (∀ k, k ≠ e.val → t.eng k = s.eng k)
    ∧ t.eng e.val = { x with pc := s.nextPc e.val (s.eng e.val).pc }

/-- The command of an ALU operation completes on core `n` (R314). -/
def AluRuns (op : AluOp) (n : Fin 4) (s : State) (P : State → Prop) : Prop :=
  match op with
  | .add => Runs (.add n) s P | .sub => Runs (.sub n) s P | .and => Runs (.and n) s P | .or => Runs (.or n) s P
  | .xor => Runs (.xor n) s P | .sll => Runs (.sll n) s P | .srl => Runs (.srl n) s P
  | .sra => Runs (.sra n) s P | .clt => Runs (.clt n) s P | .cltu => Runs (.cltu n) s P
  | .mul => Runs (.mul n) s P | .mulhs => Runs (.mulhs n) s P | .mulhu => Runs (.mulhu n) s P
  | .div => Runs (.div n) s P | .divu => Runs (.divu n) s P | .rem => Runs (.rem n) s P
  | .remu => Runs (.remu n) s P | .clz => Runs (.clz n) s P | .popc => Runs (.popc n) s P
  | .bswap => Runs (.bswap n) s P | .slli => Runs (.slli n) s P | .srli => Runs (.srli n) s P
  | .srai => Runs (.srai n) s P

/-- The command of an operation on an immediate completes (R313). -/
def ImmRuns (op : ImmOp) (n : Fin 4) (s : State) (P : State → Prop) : Prop :=
  match op with
  | .addi => Runs (.addi n) s P | .andi => Runs (.andi n) s P | .ori => Runs (.ori n) s P
  | .xori => Runs (.xori n) s P | .clti => Runs (.clti n) s P | .cltiu => Runs (.cltiu n) s P

/-- The command of a load completes (R313). -/
def LoadRuns (op : LoadOp) (n : Fin 4) (s : State) (P : State → Prop) : Prop :=
  match op with
  | .word => Runs (.ldw n) s P | .half => Runs (.ldh n) s P | .halfU => Runs (.ldhu n) s P
  | .byte => Runs (.ldb n) s P | .byteU => Runs (.ldbu n) s P

/-- The command of a store completes (R313). -/
def StoreRuns (op : StoreOp) (n : Fin 4) (s : State) (P : State → Prop) : Prop :=
  match op with
  | .word => Runs (.stw n) s P | .half => Runs (.sth n) s P | .byte => Runs (.stb n) s P

/-- The command of a branch completes (R313). -/
def BranchRuns (op : Cond) (n : Fin 4) (s : State) (P : State → Prop) : Prop :=
  match op with
  | .eq => Runs (.beq n) s P | .ne => Runs (.bne n) s P | .lt => Runs (.blt n) s P | .ge => Runs (.bge n) s P
  | .ltu => Runs (.bltu n) s P | .geu => Runs (.bgeu n) s P

/-- The command of a CRC helper completes (R320). -/
def CrcRuns (op : CrcOp) (n : Fin 4) (s : State) (P : State → Prop) : Prop :=
  match op with
  | .c32b => Runs (.crc32cB n) s P | .c32h => Runs (.crc32cH n) s P | .c32w => Runs (.crc32cW n) s P
  | .c16b => Runs (.crc16B n) s P

end Sys2Proof.Machine
end

