-- ==== Sys2Proof/Certificates/Slice0/Obligations.lean ====
section
/-! DEFINITION. The statements about the hub. The first ones say of every command of the table that it completes and what
its next state is, family by family; the last ones speak of the machine as a whole. `Runs c s P` (in Safety.lean) says that
command `c` completes in `s` with a next state of which `P` holds. -/

open Sys2Proof Sys2Proof.Machine

/-- R311, R314, R322: an ALU instruction that a core issues writes its result to rd (nothing for g0), sets DZ and OV of CTX
as a division asks, and goes on with the next word; nothing else changes. The second clause says what each operation of
R314 computes, in terms of the numbers that the operands are. -/
def Obligations.AluInstructionsRun : Prop :=
  (∀ (s : State) (n : Fin 4) (op : AluOp) (rd ra rb : Reg), s.issues n (.alu op rd ra rb) = true →
    AluRuns op n s fun t =>
      CoreRan n (Addr.svcPc n.val :: Addr.svcSreg n.val 0 :: gregWords n rd) s t
      ∧ t.corePc n.val = s.corePc n.val + 4
      ∧ (rd ≠ 0 → t.greg n.val rd = aluResult op (s.greg n.val ra) (s.greg n.val rb) rb.toNat)
      ∧ t.ctxBit n.val 3 = (s.ctxBit n.val 3 || (op == .div || op == .divu || op == .rem || op == .remu)
          && s.greg n.val rb == 0)
      ∧ t.ctxBit n.val 4 = (s.ctxBit n.val 4 || (op == .div || op == .rem)
          && s.greg n.val ra == 0x8000_0000 && s.greg n.val rb == 0xFFFF_FFFF)
      ∧ ∀ j, j ≠ 3 → j ≠ 4 → t.ctxBit n.val j = s.ctxBit n.val j)
  ∧ (∀ (a b : Word) (k : Nat),
    aluResult .add a b k = a + b ∧ aluResult .sub a b k = a - b ∧ aluResult .and a b k = a &&& b
    ∧ aluResult .or a b k = a ||| b ∧ aluResult .xor a b k = a ^^^ b
    ∧ aluResult .sll a b k = a <<< (b.toNat % 32) ∧ aluResult .srl a b k = a >>> (b.toNat % 32)
    ∧ (aluResult .sra a b k).toInt = Int.fdiv a.toInt (2 ^ (b.toNat % 32))
    ∧ aluResult .clt a b k = (if a.toInt < b.toInt then 1 else 0)
    ∧ aluResult .cltu a b k = (if a.toNat < b.toNat then 1 else 0)
    ∧ (aluResult .mul a b k).toNat = a.toNat * b.toNat % 2 ^ 32
    ∧ (aluResult .mulhs a b k).toInt = Int.fdiv (a.toInt * b.toInt) (2 ^ 32)
    ∧ (aluResult .mulhu a b k).toNat = a.toNat * b.toNat / 2 ^ 32
    ∧ (b = 0 → aluResult .div a b k = 0 ∧ aluResult .divu a b k = 0 ∧ aluResult .rem a b k = a
        ∧ aluResult .remu a b k = a)
    ∧ (a = 0x8000_0000 → b = 0xFFFF_FFFF → aluResult .div a b k = 0x7FFF_FFFF ∧ aluResult .rem a b k = 0)
    ∧ (b ≠ 0 → ¬(a = 0x8000_0000 ∧ b = 0xFFFF_FFFF) →
        (aluResult .div a b k).toInt = Int.tdiv a.toInt b.toInt
        ∧ (aluResult .rem a b k).toInt = a.toInt - b.toInt * Int.tdiv a.toInt b.toInt)
    ∧ (b ≠ 0 → (aluResult .divu a b k).toNat = a.toNat / b.toNat ∧ (aluResult .remu a b k).toNat = a.toNat % b.toNat)
    ∧ (a = 0 → aluResult .clz a b k = 32)
    ∧ (a ≠ 0 → (aluResult .clz a b k).toNat < 32 ∧ 2 ^ (31 - (aluResult .clz a b k).toNat) ≤ a.toNat
        ∧ a.toNat < 2 ^ (32 - (aluResult .clz a b k).toNat))
    ∧ (aluResult .popc a b k).toNat = ((List.range 32).filter fun i => a.getLsbD i).length
    ∧ (∀ i, i < 8 → (aluResult .bswap a b k).getLsbD i = a.getLsbD (24 + i)
        ∧ (aluResult .bswap a b k).getLsbD (8 + i) = a.getLsbD (16 + i)
        ∧ (aluResult .bswap a b k).getLsbD (16 + i) = a.getLsbD (8 + i)
        ∧ (aluResult .bswap a b k).getLsbD (24 + i) = a.getLsbD i)
    ∧ (k < 32 → aluResult .slli a b k = a <<< k ∧ aluResult .srli a b k = a >>> k
        ∧ (aluResult .srai a b k).toInt = Int.fdiv a.toInt (2 ^ k)))

/-- R311, R313, R320: an operation on an immediate, LDHI and a CRC helper that a core issues write their result to rd and
go on with the next word; nothing else changes. -/
def Obligations.ImmediateAndCrcInstructionsRun : Prop :=
  (∀ (s : State) (n : Fin 4) (op : ImmOp) (rd ra : Reg) (v : Half), s.issues n (.imm op rd ra v) = true →
    ImmRuns op n s fun t =>
      CoreRan n (Addr.svcPc n.val :: gregWords n rd) s t ∧ t.corePc n.val = s.corePc n.val + 4
      ∧ (rd ≠ 0 → t.greg n.val rd = match op with
          | .addi => s.greg n.val ra + v.signExtend 32
          | .andi => s.greg n.val ra &&& v.zeroExtend 32
          | .ori => s.greg n.val ra ||| v.zeroExtend 32
          | .xori => s.greg n.val ra ^^^ v.zeroExtend 32
          | .clti => if (s.greg n.val ra).toInt < v.toInt then 1 else 0
          | .cltiu => if (s.greg n.val ra).toNat < (v.signExtend 32).toNat then 1 else 0))
  ∧ (∀ (s : State) (n : Fin 4) (rd : Reg) (v : Half), s.issues n (.ldhi rd v) = true →
    Runs (.ldhi n) s fun t =>
      CoreRan n (Addr.svcPc n.val :: gregWords n rd) s t ∧ t.corePc n.val = s.corePc n.val + 4
      ∧ (rd ≠ 0 → (t.greg n.val rd).toNat = v.toNat * 2 ^ 16))
  ∧ (∀ (s : State) (n : Fin 4) (op : CrcOp) (rd ra rb : Reg), s.issues n (.crc op rd ra rb) = true →
    CrcRuns op n s fun t =>
      CoreRan n (Addr.svcPc n.val :: gregWords n rd) s t ∧ t.corePc n.val = s.corePc n.val + 4
      ∧ (rd ≠ 0 → t.greg n.val rd =
          crcResult op (s.greg n.val ra) (s.greg n.val rb) (s.field (Addr.svcSreg n.val 12) 0 16)))

/-- R308, R309, R313: a load from data memory that a core issues, at an aligned address whose word holds no error, writes
the bytes there, least significant first and extended as its form says, to rd; no byte of memory changes. LDW reads
instruction memory too, and the word that the register map answers. -/
def Obligations.LoadInstructionsRun : Prop :=
  (∀ (s : State) (n : Fin 4) (op : LoadOp) (rd ra : Reg) (v : Half) (a : Nat),
    s.issues n (.load op rd ra v) = true → a = (s.greg n.val ra + v.signExtend 32).toNat →
    a % loadSize op = 0 → a < 0x6_0000 → (0x2_0000 ≤ a ∨ op = .word) →
    Store.get 0 s.ecc (Addr.coreRam n.val + a / 4 * 4) = 0 →
    LoadRuns op n s fun t =>
      CoreRan n (Addr.svcPc n.val :: gregWords n rd) s t ∧ t.corePc n.val = s.corePc n.val + 4
      ∧ (rd ≠ 0 → t.greg n.val rd =
          let x (i : Nat) : Byte := Memory.byte s.mem (Addr.coreRam n.val + a + i);
          match op with
          | .word => x 3 ++ x 2 ++ x 1 ++ x 0
          | .half => (x 1 ++ x 0).signExtend 32
          | .halfU => (x 1 ++ x 0).zeroExtend 32
          | .byte => (x 0).signExtend 32
          | .byteU => (x 0).zeroExtend 32))
  ∧ (∀ (s : State) (n : Fin 4) (rd ra : Reg) (v : Half) (a : Nat) (w : Word) (u : State),
    s.issues n (.load .word rd ra v) = true → (s.greg n.val ra + v.signExtend 32).toNat = 0x1000_0000 + a →
    a < 0x100_0000 → a % 4 = 0 → s.coreHeld n.val a false = false →
    (s.setCore n.val { s.core n.val with cur := s.fetched n }).readLocal (.core n) a = (.data w, u) →
    Runs (.ldw n) s fun t => t = u.coreResult n.val rd w)

/-- R308, R309, R313: a store into data memory that a core issues changes the bytes that it names and no other, at an
aligned address below the mirrored window and with no injection armed (R446); a halfword or byte store needs a word
without error. -/
def Obligations.StoreInstructionsRun : Prop :=
  ∀ (s : State) (n : Fin 4) (op : StoreOp) (rs ra : Reg) (v : Half) (a : Nat),
    s.issues n (.store op rs ra v) = true → a = (s.greg n.val ra + v.signExtend 32).toNat →
    a % storeSize op = 0 → 0x2_0000 ≤ a → a < 0x5_F000 → s.fault.inject.armed = false →
    (op = .word ∨ Store.get 0 s.ecc (Addr.coreRam n.val + a / 4 * 4) = 0) →
    StoreRuns op n s fun t =>
      t = { s with regs := t.regs, cores := t.cores, mem := t.mem, ecc := t.ecc }
      ∧ RegsBut [Addr.svcPc n.val] s t ∧ t.corePc n.val = s.corePc n.val + 4
      ∧ (∀ m, m ≠ n.val → t.core m = s.core m)
      ∧ t.core n.val = { s.core n.val with cur := s.fetched n, stall := 0, skipBp := false }
      ∧ (∀ i, i < storeSize op → Memory.byte t.mem (Addr.coreRam n.val + a + i) = byteOf (s.greg n.val rs).toNat i)
      ∧ (∀ b, Addr.coreRam n.val + a + storeSize op ≤ b ∨ b < Addr.coreRam n.val + a →
          Memory.byte t.mem b = Memory.byte s.mem b)
      ∧ (∀ b, Store.get 0 t.ecc b = if b = Addr.coreRam n.val + a / 4 * 4 then 0 else Store.get 0 s.ecc b)

/-- R313, R315: branches, jumps, calls and RET that a core issues set its PC and nothing else, but for the return stack of
16 words that CALL and CALLR push and RET pops. -/
def Obligations.ControlFlowInstructionsRun : Prop :=
  (∀ (s : State) (n : Fin 4) (c : Cond) (ra rb : Reg) (off : Half), s.issues n (.branch c ra rb off) = true →
    BranchRuns c n s fun t =>
      CoreRan n [Addr.svcPc n.val] s t
      ∧ t.corePc n.val = s.corePc n.val +
          (if (match c with
              | .eq => s.greg n.val ra = s.greg n.val rb
              | .ne => s.greg n.val ra ≠ s.greg n.val rb
              | .lt => (s.greg n.val ra).toInt < (s.greg n.val rb).toInt
              | .ge => (s.greg n.val rb).toInt ≤ (s.greg n.val ra).toInt
              | .ltu => (s.greg n.val ra).toNat < (s.greg n.val rb).toNat
              | .geu => (s.greg n.val rb).toNat ≤ (s.greg n.val ra).toNat : Bool)
           then off.signExtend 32 * 4 else 4))
  ∧ (∀ (s : State) (n : Fin 4) (off : BitVec 26), s.issues n (.jmp off) = true →
    Runs (.jmp n) s fun t =>
      CoreRan n [Addr.svcPc n.val] s t ∧ t.corePc n.val = s.corePc n.val + off.signExtend 32 * 4)
  ∧ (∀ (s : State) (n : Fin 4) (ra : Reg) (v : Half), s.issues n (.jr ra v) = true →
    Runs (.jr n) s fun t =>
      CoreRan n [Addr.svcPc n.val] s t
      ∧ t.corePc n.val = (s.greg n.val ra + v.signExtend 32) &&& 0xFFFF_FFFC)
  ∧ (∀ (s : State) (n : Fin 4) (off : BitVec 26), s.issues n (.call off) = true → (s.core n.val).rstack.length < 16 →
    Runs (.call n) s fun t =>
      t = { s with regs := t.regs, cores := t.cores } ∧ RegsBut [Addr.svcPc n.val] s t
      ∧ t.corePc n.val = s.corePc n.val + off.signExtend 32 * 4
      ∧ (t.core n.val).rstack = (s.corePc n.val + 4) :: (s.core n.val).rstack
      ∧ ∀ m, m ≠ n.val → t.core m = s.core m)
  ∧ (∀ (s : State) (n : Fin 4) (ra : Reg) (v : Half), s.issues n (.callr ra v) = true →
    (s.core n.val).rstack.length < 16 →
    Runs (.callr n) s fun t =>
      t = { s with regs := t.regs, cores := t.cores } ∧ RegsBut [Addr.svcPc n.val] s t
      ∧ t.corePc n.val = (s.greg n.val ra + v.signExtend 32) &&& 0xFFFF_FFFC
      ∧ (t.core n.val).rstack = (s.corePc n.val + 4) :: (s.core n.val).rstack
      ∧ ∀ m, m ≠ n.val → t.core m = s.core m)
  ∧ (∀ (s : State) (n : Fin 4) (a : Word) (r : List Word), s.issues n .ret = true → (s.core n.val).rstack = a :: r →
    Runs (.ret n) s fun t =>
      t = { s with regs := t.regs, cores := t.cores } ∧ RegsBut [Addr.svcPc n.val] s t
      ∧ t.corePc n.val = a ∧ (t.core n.val).rstack = r ∧ ∀ m, m ≠ n.val → t.core m = s.core m)

/-- R68, R69, R71: a fence that a core issues ends at once when nothing that it covers is under way, else the core stalls
with code 4 and its PC stays; FENCE.F gives the failures counted since the last fence to rd and starts a new count. The
stall of a fence ends when its condition holds. -/
def Obligations.FencesRun : Prop :=
  (∀ (s : State) (n : Fin 4), s.issues n .fenceL = true → s.fenceLDone n.val = true →
    Runs (.fenceL n) s fun t =>
      t = { s with regs := t.regs, cores := t.cores, fences := t.fences } ∧ RegsBut [Addr.svcPc n.val] s t
      ∧ t.corePc n.val = s.corePc n.val + 4 ∧ assocGet t.fences (.core n) = none)
  ∧ (∀ (s : State) (n : Fin 4), s.issues n .fenceL = true → s.fenceLDone n.val = false →
    Runs (.fenceL n) s fun t =>
      t = { s with cores := t.cores, fences := t.fences } ∧ (t.core n.val).sync = .stalled
      ∧ (t.core n.val).stall = 4 ∧ assocGet t.fences (.core n) = some ⟨false, s.bridge.order⟩)
  ∧ (∀ (s : State) (n : Fin 4) (rd : Reg) (c : FenceCount), s.issues n (.fenceF rd) = true →
    s.fenceFDone n.val s.bridge.order = true → c = (assocGet s.fenceCounts (.core n)).getD {} →
    Runs (.fenceF n) s fun t =>
      t = { s with regs := t.regs, cores := t.cores, fences := t.fences, fenceCounts := t.fenceCounts, out := t.out }
      ∧ RegsBut (Addr.svcPc n.val :: gregWords n rd) s t ∧ t.corePc n.val = s.corePc n.val + 4
      ∧ (rd ≠ 0 → t.greg n.val rd = word (min 0xFFFF c.fails + (if c.timeout then 0x1_0000 else 0)))
      ∧ assocGet t.fenceCounts (.core n) = some { fails := c.nextFails, timeout := c.nextTimeout })
  ∧ (∀ (s : State) (n : Fin 4) (rd : Reg), s.issues n (.fenceF rd) = true →
    s.fenceFDone n.val s.bridge.order = false →
    Runs (.fenceF n) s fun t =>
      t = { s with cores := t.cores, fences := t.fences } ∧ (t.core n.val).sync = .stalled
      ∧ (t.core n.val).stall = 4 ∧ assocGet t.fences (.core n) = some ⟨true, s.bridge.order⟩)
  ∧ (∀ (s : State) (n : Fin 4), s.start.logicUp = true → (s.core n.val).sync = .stalled →
    decodeS (s.core n.val).cur = some .fenceL → (s.core n.val).badStores = [] → (s.core n.val).haltDue = false →
    (s.core n.val).stepping = false → s.fenceLDone n.val = true →
    Runs (.fenceLComplete n) s fun t =>
      t = { s with regs := t.regs, cores := t.cores, fences := t.fences } ∧ RegsBut [Addr.svcPc n.val] s t
      ∧ t.corePc n.val = s.corePc n.val + 4 ∧ (t.core n.val).sync = .running ∧ assocGet t.fences (.core n) = none)
  ∧ (∀ (s : State) (n : Fin 4) (rd : Reg) (f : Fence) (c : FenceCount), s.start.logicUp = true →
    (s.core n.val).sync = .stalled → decodeS (s.core n.val).cur = some (.fenceF rd) →
    (s.core n.val).haltDue = false → (s.core n.val).stepping = false → assocGet s.fences (.core n) = some f →
    s.fenceFDone n.val f.point = true → c = (assocGet s.fenceCounts (.core n)).getD {} →
    Runs (.fenceFComplete n) s fun t =>
      t = { s with regs := t.regs, cores := t.cores, fences := t.fences, fenceCounts := t.fenceCounts, out := t.out }
      ∧ RegsBut (Addr.svcPc n.val :: gregWords n rd) s t ∧ t.corePc n.val = s.corePc n.val + 4
      ∧ (t.core n.val).sync = .running
      ∧ (rd ≠ 0 → t.greg n.val rd = word (min 0xFFFF c.fails + (if c.timeout then 0x1_0000 else 0))))

/-- R66, R114, R244, R316, R319, R322: STAMP, LOOKUP, GETS and PUTS that a core issues (STAMP gives fabric time, the angle
or the cycle number; LOOKUP an entry number of the exact-match table; GETS and PUTS read and write a special register, the
return stack through RS_TOP), and LDF, STF and STFP. LDF and STF to another hub issue one transaction, with the lowest
free TAG, and stall the core with code 3 at their instruction; STFP issues a posted write and goes on. When the
transaction has ended, the stall's end gives the word read to rd. -/
def Obligations.StampLookupAndSpecialRegistersRun : Prop :=
  (∀ (s : State) (n : Fin 4) (rd : Reg) (what : Fin 4), s.issues n (.stamp rd what) = true →
    Runs (.stamp n) s fun t =>
      CoreRan n (Addr.svcPc n.val :: (gregWords n rd ++ if what = 0 ∧ rd ≠ 0 then gregWords n (rd + 1) else [])) s t
      ∧ t.corePc n.val = s.corePc n.val + 4
      ∧ (rd ≠ 0 → t.greg n.val rd = match what.val with
          | 0 | 1 => word s.timeNs
          | 2 => s.angleNow
          | _ => s.cycleAt s.time16)
      ∧ (what = 0 → rd ≠ 0 → t.greg n.val (rd + 1) = word (s.timeNs / 2 ^ 32)))
  ∧ (∀ (s : State) (n : Fin 4) (rd ra : Reg) (k : Fin 3) (key : Nat), s.issues n (.lookup rd ra k) = true →
    key = (s.greg n.val ra).toNat + (s.greg n.val (ra + 1)).toNat * 2 ^ 32 →
    (∀ e j, Store.get 0 s.ecc (Addr.classEntry e j) = 0) →
    Runs (.lookup n) s fun t =>
      (∀ e, (s.exactLookup k.val key).1 = some e → rd ≠ 0 → (t.greg n.val rd).getLsbD 31 = true
          ∧ (t.greg n.val rd).toNat % 2 ^ 16 = e % 2 ^ 16)
      ∧ ((s.exactLookup k.val key).1 = none → rd ≠ 0 → t.greg n.val rd = 0)
      ∧ t.corePc n.val = s.corePc n.val + 4 ∧ t.mem = s.mem)
  ∧ (∀ (s : State) (n : Fin 4) (rd : Reg) (i : Fin 18), s.issues n (.gets rd i) = true → i.val ≠ 8 → i.val ≠ 9 →
    i.val ≠ 17 →
    Runs (.gets n) s fun t =>
      CoreRan n (Addr.svcPc n.val :: gregWords n rd) s t ∧ t.corePc n.val = s.corePc n.val + 4
      ∧ (rd ≠ 0 → t.greg n.val rd = s.sregValue n.val i.val))
  ∧ (∀ (s : State) (n : Fin 4) (rd : Reg) (v : Word) (r : List Word), s.issues n (.gets rd 17) = true →
    (s.core n.val).rstack = v :: r →
    Runs (.gets n) s fun t =>
      (rd ≠ 0 → t.greg n.val rd = v) ∧ (t.core n.val).rstack = r ∧ t.corePc n.val = s.corePc n.val + 4
      ∧ RegsBut (Addr.svcPc n.val :: gregWords n rd) s t ∧ t.mem = s.mem)
  ∧ (∀ (s : State) (n : Fin 4) (rd : Reg), s.issues n (.gets rd 8) = true →
    Runs (.gets n) s fun t =>
      (rd ≠ 0 → t.greg n.val rd = word (s.coreCycles n.val))
      ∧ (t.core n.val).cycleHi = word (s.coreCycles n.val / 2 ^ 32)
      ∧ RegsBut (Addr.svcPc n.val :: gregWords n rd) s t)
  ∧ (∀ (s : State) (n : Fin 4) (rd : Reg), s.issues n (.gets rd 9) = true →
    Runs (.gets n) s fun t =>
      CoreRan n (Addr.svcPc n.val :: gregWords n rd) s t ∧ (rd ≠ 0 → t.greg n.val rd = (s.core n.val).cycleHi))
  ∧ (∀ (s : State) (n : Fin 4) (i : Fin 18) (ra : Reg), s.issues n (.puts i ra) = true →
    i.val = 1 ∨ i.val = 5 ∨ i.val = 6 ∨ i.val = 10 ∨ i.val = 12 →
    Runs (.puts n) s fun t =>
      CoreRan n [Addr.svcPc n.val, Addr.svcSreg n.val i.val] s t ∧ t.corePc n.val = s.corePc n.val + 4
      ∧ t.reg (Addr.svcSreg n.val i.val) = s.greg n.val ra &&& (match i.val with
          | 5 => 0x0001_FC00
          | 6 => 0x3F
          | 12 => 0xFFFF
          | _ => 0xFFFF_FFFF))
  ∧ (∀ (s : State) (n : Fin 4) (ra : Reg), s.issues n (.puts 17 ra) = true → (s.core n.val).rstack.length < 16 →
    Runs (.puts n) s fun t =>
      (t.core n.val).rstack = s.greg n.val ra :: (s.core n.val).rstack ∧ t.corePc n.val = s.corePc n.val + 4
      ∧ RegsBut [Addr.svcPc n.val] s t ∧ t.mem = s.mem)
  ∧ (∀ (s : State) (n : Fin 4) (rd ra : Reg) (a : FabricAddr) (g : Nat), s.issues n (.ldf rd ra) = true →
    a = s.pairAddr n.val ra → s.refusesAddr a .read = false → s.isOwn a = false → faNode a ≠ 254 →
    (s.liveTxns.any fun e => e.2.kind == .read && e.2.who == .core n) = false →
    s.freeTag = some g → s.ring.sync = .member →
    Runs (.ldf n) s fun t =>
      (t.core n.val).sync = .stalled ∧ (t.core n.val).stall = 3 ∧ t.corePc n.val = s.corePc n.val
      ∧ (∃ x, t.txn g = some x ∧ x.kind = .read ∧ x.who = .core n ∧ x.addr = a ∧ x.count = 1
          ∧ x.order = s.bridge.order ∧ x.waiting = true)
      ∧ t.bridge.order = s.bridge.order + 1 ∧ t.mem = s.mem ∧ t.queues = s.queues)
  ∧ (∀ (s : State) (n : Fin 4) (rs ra : Reg) (a : FabricAddr) (g : Nat), s.issues n (.stf rs ra) = true →
    a = s.pairAddr n.val ra → s.refusesAddr a .write = false → s.isOwn a = false → faNode a ≠ 254 →
    (s.liveTxns.any fun e => e.2.kind == .read && e.2.who == .core n) = false →
    s.freeTag = some g → s.ring.sync = .member →
    Runs (.stf n) s fun t =>
      (t.core n.val).sync = .stalled ∧ (t.core n.val).stall = 3 ∧ t.corePc n.val = s.corePc n.val
      ∧ (∃ x, t.txn g = some x ∧ x.kind = .write ∧ x.who = .core n ∧ x.addr = a ∧ x.data = [s.greg n.val rs])
      ∧ t.bridge.order = s.bridge.order + 1 ∧ t.mem = s.mem ∧ t.queues = s.queues)
  ∧ (∀ (s : State) (n : Fin 4) (rs ra : Reg) (a : FabricAddr) (g : Nat), s.issues n (.stfp rs ra) = true →
    a = s.pairAddr n.val ra → s.refusesAddr a .posted = false → s.isOwn a = false → faNode a ≠ 254 →
    (s.pairSelected (.core n) && s.pair.role != .off) = false →
    (s.liveTxns.any fun e => e.2.kind == .read && e.2.who == .core n) = false →
    s.bridge.waiting = [] → s.freeTag = some g → s.ring.sync = .member →
    Runs (.stfp n) s fun t =>
      (t.core n.val).sync = .running ∧ t.corePc n.val = s.corePc n.val + 4
      ∧ (∃ x, t.txn g = some x ∧ x.kind = .posted ∧ x.who = .core n ∧ x.addr = a ∧ x.data = [s.greg n.val rs])
      ∧ t.bridge.order = s.bridge.order + 1 ∧ t.mem = s.mem ∧ t.queues = s.queues)
  ∧ (∀ (s : State) (n : Fin 4) (rd ra : Reg) (d : TxnDone), s.start.logicUp = true →
    (s.core n.val).sync = .stalled → decodeS (s.core n.val).cur = some (.ldf rd ra) →
    (s.core n.val).haltDue = false → (s.core n.val).stepping = false →
    (s.isOwn (s.pairAddr n.val ra) && faSpace (s.pairAddr n.val ra) == 0) = false →
    (s.bridge.ended.find? fun e => e.who == .core n) = some d → d.cause = 0 →
    Runs (.svcStallComplete n) s fun t =>
      t = { s with regs := t.regs, cores := t.cores, bridge := { s.bridge with ended := s.bridge.ended.erase d } }
      ∧ RegsBut (Addr.svcPc n.val :: gregWords n rd) s t ∧ t.corePc n.val = s.corePc n.val + 4
      ∧ (t.core n.val).sync = .running ∧ (rd ≠ 0 → t.greg n.val rd = d.data.headD 0))

/-- R317, R332 to R336: SEND, RECV and DROPPKT that a core issues on a queue of which it is the producer or the consumer.
A word sent is appended with its mark and rr is 0; a word received leaves the head with its mark in rm; without room or
word the NB form answers 1 or 3 and the other form stalls. -/
def Obligations.QueueInstructionsRun : Prop :=
  (∀ (s : State) (n : Fin 4) (rs rr : Reg) (q : QSel) (nb : Bool) (m : Fin 3) (k : Nat) (mark : Mark),
    s.issues n (.send rs rr q nb m) = true → k = s.queueOf n.val q → mark = ([Mark.data, .last, .abort].getD m.val .data) →
    s.qOpen k = true → s.qProducer k = sourceId (.core n) → (s.queue k).dropping = false → (s.queue k).popWait = 0 →
    (s.queue k).words.length < (if mark = .abort then s.qSize k else s.qSize k - 1) → s.fault.inject.armed = false →
    Runs (.send n) s fun t =>
      t = { s with regs := t.regs, cores := t.cores, queues := t.queues, host := t.host }
      ∧ (t.queue k).words = (s.queue k).words ++ [⟨s.greg n.val rs, mark, 0⟩]
      ∧ (∀ j, j ≠ k → t.queue j = s.queue j)
      ∧ RegsBut (Addr.svcPc n.val :: Addr.qAbortCount k :: Addr.qEvents k :: gregWords n rr) s t
      ∧ (rr ≠ 0 → t.greg n.val rr = 0) ∧ t.corePc n.val = s.corePc n.val + 4)
  ∧ (∀ (s : State) (n : Fin 4) (rs rr : Reg) (q : QSel) (nb : Bool) (m : Fin 3) (k : Nat) (mark : Mark),
    s.issues n (.send rs rr q nb m) = true → k = s.queueOf n.val q → mark = ([Mark.data, .last, .abort].getD m.val .data) →
    s.qOpen k = true → s.qProducer k = sourceId (.core n) → (s.queue k).dropping = false →
    (if mark = .abort then s.qSize k else s.qSize k - 1) ≤ (s.queue k).words.length →
    Runs (.send n) s fun t =>
      t = { s with regs := t.regs, cores := t.cores } ∧ Noted (Addr.qEvents k) 1 s t
      ∧ (nb = true → RegsBut (Addr.svcPc n.val :: Addr.qEvents k :: gregWords n rr) s t ∧ (rr ≠ 0 → t.greg n.val rr = 1)
          ∧ t.corePc n.val = s.corePc n.val + 4)
      ∧ (nb = false → RegsBut [Addr.qEvents k] s t ∧ (t.core n.val).sync = .stalled ∧ (t.core n.val).stall = 2))
  ∧ (∀ (s : State) (n : Fin 4) (rd rm : Reg) (q : QSel) (nb : Bool) (k : Nat) (w : QWord) (r : List QWord),
    s.issues n (.recv rd rm q nb) = true → k = s.queueOf n.val q → s.qConsumer k = sourceId (.core n) →
    s.qAvail k = true → (s.queue k).words = w :: r → w.ecc = 0 →
    Runs (.recv n) s fun t =>
      t = { s with regs := t.regs, cores := t.cores, queues := t.queues }
      ∧ (t.queue k).words = r ∧ (t.queue k).started = (w.mark == .data) ∧ (∀ j, j ≠ k → t.queue j = s.queue j)
      ∧ RegsBut (Addr.svcPc n.val :: (gregWords n rm ++ gregWords n rd)) s t
      ∧ (rd ≠ 0 → rd ≠ rm → t.greg n.val rd = w.v)
      ∧ (rm ≠ 0 → t.greg n.val rm = match w.mark with | .data => 0 | .last => 1 | .abort => 2)
      ∧ t.corePc n.val = s.corePc n.val + 4)
  ∧ (∀ (s : State) (n : Fin 4) (rd rm : Reg) (q : QSel) (nb : Bool), s.issues n (.recv rd rm q nb) = true →
    (s.qConsumer (s.queueOf n.val q) ≠ sourceId (.core n) ∨ s.qAvail (s.queueOf n.val q) = false) →
    Runs (.recv n) s fun t =>
      t = { s with regs := t.regs, cores := t.cores }
      ∧ (nb = true → RegsBut (Addr.svcPc n.val :: (gregWords n rm ++ gregWords n rd)) s t
          ∧ (rm ≠ 0 → t.greg n.val rm = 3) ∧ (rd ≠ 0 → rd ≠ rm → t.greg n.val rd = 0))
      ∧ (nb = false → RegsBut [] s t ∧ (t.core n.val).sync = .stalled ∧ (t.core n.val).stall = 1))
  ∧ (∀ (s : State) (n : Fin 4) (q : QSel) (k : Nat) (a : List QWord) (w : QWord) (r : List QWord),
    s.issues n (.droppkt q) = true → k = s.queueOf n.val q → s.qConsumer k = sourceId (.core n) →
    (s.queue k).words = a ++ w :: r → (∀ x ∈ a, x.mark = .data) → w.mark ≠ .data →
    Runs (.droppkt n) s fun t =>
      t = { s with regs := t.regs, cores := t.cores, queues := t.queues }
      ∧ (t.queue k).words = r ∧ (∀ j, j ≠ k → t.queue j = s.queue j)
      ∧ RegsBut [Addr.svcPc n.val, Addr.qDroppedWords k] s t
      ∧ t.reg (Addr.qDroppedWords k) = satAdd (s.reg (Addr.qDroppedWords k)) (a.length + 1)
      ∧ t.corePc n.val = s.corePc n.val + 4)

/-- R318, R324, R327: RTT returns from a trap, WFE waits while no unmasked interrupt is pending and else goes on, BRK halts
the core with reason 3 while BRK_HALT is 1 and raises BREAK while it is 0. -/
def Obligations.SystemInstructionsRun : Prop :=
  (∀ (s : State) (n : Fin 4), s.issues n .rtt = true → s.ctxBit n.val 2 = true →
    Runs (.rtt n) s fun t =>
      CoreRan n [Addr.svcPc n.val, Addr.svcSreg n.val 0] s t ∧ t.corePc n.val = s.reg (Addr.svcSreg n.val 1)
      ∧ t.ctxBit n.val 0 = s.ctxBit n.val 1 ∧ t.ctxBit n.val 2 = false
      ∧ ∀ j, j ≠ 0 → j ≠ 2 → t.ctxBit n.val j = s.ctxBit n.val j)
  ∧ (∀ (s : State) (n : Fin 4), s.issues n .wfe = true → s.interrupts n.val = [] →
    Runs (.wfe n) s fun t =>
      t = { s with cores := t.cores } ∧ (t.core n.val).sync = .waiting ∧ ∀ m, m ≠ n.val → t.core m = s.core m)
  ∧ (∀ (s : State) (n : Fin 4), s.issues n .wfe = true → s.interrupts n.val ≠ [] →
    Runs (.wfe n) s fun t => CoreRan n [Addr.svcPc n.val] s t ∧ t.corePc n.val = s.corePc n.val + 4)
  ∧ (∀ (s : State) (n : Fin 4), s.issues n .brk = true → s.flag (Addr.svcCtrl n.val) 0 = true →
    Runs (.brk n) s fun t =>
      t = { s.dropFence (.core n) with regs := t.regs, cores := t.cores }
      ∧ RegsBut [Addr.svcPc n.val, Addr.svcEvents n.val] s t ∧ (t.core n.val).sync = .halted
      ∧ (t.core n.val).reason = 3 ∧ t.flag (Addr.svcEvents n.val) 0 = true ∧ t.flag (Addr.svcEvents n.val) 1 = true)
  ∧ (∀ (s : State) (n : Fin 4), s.issues n .brk = true → s.flag (Addr.svcCtrl n.val) 0 = false →
    s.ctxBit n.val 2 = false →
    Runs (.brk n) s fun t =>
      CoreRan n [Addr.svcPc n.val, Addr.svcSreg n.val 0, Addr.svcSreg n.val 1, Addr.svcSreg n.val 2] s t
      ∧ t.reg (Addr.svcSreg n.val 1) = s.corePc n.val ∧ t.reg (Addr.svcSreg n.val 2) = 8
      ∧ t.corePc n.val = s.reg (Addr.svcSreg n.val 5) + 0x100
      ∧ t.ctxBit n.val 0 = false ∧ t.ctxBit n.val 1 = s.ctxBit n.val 0 ∧ t.ctxBit n.val 2 = true)

/-- R321, R324: taking a trap while INTRAP is 0 saves the resume address, copies INTEN to its saved bit, clears it, sets
INTRAP, writes TRAPCODE and goes on at the vector; an interrupt takes the lowest pending unmasked bit, and an imprecise
exception the address of the store that failed first. -/
def Obligations.TrapsAreTaken : Prop :=
  (∀ (s : State) (n : Fin 4) (b : Nat) (r : List Nat), s.start.logicUp = true → (s.core n.val).sync = .running →
    s.bpMatch n.val = false → (s.core n.val).badStores = [] → (s.core n.val).haltDue = false →
    (s.core n.val).stepping = false → s.interrupts n.val = b :: r → s.ctxBit n.val 0 = true → s.ctxBit n.val 2 = false →
    Runs (.interruptEntry n) s fun t =>
      t = { s.dropFence (.core n) with regs := t.regs, cores := t.cores }
      ∧ RegsBut [Addr.svcPc n.val, Addr.svcSreg n.val 0, Addr.svcSreg n.val 1, Addr.svcSreg n.val 2] s t
      ∧ t.reg (Addr.svcSreg n.val 1) = s.corePc n.val ∧ t.reg (Addr.svcSreg n.val 2) = word (2 ^ 31 + b * 2 ^ 8)
      ∧ t.corePc n.val = s.reg (Addr.svcSreg n.val 5) + word (0x200 + b * 0x20)
      ∧ t.ctxBit n.val 0 = false ∧ t.ctxBit n.val 1 = true ∧ t.ctxBit n.val 2 = true
      ∧ (t.core n.val).sync = .running)
  ∧ (∀ (s : State) (n : Fin 4) (a : Word) (r : List Word), s.start.logicUp = true → (s.core n.val).sync = .running →
    (s.core n.val).haltDue = false → (s.core n.val).stepping = false → (s.core n.val).badStores = a :: r →
    s.ctxBit n.val 2 = false →
    Runs (.impreciseAccessException n) s fun t =>
      t = { s with regs := t.regs, cores := t.cores }
      ∧ RegsBut [Addr.svcPc n.val, Addr.svcSreg n.val 0, Addr.svcSreg n.val 1, Addr.svcSreg n.val 2,
          Addr.svcSreg n.val 3, Addr.svcSreg n.val 4] s t
      ∧ t.reg (Addr.svcSreg n.val 1) = s.corePc n.val ∧ t.reg (Addr.svcSreg n.val 2) = 0x14
      ∧ t.reg (Addr.svcSreg n.val 3) = a ∧ t.reg (Addr.svcSreg n.val 4) = 0
      ∧ t.corePc n.val = s.reg (Addr.svcSreg n.val 5) + 0x80
      ∧ t.ctxBit n.val 0 = false ∧ t.ctxBit n.val 1 = s.ctxBit n.val 0 ∧ t.ctxBit n.val 2 = true
      ∧ (t.core n.val).badStores = r)

/-- R313, R315, R321, R324: the precise exceptions of ordinary instructions: MISALIGNED and ACCESS of a load with its
address in TRAPADDR, ILLEGAL for RTT outside a trap, and RETURN_STACK for CALL on a full and RET on an empty stack. The
saved PC is that of the instruction, and rd keeps its value. -/
def Obligations.PreciseExceptionsAreTaken : Prop :=
  (∀ (s : State) (n : Fin 4) (op : LoadOp) (rd ra : Reg) (v : Half) (a : Word), s.issues n (.load op rd ra v) = true →
    a = s.greg n.val ra + v.signExtend 32 → s.ctxBit n.val 2 = false →
    (a.toNat % loadSize op ≠ 0 ∨ (0x6_0000 ≤ a.toNat ∧ a.toNat < 0x1000_0000)) →
    LoadRuns op n s fun t =>
      t = { s with regs := t.regs, cores := t.cores }
      ∧ RegsBut [Addr.svcPc n.val, Addr.svcSreg n.val 0, Addr.svcSreg n.val 1, Addr.svcSreg n.val 2,
          Addr.svcSreg n.val 3, Addr.svcSreg n.val 4] s t
      ∧ t.reg (Addr.svcSreg n.val 1) = s.corePc n.val ∧ t.reg (Addr.svcSreg n.val 3) = a
      ∧ t.reg (Addr.svcSreg n.val 2) = (if a.toNat % loadSize op ≠ 0 then 3 else 4)
      ∧ t.corePc n.val = s.reg (Addr.svcSreg n.val 5) + (if a.toNat % loadSize op ≠ 0 then 0x60 else 0x80))
  ∧ (∀ (s : State) (n : Fin 4), s.issues n .rtt = true → s.ctxBit n.val 2 = false →
    Runs (.rtt n) s fun t =>
      RegsBut [Addr.svcPc n.val, Addr.svcSreg n.val 0, Addr.svcSreg n.val 1, Addr.svcSreg n.val 2] s t
      ∧ t.reg (Addr.svcSreg n.val 1) = s.corePc n.val ∧ t.reg (Addr.svcSreg n.val 2) = 1
      ∧ t.corePc n.val = s.reg (Addr.svcSreg n.val 5) + 0x20)
  ∧ (∀ (s : State) (n : Fin 4) (off : BitVec 26), s.issues n (.call off) = true → s.ctxBit n.val 2 = false →
    16 ≤ (s.core n.val).rstack.length →
    Runs (.call n) s fun t =>
      (t.core n.val).rstack = (s.core n.val).rstack ∧ t.reg (Addr.svcSreg n.val 1) = s.corePc n.val
      ∧ t.reg (Addr.svcSreg n.val 2) = 9 ∧ t.corePc n.val = s.reg (Addr.svcSreg n.val 5) + 0x120)
  ∧ (∀ (s : State) (n : Fin 4), s.issues n .ret = true → s.ctxBit n.val 2 = false → (s.core n.val).rstack = [] →
    Runs (.ret n) s fun t =>
      t.reg (Addr.svcSreg n.val 1) = s.corePc n.val ∧ t.reg (Addr.svcSreg n.val 2) = 9
      ∧ t.corePc n.val = s.reg (Addr.svcSreg n.val 5) + 0x120)

/-- R323, R326 to R330: timer, doorbell, START, HALT, STEP, breakpoint and watchdog of a service core, and the scrubber's
read of a clean word. -/
def Obligations.CoreControlRuns : Prop :=
  (∀ (s : State) (n : Fin 4), s.start.logicUp = true → (s.core n.val).timerArmed = true →
    (s.reg (Addr.svcSreg n.val 10)).toNat + (s.reg (Addr.svcSreg n.val 11)).toNat * 2 ^ 32 ≤ s.timeNs →
    s.fenced n.val = false →
    Runs (.svcTimerCompare n) s fun t =>
      t = { s with regs := t.regs, cores := t.cores } ∧ RegsBut [Addr.svcSreg n.val 7] s t
      ∧ t.flag (Addr.svcSreg n.val 7) 0 = true
      ∧ t.core n.val = { s.core n.val with timerArmed := false } ∧ ∀ m, m ≠ n.val → t.core m = s.core m)
  ∧ (∀ (s : State) (i : Initiator) (n : Fin 4) (v : Word), s.ready i (Addr.svcDoorbell n.val) true = true →
    i ≠ .core n →
    Runs (.svcDoorbellWrite i n v) s fun t =>
      t = { s.written i (Addr.svcDoorbell n.val) .done with regs := t.regs }
      ∧ RegsBut [Addr.svcDoorbell n.val, Addr.svcSreg n.val 7] s t ∧ t.reg (Addr.svcDoorbell n.val) = v
      ∧ t.flag (Addr.svcSreg n.val 7) 1 = true)
  ∧ (∀ (s : State) (i : Initiator) (n : Fin 4) (v : Word), s.ready i (Addr.svcCmd n.val) true = true →
    bit v 1 = false → bit v 2 = false → (s.core n.val).sync = .halted → s.enabled (.core n) = true →
    Runs (.start i n v) s fun t =>
      t = { s.written i (Addr.svcCmd n.val) .done with cores := t.cores } ∧ (t.core n.val).sync = .running
      ∧ (t.core n.val).stepping = false ∧ t.corePc n.val = s.corePc n.val ∧ ∀ m, m ≠ n.val → t.core m = s.core m)
  ∧ (∀ (s : State) (i : Initiator) (n : Fin 4) (v : Word), s.ready i (Addr.svcCmd n.val) true = true →
    (s.core n.val).sync = .running →
    Runs (.halt i n v) s fun t =>
      t = { (s.dropFence (.core n)).written i (Addr.svcCmd n.val) .done with regs := t.regs, cores := t.cores }
      ∧ RegsBut [Addr.svcEvents n.val] s t ∧ (t.core n.val).sync = .halted ∧ (t.core n.val).reason = 1
      ∧ Noted (Addr.svcEvents n.val) 0 s t)
  ∧ (∀ (s : State) (i : Initiator) (n : Fin 4) (v : Word), s.ready i (Addr.svcCmd n.val) true = true →
    bit v 1 = false → (s.core n.val).sync = .halted → s.enabled (.core n) = true →
    Runs (.step i n v) s fun t =>
      t = { s.written i (Addr.svcCmd n.val) .done with cores := t.cores } ∧ (t.core n.val).sync = .running
      ∧ (t.core n.val).stepping = true)
  ∧ (∀ (s : State) (n : Fin 4), s.start.logicUp = true → (s.core n.val).sync = .running → s.bpMatch n.val = true →
    Runs (.breakpointHit n) s fun t =>
      t = { s.dropFence (.core n) with regs := t.regs, cores := t.cores } ∧ RegsBut [Addr.svcEvents n.val] s t
      ∧ (t.core n.val).sync = .halted ∧ (t.core n.val).reason = 2 ∧ t.flag (Addr.svcEvents n.val) 1 = true)
  ∧ (∀ (s : State) (n : Fin 4) (d : Nat), s.start.logicUp = true → (s.core n.val).sync ≠ .halted →
    d = s.field (Addr.svcWdog n.val) 0 16 → d ≠ 0 → (s.core n.val).kicked + 400 * d ≤ s.now →
    Runs (.watchdog n) s fun t =>
      t = { (s.unwait (.core n)).dropFence (.core n) with regs := t.regs, cores := t.cores, fault := t.fault }
      ∧ RegsBut [Addr.svcEvents n.val] s t ∧ (t.core n.val).sync = .halted ∧ (t.core n.val).reason = 6
      ∧ t.flag (Addr.svcEvents n.val) 3 = true ∧ t.flag (Addr.svcEvents n.val) 0 = true
      ∧ t.fault = (s.raise (.core n) .watchdog 0 none).fault)
  ∧ (∀ (s : State) (n : Fin 4) (a : Nat), s.start.logicUp = true → a % 4 = 0 → a < 0x6_0000 →
    Store.get 0 s.ecc (Addr.coreRam n.val + a) = 0 → exec (.memoryScrubRead n a) s = .next s)
  ∧ (∀ (s : State) (n : Fin 4) (a : Nat), s.start.logicUp = true → a % 4 = 0 → a < 0x6_0000 →
    Store.get 0 s.ecc (Addr.coreRam n.val + a) = 1 →
    Runs (.memoryScrubRead n a) s fun t =>
      t = { s with fault := t.fault, ecc := t.ecc } ∧ Store.get 0 t.ecc (Addr.coreRam n.val + a) = 0
      ∧ (∀ b, b ≠ Addr.coreRam n.val + a → Store.get 0 t.ecc b = Store.get 0 s.ecc b)
      ∧ t.fault.msgs.length = s.fault.msgs.length + 1)

/-- R151, R152, R156: NOP, ADDI, MOV, SETP, CLKSET and a jump, an event or a wait that ends at once, at an engine that issues
them. The engine goes on with the next word of its window, or at the target of the jump, and nothing else changes. -/
def Obligations.EngineDataInstructionsRun : Prop :=
  (∀ (s : State) (e : Fin 64), s.pIssues e .nop = true → Runs (.pNop e) s fun t => EngineRan e (s.eng e.val) s t)
  ∧ (∀ (s : State) (e : Fin 64) (b : Bool) (v : BitVec 10), s.pIssues e (.addi b v) = true →
    Runs (.pAddi e) s fun t =>
      EngineRan e (if b then { s.eng e.val with b := (s.eng e.val).b + v.signExtend 32 }
        else { s.eng e.val with a := (s.eng e.val).a + v.signExtend 32 }) s t)
  ∧ (∀ (s : State) (e : Fin 64) (d r : Fin 8) (o : Fin 4) (v : Word), s.pIssues e (.mov d r o) = true → d ≠ 5 →
    v = movOp o (s.movSource e.val r) →
    Runs (.pMov e) s fun t =>
      EngineRan e (match d with
        | 0 => { s.eng e.val with level := s.groupSet e.val (s.eng e.val).level (s.groupWidth e.val) v.toNat }
        | 1 => { s.eng e.val with a := v }
        | 2 => { s.eng e.val with b := v }
        | 3 => { s.eng e.val with so := v, soBits := 0 }
        | 4 => { s.eng e.val with si := v, siBits := 0 }
        | _ => { s.eng e.val with pindir := s.groupSet e.val (s.eng e.val).pindir (s.groupWidth e.val) v.toNat }) s t)
  ∧ (∀ (s : State) (e : Fin 64) (d : Fin 4) (v : Byte), s.pIssues e (.setp d v) = true →
    Runs (.pSetp e) s fun t =>
      EngineRan e (match d with
        | 0 => { s.eng e.val with level := s.groupSet e.val (s.eng e.val).level (min 8 (s.groupWidth e.val)) v.toNat }
        | 1 => { s.eng e.val with pindir := s.groupSet e.val (s.eng e.val).pindir (min 8 (s.groupWidth e.val)) v.toNat }
        | 2 => { s.eng e.val with a := v.zeroExtend 32 }
        | _ => { s.eng e.val with b := v.zeroExtend 32 }) s t)
  ∧ (∀ (s : State) (e : Fin 64) (level : Bool) (p : Nat), s.pIssues e (.clkset level) = true →
    p = s.field (Addr.engSclk e.val) 0 5 →
    Runs (.pClkset e) s fun t =>
      EngineRan e (if s.owns e.val p then { s.eng e.val with
          level := setBit (s.eng e.val).level p level, pindir := setBit (s.eng e.val).pindir p true }
        else s.eng e.val) s t)
  ∧ (∀ (s : State) (e : Fin 64) (c : Fin 8) (target : Byte), s.pIssues e (.jmp c target) = true →
    s.jmpCond e.val c = false → Runs (.pJmp e) s fun t => EngineRan e (s.eng e.val) s t)
  ∧ (∀ (s : State) (e : Fin 64) (c : Fin 8) (target : Byte), s.pIssues e (.jmp c target) = true →
    s.jmpCond e.val c = true → s.inWindow e.val target = true →
    Runs (.pJmp e) s fun t =>
      t = { s with engines := t.engines } ∧ (∀ k, k ≠ e.val → t.eng k = s.eng k)
      ∧ t.eng e.val = { s.eng e.val with pc := target, under := none })
  ∧ (∀ (s : State) (e : Fin 64) (op : Fin 4) (ev : Fin 8), s.pIssues e (.evt op ev) = true → op = 0 ∨ op = 2 →
    Runs (.pEvt e) s fun t =>
      t = { s with engines := t.engines, banks := t.banks }
      ∧ (op = 0 → t.bank (e.val / 8) = { s.bank (e.val / 8) with
              events := setBit (s.bank (e.val / 8)).events ev.val true,
              eventTicks := (ev.val, s.pinTick) :: (s.bank (e.val / 8)).eventTicks.filter fun y => y.1 != ev.val })
      ∧ (op = 2 → t.bank (e.val / 8) =
          if (s.bank (e.val / 8)).eventTicks.contains (ev.val, s.pinTick) then s.bank (e.val / 8)
          else { s.bank (e.val / 8) with events := setBit (s.bank (e.val / 8)).events ev.val false })
      ∧ (∀ k, k ≠ e.val / 8 → t.bank k = s.bank k)
      ∧ t.eng e.val = { s.eng e.val with pc := s.nextPc e.val (s.eng e.val).pc })
  ∧ (∀ (s : State) (e : Fin 64) (ev : Fin 8), s.pIssues e (.evt 3 ev) = true →
    Runs (.pEvt e) s fun t =>
      t = { s with engines := t.engines, regs := t.regs, host := t.host } ∧ RegsBut [Addr.engEvents e.val] s t
      ∧ Noted (Addr.engEvents e.val) 4 s t ∧ t.eng e.val = { s.eng e.val with pc := s.nextPc e.val (s.eng e.val).pc })
  ∧ (∀ (s : State) (e : Fin 64) (arg : Byte), s.pIssues e (.wait 0 arg) = true → s.engPin e.val arg.toNat = true →
    Runs (.pWait e) s fun t => EngineRan e (s.eng e.val) s t)

/-- R152, R154 to R158: STOP, SHO, SHI, FETCH, STORE, STAMP and a WAIT that waits, at an engine that issues them. SHO moves
bits out of SO and SHI into SI, FETCH and STORE move words between SO or SI and the FIFOs, STAMP pushes stamps to the RX
FIFO; an instruction that cannot go on leaves the engine STALLED at its PC. Levels that a SHI command brings change its pins
ahead of the clock. -/
def Obligations.EngineShiftAndFifoInstructionsRun : Prop :=
  (∀ (s : State) (e : Fin 64), s.pIssues e .stop = true → (s.eng e.val).slot = none →
    Runs (.pStop e) s fun t => EngineRan e { s.eng e.val with sync := .stopped } s t)
  ∧ (∀ (s : State) (e : Fin 64) (n : Fin 32) (k : Nat), s.pIssues e (.sho n 1 false) = true →
    s.flag (Addr.engCtrl e.val) 2 = false → k = n.val + 1 →
    Runs (.pSho e) s fun t =>
      EngineRan e { s.eng e.val with
        a := word (if s.flag (Addr.engCtrl e.val) 0 then (s.eng e.val).so.toNat % 2 ^ k
          else (s.eng e.val).so.toNat / 2 ^ (32 - k))
        so := word (if s.flag (Addr.engCtrl e.val) 0 then (s.eng e.val).so.toNat / 2 ^ k
          else (s.eng e.val).so.toNat * 2 ^ k)
        soBits := (s.eng e.val).soBits + k } s t)
  ∧ (∀ (s : State) (e : Fin 64) (n : Fin 32) (k v : Nat), s.pIssues e (.sho n 0 false) = true →
    s.flag (Addr.engCtrl e.val) 2 = false → s.flag (Addr.engCtrl e.val) 0 = true → k = n.val + 1 →
    k ≤ s.groupWidth e.val → v = (s.eng e.val).so.toNat % 2 ^ k →
    Runs (.pSho e) s fun t =>
      t = { s with engines := t.engines, out := .slice e.val k (word v) :: s.out }
      ∧ t.eng e.val = { s.eng e.val with
          level := s.groupSet e.val (s.eng e.val).level k v, so := word ((s.eng e.val).so.toNat / 2 ^ k)
          soBits := (s.eng e.val).soBits + k, pc := s.nextPc e.val (s.eng e.val).pc })
  ∧ (∀ (s u : State) (e : Fin 64) (levels : List (Fin 32 × Bool)) (n : Fin 32) (src : Fin 4) (k v : Nat),
    s.start.logicUp = true → u = s.pinInputs (e.val / 8) levels → u.pIssues e (.shi n src false) = true →
    u.flag (Addr.engCtrl e.val) 3 = false → k = n.val + 1 → (src = 0 → k ≤ u.groupWidth e.val) →
    v = (match src.val with
      | 0 => u.groupBits e.val (u.rawWord (e.val / 8)) k
      | 1 => (u.eng e.val).a.toNat % 2 ^ k
      | 2 => (u.eng e.val).b.toNat % 2 ^ k
      | _ => 0) →
    Runs (.pShi e levels) s fun t =>
      EngineRan e { u.eng e.val with
        si := word (if u.flag (Addr.engCtrl e.val) 1 then (u.eng e.val).si.toNat / 2 ^ k + v * 2 ^ (32 - k)
          else (u.eng e.val).si.toNat * 2 ^ k + v)
        siBits := (u.eng e.val).siBits + k } u t)
  ∧ (∀ (s : State) (e : Fin 64) (blk : Bool) (w : Word) (r : List Word), s.pIssues e (.fetch blk) = true →
    (s.eng e.val).tx = w :: r →
    Runs (.pFetch e) s fun t =>
      EngineRan e { s.eng e.val with so := w, soBits := 0, tx := r, lastTx := w } s t)
  ∧ (∀ (s : State) (e : Fin 64), s.pIssues e (.fetch true) = true → (s.eng e.val).tx = [] →
    Runs (.pFetch e) s fun t =>
      t = { s with engines := t.engines } ∧ t.eng e.val = { s.eng e.val with
        sync := .stalled, cur := some { word := s.pWord e.val, stall := 2 } })
  ∧ (∀ (s : State) (e : Fin 64) (blk : Bool), s.pIssues e (.store blk) = true →
    (s.eng e.val).rx.length < s.rxDepth e.val →
    Runs (.pStore e) s fun t =>
      EngineRan e { s.eng e.val with rx := (s.eng e.val).rx ++ [(s.eng e.val).si], si := 0, siBits := 0 } s t)
  ∧ (∀ (s : State) (e : Fin 64), s.pIssues e (.store false) = true → s.rxDepth e.val ≤ (s.eng e.val).rx.length →
    s.field (Addr.engFifoCtrl e.val) 0 16 = 0 →
    Runs (.pStore e) s fun t =>
      t = { s with engines := t.engines, regs := t.regs } ∧ RegsBut [Addr.engDiscardCount e.val] s t
      ∧ t.reg (Addr.engDiscardCount e.val) = satAdd (s.reg (Addr.engDiscardCount e.val)) 1
      ∧ t.eng e.val = { s.eng e.val with
          si := 0, siBits := 0, staleRun := (s.eng e.val).staleRun + 1, pc := s.nextPc e.val (s.eng e.val).pc })
  ∧ (∀ (s : State) (e : Fin 64) (what : Fin 4), s.pIssues e (.stamp what true) = true →
    (s.eng e.val).rx.length + (s.stampValues what).length ≤ s.rxDepth e.val →
    Runs (.pStamp e) s fun t =>
      EngineRan e { s.eng e.val with rx := (s.eng e.val).rx ++ (match what.val with
        | 0 => [word s.timeNs, word (s.timeNs / 2 ^ 32)]
        | 1 => [word s.timeNs]
        | 2 => [s.angleNow]
        | _ => [s.cycleAt s.time16]) } s t)
  ∧ (∀ (s : State) (e : Fin 64) (arg : Byte), s.pIssues e (.wait 1 arg) = true → s.engPin e.val arg.toNat = true →
    Runs (.pWait e) s fun t =>
      t = { s with engines := t.engines } ∧ t.eng e.val = { s.eng e.val with
        sync := .stalled, cur := some { word := s.pWord e.val, stall := 1 } })

/-- R155, R156, R159, R160: a wait whose condition holds and a stall whose FIFO has room again end; an injected instruction
runs in place of a fetch; the FIFOs exchange words with their queues. -/
def Obligations.EngineEventsRun : Prop :=
  (∀ (s : State) (e : Fin 64) (arg : Byte) (l : Latched), s.start.logicUp = true → (s.eng e.val).sync = .stalled →
    (s.eng e.val).cur = some l → l.stall = 1 → l.injected = false → decodeP l.word = some (.wait 0 arg) →
    s.engPin e.val arg.toNat = true →
    Runs (.engineWaitResume e) s fun t =>
      EngineRan e { s.eng e.val with sync := .running, cur := none } s t)
  ∧ (∀ (s u : State) (e : Fin 64) (levels : List (Fin 32 × Bool)) (l : Latched) (w : Word) (r : List Word),
    s.start.logicUp = true → u = s.pinInputs (e.val / 8) levels →
    (u.eng e.val).sync = .stalled → (u.eng e.val).cur = some l → l.stall = 2 → l.injected = false →
    decodeP l.word = some (.fetch true) → (u.eng e.val).tx = w :: r →
    Runs (.engineStallResume e levels) s fun t =>
      EngineRan e { u.eng e.val with
        sync := .running, cur := none, so := w, soBits := 0, tx := r, lastTx := w } u t)
  ∧ (∀ (s u : State) (e : Fin 64) (levels : List (Fin 32 × Bool)) (w : Half),
    s.start.logicUp = true → u = s.pinInputs (e.val / 8) levels →
    (u.eng e.val).sync = .running → (u.eng e.val).cur = none → (u.eng e.val).slot = some w →
    (u.eng e.val).slotAt + 2 ≤ u.now → decodeP w = some (.addi false 5) →
    Runs (.injectedInstructionExecute e levels) s fun t =>
      t = { u with engines := t.engines } ∧ (∀ k, k ≠ e.val → t.eng k = u.eng k)
      ∧ t.eng e.val = { u.eng e.val with a := (u.eng e.val).a + 5, slot := none, under := none })
  ∧ (∀ (s : State) (e : Fin 64) (q : Nat) (w : QWord) (r : List QWord), s.start.logicUp = true →
    s.flag (Addr.engQbind e.val) 6 = true → (s.eng e.val).tx.length < s.txDepth e.val →
    q = s.field (Addr.engQbind e.val) 0 6 → s.qConsumer q = sourceId (.engine e) → s.qAvail q = true →
    (s.queue q).words = w :: r → w.ecc = 0 → w.mark ≠ .abort →
    Runs (.engTxqFill e) s fun t =>
      t = { s with engines := t.engines, queues := t.queues } ∧ (t.queue q).words = r
      ∧ t.eng e.val = { s.eng e.val with tx := (s.eng e.val).tx ++ [w.v] })
  ∧ (∀ (s : State) (e : Fin 64) (q n : Nat) (w : Word) (r : List Word), s.start.logicUp = true →
    s.flag (Addr.engQbind e.val) 14 = true → (s.eng e.val).rx = w :: r → q = s.field (Addr.engQbind e.val) 8 6 →
    n = s.field (Addr.engQbind e.val) 16 8 → s.qOpen q = true → s.qProducer q = sourceId (.engine e) →
    (s.queue q).dropping = false → (s.queue q).popWait = 0 → (s.queue q).words.length < s.qSize q - 1 →
    s.fault.inject.armed = false →
    Runs (.engRxqDrain e) s fun t =>
      t = { s with engines := t.engines, queues := t.queues, host := t.host } ∧ (t.eng e.val).rx = r
      ∧ (t.queue q).words = (s.queue q).words ++
          [⟨w, if (if n = 0 then 256 else n) ≤ (s.eng e.val).pktWords + 1 then .last else .data, 0⟩])

/-- R147, R148, R157, R159, R160: what a register write does to an engine that is idle or whose FIFO has room, and what a
read of ENG_RXF takes; the access is answered, and the other engines stay as they are. -/
def Obligations.EngineRegisterAccessesRun : Prop :=
  (∀ (s : State) (i : Initiator) (n : Fin 8) (v : Word), s.ready i (Addr.bankEngStart n.val) true = true →
    Runs (.bankEngStart i n v) s fun t =>
      t = { s.written i (Addr.bankEngStart n.val) .done with engines := t.engines }
      ∧ ∀ k, k < 64 → (t.eng k).sync =
          (if k / 8 = n.val ∧ bit v (k % 8) = true ∧ s.enabled (.engine (fin 63 k)) = true
              ∧ (s.eng k).stopTick ≠ some s.pinTick then
            (match (s.eng k).sync with
              | .stopped => if ((s.eng k).cur.map fun l => l.stall != 0) = some true then .stalled else .running
              | .faulted => .running
              | x => x)
          else (s.eng k).sync))
  ∧ (∀ (s : State) (i : Initiator) (n : Fin 8) (v : Word), s.ready i (Addr.bankEngStop n.val) true = true →
    (∀ k, k < 64 → (s.eng k).slot = none) →
    Runs (.bankEngStop i n v) s fun t =>
      t = { s.written i (Addr.bankEngStop n.val) .done with engines := t.engines }
      ∧ ∀ k, k < 64 → t.eng k =
          (if k / 8 = n.val ∧ bit v (k % 8) = true then
            { s.eng k with
              stopTick := some s.pinTick
              sync := if (s.eng k).sync = .running ∨ (s.eng k).sync = .stalled then .stopped else (s.eng k).sync }
          else s.eng k))
  ∧ (∀ (s : State) (i : Initiator) (e : Fin 64) (v : Word), s.ready i (Addr.engPc e.val) true = true →
    (s.eng e.val).sync = .stopped →
    Runs (.engPcWrite i e v) s fun t =>
      t = { s.written i (Addr.engPc e.val) .done with engines := t.engines } ∧ (∀ k, k ≠ e.val → t.eng k = s.eng k)
      ∧ t.eng e.val = { s.eng e.val with
          pc := v.truncate 8, cur := none, under := none
          slot := if (s.eng e.val).injecting then none else (s.eng e.val).slot })
  ∧ (∀ (s : State) (i : Initiator) (e : Fin 64) (v : Word), s.ready i (Addr.engCtrl e.val) true = true →
    Runs (.engCtrlWrite i e v) s fun t =>
      t = { s.written i (Addr.engCtrl e.val) .done with engines := t.engines, regs := t.regs }
      ∧ RegsBut [Addr.engCtrl e.val] s t ∧ t.field (Addr.engCtrl e.val) 16 2 = bits v 16 2
      ∧ t.field (Addr.engCtrl e.val) 0 16 = bits v 0 16
      ∧ (bits v 16 2 = s.field (Addr.engCtrl e.val) 16 2 → t.eng e.val = s.eng e.val)
      ∧ (bits v 16 2 ≠ s.field (Addr.engCtrl e.val) 16 2 → t.eng e.val = { s.eng e.val with tx := [], rx := [] }))
  ∧ (∀ (s : State) (i : Initiator) (e : Fin 64) (v : Word), s.ready i (Addr.engInject e.val) true = true →
    (s.eng e.val).slot = none → (s.eng e.val).sync = .running →
    Runs (.engInjectWrite i e v) s fun t =>
      t = { s.written i (Addr.engInject e.val) .done with engines := t.engines }
      ∧ t.eng e.val = { s.eng e.val with slot := some (v.truncate 16), slotAt := s.now })
  ∧ (∀ (s : State) (i : Initiator) (e : Fin 64) (v : Word), s.ready i (Addr.engTxf e.val) true = true →
    s.flag (Addr.engQbind e.val) 6 = false → (s.eng e.val).tx.length < s.txDepth e.val →
    Runs (.engTxfWrite i e v) s fun t =>
      t = { s.written i (Addr.engTxf e.val) .done with engines := t.engines }
      ∧ t.eng e.val = { s.eng e.val with tx := (s.eng e.val).tx ++ [v] })
  ∧ (∀ (s : State) (i : Initiator) (e : Fin 64) (w : Word) (r : List Word), s.ready i (Addr.engRxf e.val) false = true →
    s.flag (Addr.engQbind e.val) 14 = false → (s.eng e.val).rx = w :: r →
    Runs (.engRxfRead i e) s fun t =>
      t = { s with engines := t.engines, out := .access i (Addr.engRxf e.val) (.data w) :: s.out }
      ∧ t.eng e.val = { s.eng e.val with rx := r })

/-- R137, R140, R141, R143 to R145: a write of PIN_CFG, a change of a pin's synchronised level, the end of its filter
time, the chatter window and its release, records that leave a bank, and the supply of a bank. The last clause says that
an accepted edge of an enabled direction makes a record of four words (kind, level, pin and sequence number; two words of
the edge's time in ns; the angle at that time) that enters the bank's queue when no other record waits. -/
def Obligations.PinsAndBanksRun : Prop :=
  (∀ (s : State) (i : Initiator) (pin : Fin 256) (v : Word), s.ready i (pinCfgAddr pin.val) true = true →
    Runs (.pinCfgWrite i pin v) s fun t =>
      t = { s.written i (pinCfgAddr pin.val) .done with regs := t.regs } ∧ RegsBut [pinCfgAddr pin.val] s t
      ∧ t.reg (pinCfgAddr pin.val) = v &&& 0xFFFF_3F7F)
  ∧ (∀ (s : State) (pin : Fin 256) (level : Bool), s.start.logicUp = true → (s.pin pin.val).raw = !level →
    (s.pin pin.val).filt = !level → s.field (pinCfgAddr pin.val) 16 16 ≠ 0 →
    Runs (.pinInputChange pin level) s fun t =>
      t = { s with pins := t.pins } ∧ (∀ k, k ≠ pin.val → t.pin k = s.pin k)
      ∧ t.pin pin.val = { s.pin pin.val with raw := level, edge := some (s.time16 - 10 * 65536) })
  ∧ (∀ (s : State) (pin : Fin 256) (level : Bool), s.start.logicUp = true → (s.pin pin.val).raw = !level →
    (s.pin pin.val).filt = level →
    Runs (.pinInputChange pin level) s fun t =>
      t = { s with pins := t.pins } ∧ (∀ k, k ≠ pin.val → t.pin k = s.pin k)
      ∧ t.pin pin.val = { s.pin pin.val with raw := level, edge := none })
  ∧ (∀ (s : State) (pin : Fin 256) (e : Int), s.start.logicUp = true → (s.pin pin.val).edge = some e →
    s.field (Addr.bankChat (pin.val / 32)) 0 8 = 0 → s.flag (pinCfgAddr pin.val) 11 = false →
    s.flag (pinCfgAddr pin.val) 12 = false →
    Runs (.pinEdgeAccept pin) s fun t =>
      t = { s with pins := t.pins } ∧ (∀ k, k ≠ pin.val → t.pin k = s.pin k)
      ∧ t.pin pin.val = { s.pin pin.val with filt := (s.pin pin.val).raw, edge := none })
  ∧ (∀ (s : State) (pin : Fin 256) (e : Int) (b : Nat), s.start.logicUp = true → b = pin.val / 32 →
    (s.pin pin.val).edge = some e → s.field (Addr.bankChat b) 0 8 = 2 → (s.pin pin.val).suppressed = false →
    (s.pin pin.val).edges = 1 → s.flag (pinCfgAddr pin.val) 11 = false → s.flag (pinCfgAddr pin.val) 12 = false →
    Runs (.pinEdgeAccept pin) s fun t =>
      t = { s with pins := t.pins, regs := t.regs } ∧ RegsBut [Addr.bankEvents b] s t
      ∧ Noted (Addr.bankEvents b) 1 s t ∧ (∀ k, k ≠ pin.val → t.pin k = s.pin k)
      ∧ t.pin pin.val = { s.pin pin.val with
          filt := (s.pin pin.val).raw, edge := none, edges := 0, suppressed := true })
  ∧ (∀ (s : State) (n : Fin 8) (w : List (Word × Mark)) (r : List (List (Word × Mark))) (q : Nat),
    s.start.logicUp = true → (s.bank n.val).buffer = w :: r → r = [] → q = s.field (Addr.bankEvtCtrl n.val) 0 6 →
    s.qOpen q = true → s.qProducer q = sourceId (.bank n) → (s.queue q).dropping = false → (s.queue q).popWait = 0 →
    (s.queue q).words.length + w.length < s.qSize q → (∀ p, p ∈ w → p.2 ≠ .abort) → s.fault.inject.armed = false →
    Runs (.eventRecordDrain n) s fun t =>
      t = { s with banks := t.banks, queues := t.queues, regs := t.regs, host := t.host }
      ∧ t.bank n.val = { s.bank n.val with buffer := [] }
      ∧ (t.queue q).words = (s.queue q).words ++ w.map fun p => ⟨p.1, p.2, 0⟩)
  ∧ (∀ (s : State) (pin : Fin 256), s.start.logicUp = true →
    Runs (.chatterWindowExpiry pin) s fun t =>
      t = { s with pins := t.pins } ∧ (∀ k, k ≠ pin.val → t.pin k = s.pin k)
      ∧ t.pin pin.val = { s.pin pin.val with edges := 0 })
  ∧ (∀ (s : State) (pin : Fin 256), s.start.logicUp = true → (s.pin pin.val).suppressed = true →
    s.flag (pinCfgAddr pin.val) 11 = false → s.flag (pinCfgAddr pin.val) 12 = false →
    Runs (.chatterRelease pin) s fun t =>
      t = { s with pins := t.pins } ∧ (∀ k, k ≠ pin.val → t.pin k = s.pin k)
      ∧ t.pin pin.val = { s.pin pin.val with edges := 0, suppressed := false })
  ∧ (∀ (s : State) (n : Fin 8), s.start.logicUp = true → s.enabled (.bank n) = true → s.ring.sync ≠ .transit →
    Runs (.bankVmismatch n) s fun t =>
      t = { s with banks := t.banks, regs := t.regs, ring := t.ring, fault := t.fault }
      ∧ RegsBut [Addr.bankEvents n.val, Addr.ringEvents] s t ∧ Noted (Addr.bankEvents n.val) 2 s t
      ∧ Noted Addr.ringEvents 1 s t ∧ t.ring = { s.ring with sync := .transit, cause := 3 }
      ∧ t.bank n.val = { s.bank n.val with vok := false, mismatch := true }
      ∧ t.fault = (s.raise (.bank n) .ringTopologyMismatch 3 none).fault)
  ∧ (∀ (s : State) (n : Fin 8),
    Runs (.bankVokRecover n) s fun t =>
      t = { s with banks := t.banks } ∧ (∀ k, k ≠ n.val → t.bank k = s.bank k)
      ∧ t.bank n.val = { s.bank n.val with vok := true, mismatch := false })
  ∧ (∀ (s : State) (pin : Fin 256) (e : Int) (b q : Nat), s.start.logicUp = true → b = pin.val / 32 →
    (s.pin pin.val).edge = some e → s.field (Addr.bankChat b) 0 8 = 0 → s.flag (pinCfgAddr pin.val) 10 = false →
    (s.pin pin.val).raw = true → s.flag (pinCfgAddr pin.val) 11 = true → s.flag (Addr.bankUnitCtrl b) 0 = true →
    s.flag (Addr.bankEvtCtrl b) 6 = true → q = s.field (Addr.bankEvtCtrl b) 0 6 → (s.bank b).buffer = [] →
    s.qOpen q = true → s.qProducer q = sourceId (bankUnit b) → (s.queue q).dropping = false →
    (s.queue q).popWait = 0 → (s.queue q).words.length + 4 < s.qSize q → s.fault.inject.armed = false →
    Runs (.pinEdgeAccept pin) s fun t =>
      (t.queue q).words = (s.queue q).words ++
          [⟨word (2 ^ 28 + 2 ^ 27 + pin.val * 2 ^ 16 + (s.bank b).seq.toNat), .data, 0⟩,
           ⟨word (e / 65536).toNat, .data, 0⟩, ⟨word ((e / 65536).toNat / 2 ^ 32), .data, 0⟩,
           ⟨wordInt (s.angleAt e), .last, 0⟩]
      ∧ (t.bank b).seq = (s.bank b).seq + 1 ∧ (t.bank b).buffer = [])

/-- R168, R170, R177, R178: the states of a CAN controller: what a write of CAN_CTRL with INIT, RECOVER or SLEEP_REQ set or
cleared does, the ends of integration and of recovery, sleep and the two wakes, and a protocol error, after which TEC or REC
has risen, a controller with a counter of 128 is error-passive and one with TEC above 255 bus-off. -/
def Obligations.CanStatesRun : Prop :=
  (∀ (s : State) (i : Initiator) (n : Fin 8) (v : Word), s.ready i (Addr.canCtrl n.val) true = true →
    (s.can n.val).sending = none →
    Runs (.canInitSet i n v) s fun t =>
      t = { s.written i (Addr.canCtrl n.val) .done with regs := t.regs, cans := t.cans, canWakes := t.canWakes }
      ∧ RegsBut [Addr.canCtrl n.val] s t ∧ t.field (Addr.canCtrl n.val) 1 4 = bits v 1 4
      ∧ t.flag (Addr.canCtrl n.val) 0 = true ∧ t.field (Addr.canCtrl n.val) 6 4 = bits v 6 4
      ∧ (∀ k, k ≠ n.val → t.can k = s.can k)
      ∧ t.can n.val = { s.can n.val with sync := .init, get := 0, fill := 0, lock := none })
  ∧ (∀ (s : State) (i : Initiator) (n : Fin 8) (v : Word), s.ready i (Addr.canCtrl n.val) true = true →
    (s.can n.val).sync = .init →
    Runs (.canInitClear i n v) s fun t =>
      t = { s.written i (Addr.canCtrl n.val) .done with regs := t.regs, cans := t.cans }
      ∧ RegsBut [Addr.canCtrl n.val] s t ∧ t.flag (Addr.canCtrl n.val) 0 = false
      ∧ (∀ k, k ≠ n.val → t.can k = s.can k)
      ∧ t.can n.val = { s.can n.val with
          sync := if s.canTimingValid n.val && s.enabled (.can n) then .integrating else .init
          timingBad := !s.canTimingValid n.val })
  ∧ (∀ (s : State) (i : Initiator) (n : Fin 8) (v : Word), s.ready i (Addr.canCtrl n.val) true = true →
    (s.can n.val).sync = .busOff → bit v 0 = false →
    Runs (.canRecover i n v) s fun t =>
      t = { s.written i (Addr.canCtrl n.val) .done with regs := t.regs, cans := t.cans }
      ∧ RegsBut [Addr.canCtrl n.val] s t ∧ t.flag (Addr.canCtrl n.val) 5 = false
      ∧ (∀ k, k ≠ n.val → t.can k = s.can k) ∧ t.can n.val = { s.can n.val with sync := .recovering })
  ∧ (∀ (s : State) (i : Initiator) (n : Fin 8) (v : Word), s.ready i (Addr.canCtrl n.val) true = true →
    (s.can n.val).sync = .errorActive → bit v 0 = false →
    Runs (.canSleepReq i n v) s fun t =>
      t = { s.written i (Addr.canCtrl n.val) .done with regs := t.regs }
      ∧ RegsBut [Addr.canCtrl n.val] s t ∧ t.flag (Addr.canCtrl n.val) 6 = true)
  ∧ (∀ (s : State) (i : Initiator) (n : Fin 8) (v : Word), s.ready i (Addr.canCtrl n.val) true = true →
    (s.can n.val).sync = .sleep → bit v 0 = false →
    Runs (.canSleepReqClear i n v) s fun t =>
      t = { s.written i (Addr.canCtrl n.val) .done with regs := t.regs, cans := t.cans, canWakes := t.canWakes }
      ∧ RegsBut [Addr.canCtrl n.val, Addr.canEvents n.val] s t ∧ Noted (Addr.canEvents n.val) 9 s t
      ∧ t.can n.val = { s.can n.val with sync := .integrating, wakeCause := 4 })
  ∧ (∀ (s : State) (n : Fin 8), s.start.logicUp = true → (s.can n.val).sync = .integrating →
    (s.can n.val).txErr < 128 → (s.can n.val).rxErr < 128 →
    Runs (.canIntegrationComplete n) s fun t =>
      t = { s with cans := t.cans } ∧ (∀ k, k ≠ n.val → t.can k = s.can k)
      ∧ t.can n.val = { s.can n.val with sync := .errorActive })
  ∧ (∀ (s : State) (n : Fin 8), s.start.logicUp = true → (s.can n.val).sync = .recovering →
    Runs (.canRecoveryComplete n) s fun t =>
      t = { s with cans := t.cans, regs := t.regs } ∧ RegsBut [Addr.canEvents n.val] s t
      ∧ Noted (Addr.canEvents n.val) 7 s t ∧ (∀ k, k ≠ n.val → t.can k = s.can k)
      ∧ t.can n.val = { s.can n.val with sync := .errorActive, txErr := 0, rxErr := 0 })
  ∧ (∀ (s : State) (n : Fin 8), s.start.logicUp = true → s.canOnBus n.val = true →
    s.flag (Addr.canCtrl n.val) 6 = true → (s.can n.val).sending = none →
    Runs (.canSleepEnter n) s fun t =>
      t = { s with cans := t.cans, canWakes := t.canWakes, regs := t.regs } ∧ RegsBut [Addr.canEvents n.val] s t
      ∧ Noted (Addr.canEvents n.val) 10 s t ∧ t.can n.val = { s.can n.val with sync := .sleep }
      ∧ (t.canWakeOf n.val).asleep = true ∧ (t.canWakeOf n.val).frameMode = s.flag (Addr.canCtrl n.val) 7
      ∧ (t.canWakeOf n.val).wufId = s.reg (Addr.canWufId n.val))
  ∧ (∀ (s : State) (n : Fin 8) (lec : Fin 8) (kind : CanErrCount) (tdc : Option Nat) (rise : Nat),
    s.start.logicUp = true → (s.can n.val).sync = .errorActive → (s.can n.val).sending = none →
    (kind = .flag → (s.can n.val).sentLast = false) → rise = (if kind = .flag then 8 else 1) →
    (s.can n.val).txErr < 128 → (s.can n.val).rxErr + rise < 128 →
    Runs (.canProtocolError n lec ⟨kind, tdc⟩) s fun t =>
      t = { s with cans := t.cans, regs := t.regs } ∧ RegsBut [Addr.canEvents n.val, Addr.canErrCount n.val] s t
      ∧ Noted (Addr.canEvents n.val) 8 s t
      ∧ t.reg (Addr.canErrCount n.val) = satAdd (s.reg (Addr.canErrCount n.val)) 1
      ∧ t.can n.val = { s.can n.val with
          rxErr := (s.can n.val).rxErr + rise, lec := lec.val, sentLast := false })
  ∧ (∀ (s : State) (n : Fin 8) (lec : Fin 8) (kind : CanErrCount) (tdc : Option Nat) (rise : Nat) (c : CanTx),
    s.start.logicUp = true → (s.can n.val).sync = .errorPassive → (s.can n.val).sending = some c →
    (s.can n.val).cancelled = false → s.flag (Addr.canCtrl n.val) 3 = false →
    (kind = .flag → (s.can n.val).sentLast = true) →
    rise = (if kind = .exempt ∧ (lec.val = 1 ∨ lec.val = 3) then 0 else 8) → 255 < (s.can n.val).txErr + rise →
    Runs (.canProtocolError n lec ⟨kind, tdc⟩) s fun t =>
      t = { s with cans := t.cans, regs := t.regs, fault := t.fault }
      ∧ t.flag (Addr.canEvents n.val) 6 = true ∧ t.flag (Addr.canEvents n.val) 8 = true
      ∧ t.can n.val = { s.can n.val with
          sync := if s.flag (Addr.canCtrl n.val) 4 then .recovering else .busOff, sending := none
          txErr := (s.can n.val).txErr + rise, lec := lec.val, sentLast := true }
      ∧ t.reg (Addr.canTdcMeas n.val) = (match tdc with
          | some d => if s.flag (Addr.canTx n.val c.buf 1) 5 = true ∧ d ≤ 127 then word d
              else s.reg (Addr.canTdcMeas n.val)
          | none => s.reg (Addr.canTdcMeas n.val))
      ∧ t.fault = (s.raise (.can n) .canBusOff 0 none).fault)
  ∧ (∀ (s : State) (n : Fin 8), s.start.logicUp = true → (s.canWakeOf n.val).asleep = true →
    (s.canWakeOf n.val).frameMode = false → s.flag Addr.cometHibCtrl (16 + n.val) = false → (s.can n.val).sync = .sleep →
    Runs (.canWakeDominant n) s fun t =>
      t = { s with cans := t.cans, canWakes := t.canWakes, regs := t.regs } ∧ RegsBut [Addr.canEvents n.val] s t
      ∧ Noted (Addr.canEvents n.val) 9 s t ∧ (t.canWakeOf n.val).asleep = false
      ∧ t.can n.val = { s.can n.val with sync := .integrating, wakeCause := 1 })
  ∧ (∀ (s : State) (n : Fin 8) (f : CanFrame), s.start.logicUp = true → (s.canWakeOf n.val).asleep = true →
    (s.canWakeOf n.val).frameMode = true → s.flag Addr.cometHibCtrl (16 + n.val) = false → f.fdf = false →
    (s.can n.val).sync = .sleep →
    Runs (.canWakeFrameDecode n (some f)) s fun t =>
      (wakeMatch (s.canWakeOf n.val) f = false → t = s)
      ∧ (wakeMatch (s.canWakeOf n.val) f = true →
        t = { s with cans := t.cans, canWakes := t.canWakes, regs := t.regs } ∧ RegsBut [Addr.canEvents n.val] s t
        ∧ Noted (Addr.canEvents n.val) 9 s t
        ∧ t.can n.val = { s.can n.val with sync := .integrating, wakeCause := 2 }))

/-- R171 to R176: frames of a CAN controller: the pending buffer that wins is sent, the end of a transmission by success, by
a lost arbitration and by a cancel, the receive FIFO with the words of an accepted frame, and its two reads. -/
def Obligations.CanFramesRun : Prop :=
  (∀ (s : State) (n : Fin 8) (b : Nat), s.start.logicUp = true → s.canOnBus n.val = true →
    (s.can n.val).sending = none → s.flag (Addr.canCtrl n.val) 6 = false → s.canNext n.val = some b →
    Runs (.canTxStart n) s fun t =>
      t = { s with cans := t.cans, out := .can n.val (s.canTxFrame n.val b) :: s.out }
      ∧ (∀ k, k ≠ n.val → t.can k = s.can k)
      ∧ t.can n.val = { s.can n.val with sending := some ⟨b, s.timeNs⟩, cancelled := false })
  ∧ (∀ (s : State) (n : Fin 8) (c : CanTx), s.start.logicUp = true → (s.can n.val).sending = some c →
    (s.can n.val).cancelled = false →
    Runs (.canArbitrationLost n) s fun t =>
      t = { s with cans := t.cans, regs := t.regs } ∧ (∀ k, k ≠ n.val → t.can k = s.can k)
      ∧ (s.flag (Addr.canCtrl n.val) 3 = false → RegsBut [] s t ∧ t.can n.val = { s.can n.val with sending := none })
      ∧ (s.flag (Addr.canCtrl n.val) 3 = true → RegsBut [Addr.canEvents n.val] s t ∧ Noted (Addr.canEvents n.val) 4 s t
          ∧ t.can n.val = { s.can n.val with sending := none, pend := setBit (s.can n.val).pend c.buf false }))
  ∧ (∀ (s : State) (n : Fin 8) (tdc : BitVec 7) (c : CanTx), s.start.logicUp = true →
    (s.can n.val).sending = some c → c.buf < 16 → (s.can n.val).sync = .errorActive → (s.can n.val).txErr < 128 →
    (s.can n.val).rxErr < 128 →
    Runs (.canTxComplete n tdc) s fun t =>
      t = { s with cans := t.cans, regs := t.regs }
      ∧ RegsBut [Addr.canTx n.val c.buf 18, Addr.canTx n.val c.buf 19, Addr.canTdcMeas n.val, Addr.canEvents n.val] s t
      ∧ Noted (Addr.canEvents n.val) 2 s t
      ∧ t.reg (Addr.canTx n.val c.buf 18) = word c.sof ∧ t.reg (Addr.canTx n.val c.buf 19) = word (c.sof / 2 ^ 32)
      ∧ t.reg (Addr.canTdcMeas n.val) = (if s.flag (Addr.canTx n.val c.buf 1) 5 then word tdc.toNat
          else s.reg (Addr.canTdcMeas n.val))
      ∧ t.can n.val = { s.can n.val with
          sending := none, cancelled := false, pend := setBit (s.can n.val).pend c.buf false
          ok := setBit (s.can n.val).ok c.buf true, txErr := (s.can n.val).txErr - 1 })
  ∧ (∀ (s : State) (n : Fin 8) (f : CanFrame) (sof m b : Nat), s.start.logicUp = true →
    (s.can n.val).sync = .errorActive → (s.can n.val).txErr < 128 → (s.can n.val).rxErr ≤ 127 →
    s.canAccept n.val f = some m → s.flag (Addr.canQbind n.val) 6 = false → (s.can n.val).fill < 16 →
    b = ((s.can n.val).get + (s.can n.val).fill) % 16 →
    Runs (.canFrameReceive n f sof) s fun t =>
      t = { s with cans := t.cans, regs := t.regs } ∧ Noted (Addr.canEvents n.val) 0 s t
      ∧ (∀ k, k < (canRxWords f m sof).length → t.reg (Addr.canRx n.val b k) = (canRxWords f m sof).getD k 0)
      ∧ RegsBut (Addr.canEvents n.val :: (List.range 20).map (Addr.canRx n.val b)) s t
      ∧ t.can n.val = { s.can n.val with rxErr := (s.can n.val).rxErr - 1, fill := (s.can n.val).fill + 1 })
  ∧ (∀ (s : State) (n : Fin 8) (f : CanFrame) (sof : Nat), s.start.logicUp = true →
    (s.can n.val).sync = .errorActive → (s.can n.val).txErr < 128 → (s.can n.val).rxErr ≤ 127 →
    s.canAccept n.val f = none →
    Runs (.canFrameReceive n f sof) s fun t =>
      t = { s with cans := t.cans } ∧ t.can n.val = { s.can n.val with rxErr := (s.can n.val).rxErr - 1 })
  ∧ (∀ (s : State) (i : Initiator) (n : Fin 8) (v : Word), s.ready i (Addr.canTxadd n.val) true = true →
    Runs (.canTxadd i n v) s fun t =>
      t = { s.written i (Addr.canTxadd n.val) .done with cans := t.cans } ∧ (∀ k, k ≠ n.val → t.can k = s.can k)
      ∧ t.can n.val = { s.can n.val with
          pend := (s.can n.val).pend ||| v.truncate 16, ok := (s.can n.val).ok &&& ~~~ v.truncate 16
          cncl := (s.can n.val).cncl &&& ~~~ v.truncate 16 })
  ∧ (∀ (s : State) (i : Initiator) (n : Fin 8) (v : Word), s.ready i (Addr.canTxcancel n.val) true = true →
    (s.can n.val).sending = none → (s.can n.val).pend &&& v.truncate 16 ≠ 0 →
    Runs (.canTxcancel i n v) s fun t =>
      t = { s.written i (Addr.canTxcancel n.val) .done with cans := t.cans, regs := t.regs }
      ∧ RegsBut [Addr.canEvents n.val] s t ∧ t.flag (Addr.canEvents n.val) 3 = true
      ∧ (∀ k, k ≠ n.val → t.can k = s.can k)
      ∧ t.can n.val = { s.can n.val with
          pend := (s.can n.val).pend &&& ~~~ v.truncate 16
          cncl := (s.can n.val).cncl ||| ((s.can n.val).pend &&& v.truncate 16) })
  ∧ (∀ (s : State) (i : Initiator) (n : Fin 8) (a : Nat), a = Addr.canRx n.val (s.can n.val).get 0 →
    s.ready i a false = true → (s.can n.val).fill ≠ 0 → (s.can n.val).get < 16 → (s.can n.val).lock = none →
    s.stagedAt i a = none → s.shadowAt i a = none →
    Runs (.canRxWord0Read i n) s fun t =>
      t = { s with cans := t.cans, out := .access i a (.data (s.reg a)) :: s.out }
      ∧ t.can n.val = { s.can n.val with lock := some i })
  ∧ (∀ (s : State) (i : Initiator) (n : Fin 8) (a b : Nat), b = (s.can n.val).get → b < 16 →
    a = Addr.canRx n.val b (3 + (bufLength (s.reg (Addr.canRx n.val b 0)) (s.reg (Addr.canRx n.val b 1)) + 3) / 4) →
    s.ready i a false = true → (s.can n.val).fill ≠ 0 → (s.can n.val).lock = some i →
    s.stagedAt i a = none → s.shadowAt i a = none →
    Runs (.canRxLastWordRead i n) s fun t =>
      t = { s with cans := t.cans, out := .access i a (.data (s.reg a)) :: s.out }
      ∧ t.can n.val = { s.can n.val with lock := none, get := (b + 1) % 16, fill := (s.can n.val).fill - 1 })

/-- R180 to R184: a UART: a word written to UART_TXF, a read of UART_RXF, the start of a frame, the end of a character and of
a frame with DE falling after DE_LAG, a received character, an echo that does not come, the end of a receive frame, and a
word of its queue taken into the transmitter. -/
def Obligations.UartsRun : Prop :=
  (∀ (s : State) (i : Initiator) (u : Fin 16) (v : Word), s.ready i (Addr.uartTxf u.val) true = true →
    s.flag (Addr.uartQbind u.val) 6 = false → (s.uart u.val).tx.length < 32 → (s.uart u.val).discarding = false →
    (s.uart u.val).active = false →
    Runs (.uartTxfWrite i u v) s fun t =>
      t = { s.written i (Addr.uartTxf u.val) .done with uarts := t.uarts } ∧ (∀ k, k ≠ u.val → t.uart k = s.uart k)
      ∧ t.uart u.val = { s.uart u.val with tx := (s.uart u.val).tx ++ [v.truncate 10 |>.zeroExtend 16] })
  ∧ (∀ (s : State) (i : Initiator) (u : Fin 16) (v : Word), s.ready i (Addr.uartTxf u.val) true = true →
    s.flag (Addr.uartQbind u.val) 6 = true ∨ 32 ≤ (s.uart u.val).tx.length →
    Runs (.uartTxfWrite i u v) s fun t =>
      t = { s.written i (Addr.uartTxf u.val) .done with regs := t.regs } ∧ RegsBut [Addr.uartEvents u.val] s t
      ∧ Noted (Addr.uartEvents u.val) 8 s t)
  ∧ (∀ (s : State) (i : Initiator) (u : Fin 16) (w : Word) (r : List Word), s.ready i (Addr.uartRxf u.val) false = true →
    s.flag (Addr.uartQbind u.val) 14 = false → (s.uart u.val).rx = w :: r →
    Runs (.uartRxfRead i u) s fun t =>
      t = { s with uarts := t.uarts, out := .access i (Addr.uartRxf u.val) (.data w) :: s.out }
      ∧ t.uart u.val = { s.uart u.val with rx := r })
  ∧ (∀ (s : State) (i : Initiator) (u : Fin 16), s.ready i (Addr.uartRxf u.val) false = true →
    s.flag (Addr.uartQbind u.val) 14 = false → (s.uart u.val).rx = [] →
    Runs (.uartRxfRead i u) s fun t =>
      t = { s with regs := t.regs, out := .access i (Addr.uartRxf u.val) (.data 0) :: s.out }
      ∧ RegsBut [Addr.uartEvents u.val] s t ∧ Noted (Addr.uartEvents u.val) 9 s t)
  ∧ (∀ (s : State) (u : Fin 16) (w : Half) (r : List Half), s.start.logicUp = true → s.enabled (.uart u) = true →
    (s.uart u.val).active = false → (s.uart u.val).lag = false → (s.uart u.val).sending = none →
    (s.uart u.val).tx = w :: r → s.flag (Addr.uartCtrl u.val) 9 = false →
    (s.uartMode u.val = 1 → s.frameGap u.val ≠ 0 → (s.uart u.val).lineBusy = false) →
    Runs (.uartTxFrameStart u) s fun t =>
      t = { s with uarts := t.uarts, out := .uart u.val (BitVec.ofNat 9 (bits w 0 9 % 2 ^ s.uartBits u.val))
                      (s.uartParity u.val (bits w 0 9 % 2 ^ s.uartBits u.val)) (s.flag (Addr.uartCtrl u.val) 8) :: s.out }
      ∧ t.uart u.val = { s.uart u.val with
          active := true, de := s.uartMode u.val == 1, collided := false, sending := some w, tx := r, lineBusy := true })
  ∧ (∀ (s : State) (u : Fin 16) (w w' : Half) (r : List Half), s.start.logicUp = true → (s.uart u.val).active = true →
    (s.uart u.val).sending = some w → (s.uart u.val).collided = false → bit w 9 = false → (s.uart u.val).tx = w' :: r →
    s.flag (Addr.uartCtrl u.val) 9 = false →
    Runs (.uartCharSent u) s fun t =>
      t = { s with uarts := t.uarts, out := .uart u.val (BitVec.ofNat 9 (bits w' 0 9 % 2 ^ s.uartBits u.val))
                      (s.uartParity u.val (bits w' 0 9 % 2 ^ s.uartBits u.val)) (s.flag (Addr.uartCtrl u.val) 8) :: s.out }
      ∧ t.uart u.val = { s.uart u.val with sending := some w', tx := r, lineBusy := true })
  ∧ (∀ (s : State) (u : Fin 16) (w : Half), s.start.logicUp = true → (s.uart u.val).sending = some w →
    (s.uart u.val).collided = false → bit w 9 = true →
    Runs (.uartCharSent u) s fun t =>
      t = { s with uarts := t.uarts, regs := t.regs } ∧ RegsBut [Addr.uartEvents u.val] s t
      ∧ Noted (Addr.uartEvents u.val) 6 s t
      ∧ t.uart u.val = { s.uart u.val with active := false, sending := none, lag := (s.uart u.val).de })
  ∧ (∀ (s : State) (u : Fin 16), s.start.logicUp = true → (s.uart u.val).lag = true →
    Runs (.uartDeLagEnd u) s fun t =>
      t = { s with uarts := t.uarts } ∧ (∀ k, k ≠ u.val → t.uart k = s.uart k)
      ∧ t.uart u.val = { s.uart u.val with de := false, lag := false, collided := false })
  ∧ (∀ (s : State) (u : Fin 16) (c : UartChar) (gap d : Nat), s.start.logicUp = true → s.enabled (.uart u) = true →
    (s.uart u.val).de = false → (s.uart u.val).echoes = [] → (s.uart u.val).inFrame = false → (s.uart u.val).hold = none →
    s.field (Addr.uartGap u.val) 16 16 ≠ 0 → d = c.c.toNat % 2 ^ s.uartBits u.val →
    (∀ p, s.uartParity u.val d = some p → c.parity = p) → c.stop = true →
    Runs (.uartCharReceive u c gap) s fun t =>
      t = { s with uarts := t.uarts } ∧ (∀ k, k ≠ u.val → t.uart k = s.uart k)
      ∧ t.uart u.val = { s.uart u.val with inFrame := true, hold := some (word d), lineBusy := true })
  ∧ (∀ (s : State) (u : Fin 16) (c : UartChar) (gap d : Nat) (w : Word), s.start.logicUp = true →
    s.enabled (.uart u) = true → (s.uart u.val).de = false → (s.uart u.val).echoes = [] →
    (s.uart u.val).inFrame = true →
    (s.uart u.val).hold = some w → gap < s.field (Addr.uartGap u.val) 16 16 → s.field (Addr.uartGap u.val) 0 16 = 0 →
    s.flag (Addr.uartQbind u.val) 14 = false → (s.uart u.val).rx.length < 32 →
    d = c.c.toNat % 2 ^ s.uartBits u.val → (∀ p, s.uartParity u.val d = some p → c.parity = p) → c.stop = true →
    Runs (.uartCharReceive u c gap) s fun t =>
      t = { s with uarts := t.uarts }
      ∧ t.uart u.val = { s.uart u.val with rx := (s.uart u.val).rx ++ [w], hold := some (word d), lineBusy := true })
  ∧ (∀ (s : State) (u : Fin 16), s.start.logicUp = true → (s.uart u.val).echoes ≠ [] → (s.uart u.val).sending ≠ none →
    Runs (.uartEchoTimeout u) s fun t =>
      t = { s with uarts := t.uarts, regs := t.regs } ∧ RegsBut [Addr.uartEvents u.val] s t
      ∧ Noted (Addr.uartEvents u.val) 7 s t
      ∧ t.uart u.val = { s.uart u.val with collided := true, echoes := [] })
  ∧ (∀ (s : State) (u : Fin 16) (w : Word), s.start.logicUp = true → (s.uart u.val).inFrame = true →
    (s.uart u.val).hold = some w → s.flag (Addr.uartQbind u.val) 14 = false → (s.uart u.val).rx.length < 32 →
    (s.uart u.val).framing = false → s.frameGap u.val ≠ 0 →
    Runs (.uartFrameGapExpiry u) s fun t =>
      t = { s with uarts := t.uarts, regs := t.regs } ∧ RegsBut [Addr.uartEvents u.val] s t
      ∧ Noted (Addr.uartEvents u.val) 0 s t
      ∧ t.uart u.val = { s.uart u.val with
          inFrame := false, hold := none, gapViolation := false, overrun := false, lineBusy := false
          rx := (s.uart u.val).rx ++ [word (w.toNat + 2 ^ 15 + (if (s.uart u.val).gapViolation then 2 ^ 16 else 0)
            + (if (s.uart u.val).overrun then 2 ^ 17 else 0))] })
  ∧ (∀ (s : State) (u : Fin 16) (q : Nat) (w : QWord) (r : List QWord), s.start.logicUp = true →
    s.flag (Addr.uartQbind u.val) 6 = true → (s.uart u.val).tx.length < 32 → (s.uart u.val).discarding = false →
    (s.uart u.val).active = false → q = s.field (Addr.uartQbind u.val) 0 6 → s.qConsumer q = sourceId (.uart u) →
    s.qAvail q = true → (s.queue q).words = w :: r → w.ecc = 0 → w.mark = .last →
    Runs (.uartTxqFill u) s fun t =>
      t = { s with uarts := t.uarts, queues := t.queues } ∧ (t.queue q).words = r
      ∧ t.uart u.val = { s.uart u.val with
          tx := (s.uart u.val).tx ++ [BitVec.ofNat 16 (w.v.toNat % 2 ^ 9 + 2 ^ 9)] })

/-- R188, R194, R195, R196, R207, R208: the training of a port and what takes it out of ACTIVE. Each training state is left
for the next one by its event, a state that times out leads to silence and back to CLOCK_LOCK, and the end of CONFIG with
the declared identity leads to ACTIVE; 4 TS1 in ACTIVE take the link down; MODE 3 and GEN act from ACTIVE. -/
def Obligations.LinkTrainingRun : Prop :=
  (∀ (s : State) (i : Initiator) (l : Port) (addr v : Word), addr.toNat = linkReg l Addr.linkCtrl →
    s.ready i addr.toNat true = true → (s.link l).sync = .disabled → s.enabled (linkUnit l) = true →
    (l = .pair → s.fuses.pairCapable = true) → s.field (linkReg l Addr.linkNeighbour) 0 8 ≠ 0xFF →
    s.field (linkReg l Addr.linkLoopback) 0 2 = 0 → s.bypass.sync ≠ .joining → bit v 0 = true →
    Runs (.linkTrainStart i addr v) s fun t =>
      t = { s.written i addr.toNat .done with regs := t.regs, links := t.links } ∧ RegsBut [addr.toNat] s t
      ∧ t.reg addr.toNat = v &&& 0x37 ∧ t.link l = { s.link l with sync := .clockLock, quiet := false }
      ∧ ∀ k, k ≠ l → t.link k = s.link k)
  ∧ (∀ (s : State) (l : Port), s.start.logicUp = true → (s.link l).sync = .clockLock → (s.link l).quiet = false →
    Runs (.linkClockLocked l) s fun t =>
      t = { s with links := t.links, time := t.time, regs := t.regs } ∧ RegsBut [Addr.timeEvents] s t
      ∧ (∀ k, k ≠ l → t.link k = s.link k)
      ∧ t.link l = { s.link l with sync := .bitAlign, clockOk := true }
      ∧ (l = .east → t.time.laneEast = true ∧ t.time.laneWest = s.time.laneWest)
      ∧ (l = .west → t.time.laneWest = true ∧ t.time.laneEast = s.time.laneEast)
      ∧ (l = .pair ∨ s.flag Addr.timeCtrl 6 = true ∨ s.time.lineClock = .east ∨ s.time.lineClock = .west →
          RegsBut [] s t ∧ t.time = (match l with
            | .east => { s.time with laneEast := true }
            | .west => { s.time with laneWest := true }
            | .pair => s.time)))
  ∧ (∀ (s : State) (l : Port), s.start.logicUp = true → (s.link l).sync = .bitAlign → (s.link l).quiet = false →
    Runs (.linkBitAlignDone l) s fun t =>
      t = { s with links := t.links } ∧ (∀ k, k ≠ l → t.link k = s.link k)
      ∧ t.link l = { s.link l with sync := .symbolLock })
  ∧ (∀ (s : State) (l : Port), s.start.logicUp = true → (s.link l).sync = .symbolLock → (s.link l).quiet = false →
    Runs (.linkSymbolLocked l) s fun t =>
      t = { s with links := t.links } ∧ (∀ k, k ≠ l → t.link k = s.link k)
      ∧ t.link l = { s.link l with sync := .deskew })
  ∧ (∀ (s : State) (l : Port) (lanes : List (Fin 4)) (skew : Nat), s.start.logicUp = true → (s.link l).sync = .deskew →
    (l = .pair ∨ (lanes = [0, 1, 2, 3] ∧ skew ≤ 240)) →
    Runs (.linkDeskewed l lanes skew) s fun t =>
      t = { s with links := t.links } ∧ (∀ k, k ≠ l → t.link k = s.link k)
      ∧ t.link l = { s.link l with sync := .config, skew := skew })
  ∧ (∀ (s : State) (l : Port) (id : LinkIdentity), s.start.logicUp = true → (s.link l).sync = .config →
    s.field (linkReg l Addr.linkLoopback) 0 2 = 0 → id.node.toNat = s.field (linkReg l Addr.linkNeighbour) 0 8 →
    id.ring.toNat = s.field (linkReg l Addr.linkNeighbour) 8 4 →
    id.port.toNat = s.field (linkReg l Addr.linkNeighbour) 12 2 →
    (s.bypass.sync = .joining → s.linkWanted l = true) →
    Runs (.linkConfigDone l id) s fun t =>
      (t.link l).sync = .active ∧ (t.link l).seen = id ∧ (t.link l).matched = true
      ∧ (t.link l).next = 0 ∧ t.flag (linkReg l Addr.linkEvents) 0 = true ∧ t.mem = s.mem ∧ t.queues = s.queues
      ∧ t.cores = s.cores)
  ∧ (∀ (s : State) (l : Port) (id : LinkIdentity), s.start.logicUp = true → (s.link l).sync = .config →
    s.field (linkReg l Addr.linkLoopback) 0 2 = 1 ∨ s.field (linkReg l Addr.linkLoopback) 0 2 = 2 →
    Runs (.linkConfigDone l id) s fun t =>
      t = { s with links := t.links } ∧ (t.link l).sync = .loopback ∧ ∀ k, k ≠ l → t.link k = s.link k)
  ∧ (∀ (s : State) (l : Port), s.start.logicUp = true →
    (s.link l).sync = .clockLock ∨ (s.link l).sync = .bitAlign ∨ (s.link l).sync = .symbolLock
      ∨ (s.link l).sync = .deskew ∨ (s.link l).sync = .config → (s.link l).quiet = false →
    Runs (.linkTrainTimeout l) s fun t =>
      t = { s with links := t.links, regs := t.regs } ∧ RegsBut [linkReg l Addr.linkTrainFailCount] s t
      ∧ t.reg (linkReg l Addr.linkTrainFailCount) = satAdd (s.reg (linkReg l Addr.linkTrainFailCount)) 1
      ∧ (∀ k, k ≠ l → t.link k = s.link k)
      ∧ t.link l = { s.link l with sync := .clockLock, quiet := true })
  ∧ (∀ (s : State) (l : Port), s.start.logicUp = true →
    Runs (.linkTrainQuietEnd l) s fun t =>
      t = { s with links := t.links } ∧ (∀ k, k ≠ l → t.link k = s.link k)
      ∧ t.link l = { s.link l with quiet := false })
  ∧ (∀ (s : State), s.start.logicUp = true → (s.link .pair).sync = .active →
    Runs (.linkTs1Receive .pair) s fun t =>
      t = { s with links := t.links, regs := t.regs, fault := t.fault } ∧ RegsBut [Addr.linkEvents 2] s t
      ∧ Noted (Addr.linkEvents 2) 1 s t ∧ (∀ k, k ≠ .pair → t.link k = s.link k)
      ∧ t.link .pair = { s.link .pair with sync := .clockLock, replay := [], waiting := [], nakAt := none, rds := [], prbs := [] }
      ∧ t.fault = (s.raise (.link 2) .linkDown 0 none).fault)
  ∧ (∀ (s : State) (l : Port), s.start.logicUp = true → (s.link l).sync = .active →
    Runs (.linkTs1Receive l) s fun t =>
      t.link l = { s.link l with sync := .clockLock, replay := [], waiting := [], nakAt := none, rds := [], prbs := [] }
      ∧ t.flag (linkReg l Addr.linkEvents) 1 = true ∧ t.mem = s.mem ∧ t.queues = s.queues
      ∧ (l ≠ .pair → t.breakOf (if l = .east then .east else .west) = true))
  ∧ (∀ (s : State) (i : Initiator) (l : Port) (v : Word), s.ready i (linkReg l Addr.linkLoopback) true = true →
    (l = .pair → s.fuses.pairCapable = true) → (s.link l).sync = .active →
    s.field (linkReg l Addr.linkLoopback) 0 2 = 0 → bits v 0 2 = 3 →
    Runs (.linkLoopbackWrite i l v) s fun t =>
      t.link l = { s.link l with sync := .loopback, replay := [], waiting := [], nakAt := none, rds := [], prbs := [] }
      ∧ t.field (linkReg l Addr.linkLoopback) 0 2 = 3 ∧ t.mem = s.mem)
  ∧ (∀ (s : State) (i : Initiator) (l : Port) (v : Word), s.ready i (linkReg l Addr.linkLoopback) true = true →
    (l = .pair → s.fuses.pairCapable = true) → (s.link l).sync = .disabled →
    s.field (linkReg l Addr.linkLoopback) 0 2 = 0 → bits v 0 2 = 1 → s.enabled (linkUnit l) = true →
    s.flag (linkReg l Addr.linkCtrl) 0 = true → s.bypass.sync ≠ .joining →
    Runs (.linkLoopbackWrite i l v) s fun t =>
      t = { s.written i (linkReg l Addr.linkLoopback) .done with regs := t.regs, links := t.links }
      ∧ RegsBut [linkReg l Addr.linkLoopback] s t ∧ t.field (linkReg l Addr.linkLoopback) 0 2 = 1
      ∧ (t.link l).sync = .clockLock)
  ∧ (∀ (s : State) (i : Initiator) (l : Port) (v : Word), s.ready i (linkReg l Addr.linkTest) true = true →
    (l = .pair → s.fuses.pairCapable = true) → (s.link l).sync = .active →
    s.field (linkReg l Addr.linkLoopback) 0 2 = 0 → s.flag (linkReg l Addr.linkTest) 0 = false → bit v 0 = true →
    Runs (.linkTestWrite i l v) s fun t =>
      (t.link l).sync = .test ∧ (t.link l).replay = [] ∧ t.reg (linkReg l Addr.linkTest) = v &&& 7 ∧ t.mem = s.mem)
  ∧ (∀ (s : State) (i : Initiator) (l : Port) (v : Word), s.ready i (linkReg l Addr.linkTest) true = true →
    (l = .pair → s.fuses.pairCapable = true) → (s.link l).sync = .test →
    s.flag (linkReg l Addr.linkTest) 0 = true → bit v 0 = false →
    Runs (.linkTestWrite i l v) s fun t =>
      t = { s.written i (linkReg l Addr.linkTest) .done with regs := t.regs, links := t.links }
      ∧ (t.link l).sync = .clockLock ∧ t.reg (linkReg l Addr.linkTest) = v &&& 7)

/-- R90, R188, R199 to R206, R209, R210: what a port sends and receives beside training: SKP sets, alignment markers with
the round trip, frames with their acknowledgement, ACK and NAK with the replay, the end of replay, and the code errors of a
1 ms window. Then the bypass of a hub: its control register, the start of a join with EAST and WEST held in DISABLED, the
end of the settling time, and its two returns to BYPASSED; a clock lane that is lost and one that returns. -/
def Obligations.LinkTrafficRun : Prop :=
  (∀ (s : State) (l : Port), s.start.logicUp = true → s.enabled (linkUnit l) = true → (s.link l).quiet = false →
    (l = .pair → s.fuses.pairCapable = true) → (s.link l).sync = .disabled ∨ (s.link l).sync = .active →
    Runs (.linkSkpSend l) s fun t => t = (if s.loopMode l = 2 then s else { s with out := .skp l :: s.out }))
  ∧ (∀ (s : State) (l : Port) (delta : Int), s.start.logicUp = true →
    Runs (.linkSkpReceive l delta) s fun t =>
      t = { s with regs := t.regs } ∧ RegsBut [linkReg l Addr.linkSkipCount] s t
      ∧ t.reg (linkReg l Addr.linkSkipCount) = (if l ≠ .pair ∧ ((s.link l).sync = .config ∨ (s.link l).sync = .active) then
            satAdd (s.reg (linkReg l Addr.linkSkipCount)) (min 2 delta.natAbs)
          else if s.storeRuns l then t.reg (linkReg l Addr.linkSkipCount)
          else s.reg (linkReg l Addr.linkSkipCount)))
  ∧ (∀ (s : State) (l : Port) (stamp : Nat), s.start.logicUp = true → (s.link l).sync = .active →
    (s.link l).amSeen = none → s.loopMode l ≠ 2 →
    Runs (.linkAmSend l stamp) s fun t =>
      t = { s with links := t.links, out := t.out } ∧ (∀ k, k ≠ l → t.link k = s.link k)
      ∧ t.link l = { s.link l with
          amSeq := (s.link l).amSeq + 1, amSent := (((s.link l).amSeq, stamp) :: (s.link l).amSent).take 4 }
      ∧ t.out = .marker l ⟨(s.link l).amSeq, 0, false, 0, (s.corrections l).1, (s.corrections l).2⟩ :: s.out)
  ∧ (∀ (s : State) (l : Port) (m : Marker) (stamp : Nat), s.start.logicUp = true → (s.link l).sync = .active →
    m.echoValid = false →
    Runs (.linkAmReceive l m stamp true) s fun t =>
      t = { s with links := t.links } ∧ (∀ k, k ≠ l → t.link k = s.link k)
      ∧ t.link l = { s.link l with amSeen := some (m.seq, stamp) })
  ∧ (∀ (s : State) (m : Marker) (stamp t1 : Nat) (r : List (Byte × Nat)), s.start.logicUp = true →
    (s.link .pair).sync = .active → m.echoValid = true → (s.link .pair).amSent = (m.echoSeq, t1) :: r →
    stamp - t1 - m.turnaround.toNat ≤ 160000 → (s.link .pair).replayOn = true →
    Runs (.linkAmReceive .pair m stamp true) s fun t =>
      t = { s with links := t.links, regs := t.regs } ∧ RegsBut [Addr.linkRtt 2] s t
      ∧ t.reg (Addr.linkRtt 2) = word (stamp - t1 - m.turnaround.toNat)
      ∧ t.link .pair = { s.link .pair with amSeen := some (m.seq, stamp) })
  ∧ (∀ (s : State) (l : Port) (f : RingFrame), s.start.logicUp = true → (s.link l).sync = .active → frameGood f = true →
    (s.link l).takeNext = false →
    Runs (.linkFrameReceive l true (s.link l).next f) s fun t =>
      t = { s with links := t.links, out := .ack l (s.link l).next :: s.out } ∧ (∀ k, k ≠ l → t.link k = s.link k)
      ∧ t.link l = { s.link l with next := (s.link l).next + 1, nakAt := none })
  ∧ (∀ (s : State) (l : Port) (lseq : BitVec 12) (f : RingFrame), s.start.logicUp = true →
    (s.link l).sync = .active → frameGood f = true → (s.link l).takeNext = false → (s.link l).nakAt = none →
    2048 < ((s.link l).next - lseq).toNat →
    Runs (.linkFrameReceive l true lseq f) s fun t =>
      t = { s with links := t.links, out := .nak l ((s.link l).next - 1) :: s.out }
      ∧ t.link l = { s.link l with nakAt := some s.now })
  ∧ (∀ (s : State) (l : Port) (lseq : BitVec 12) (f : RingFrame), s.start.logicUp = true →
    (s.link l).sync = .active → frameGood f = true →
    Runs (.linkFrameReceive l false lseq f) s fun t =>
      t = { s with links := t.links } ∧ (∀ k, k ≠ l → t.link k = s.link k)
      ∧ t.link l = { s.link l with takeNext := true })
  ∧ (∀ (s : State) (l : Port) (n : BitVec 12) (lanes : List (Option (BitVec 12))), s.start.logicUp = true →
    (s.link l).sync = .active → (s.link l).waiting = [] →
    (l = .pair → lanes.head? = some (some n)) →
    (l ≠ .pair → lanes.length = 4 ∧ 3 ≤ (lanes.filter (· == some n)).length) →
    Runs (.linkAckReceive l lanes) s fun t =>
      t = { s with links := t.links } ∧ (∀ k, k ≠ l → t.link k = s.link k)
      ∧ t.link l = { s.link l with replay := (s.link l).replay.filter fun e => decide (2048 ≤ (n - e.lseq).toNat) })
  ∧ (∀ (s : State) (l : Port) (n : BitVec 12) (lanes : List (Option (BitVec 12))) (e : ReplayEntry),
    s.start.logicUp = true → (s.link l).sync = .active →
    (s.link l).waiting = [] → (s.link l).replay = [e] → e.replays < 3 → 2048 ≤ (n - e.lseq).toNat →
    (l = .pair → lanes.head? = some (some n)) →
    (l ≠ .pair → lanes.length = 4 ∧ 3 ≤ (lanes.filter (· == some n)).length) →
    Runs (.linkNakReceive l lanes) s fun t =>
      t = { s with links := t.links, regs := t.regs, out := .frame l true e.lseq e.frame :: s.out }
      ∧ RegsBut [linkReg l Addr.linkNakCount, linkReg l Addr.linkReplayCount] s t
      ∧ t.reg (linkReg l Addr.linkNakCount) = satAdd (s.reg (linkReg l Addr.linkNakCount)) 1
      ∧ t.reg (linkReg l Addr.linkReplayCount) = satAdd (s.reg (linkReg l Addr.linkReplayCount)) 1
      ∧ t.link l = { s.link l with replay := [{ e with replays := e.replays + 1 }] })
  ∧ (∀ (s : State) (l : Port) (e : ReplayEntry), s.start.logicUp = true → (s.link l).sync = .active →
    (s.link l).replay = [e] → e.replays < 3 →
    Runs (.linkReplayTimerExpiry l) s fun t =>
      t = { s with links := t.links, regs := t.regs, out := .frame l true e.lseq e.frame :: s.out }
      ∧ RegsBut [linkReg l Addr.linkReplayCount] s t
      ∧ t.link l = { s.link l with replay := [{ e with replays := e.replays + 1 }] })
  ∧ (∀ (s : State) (e : ReplayEntry) (r : List ReplayEntry), s.start.logicUp = true →
    (s.link .pair).sync = .active → (s.link .pair).replay = e :: r →
    Runs (.linkReplayExhausted .pair) s fun t =>
      t = { s with links := t.links, regs := t.regs, fault := t.fault } ∧ RegsBut [Addr.linkEvents 2] s t
      ∧ t.flag (Addr.linkEvents 2) 3 = true ∧ t.flag (Addr.linkEvents 2) 1 = true
      ∧ t.link .pair = { s.link .pair with sync := .clockLock, replay := [], waiting := [], nakAt := none, rds := [], prbs := [] }
      ∧ t.fault = ((s.raise (.link 2) .linkReplayExhausted 0 none).raise (.link 2) .linkDown 0 none).fault)
  ∧ (∀ (s : State) (l : Port) (lanes : List LaneWindow) (n : Nat) (errors : List Nat), s.start.logicUp = true →
    (s.link l).sync = .active → s.loopMode l ≠ 3 → (l = .pair → s.fuses.pairCapable = true) →
    n = (if l = .pair then 1 else 4) →
    errors = (List.range n).map (fun k => (codeErrors ((s.link l).rds.getD k false) (lanes.getD k ⟨[], 0⟩).groups).1) →
    s.flag (linkReg l Addr.linkCtrl) 1 = false →
    Runs (.linkBerWindowEnd l lanes) s fun t =>
      t = { s with regs := t.regs, links := t.links }
      ∧ RegsBut (linkReg l Addr.linkEvents :: (List.range n).map (Addr.linkCodeErr (portIdx l).val)) s t
      ∧ (∀ k, k < n → t.reg (Addr.linkCodeErr (portIdx l).val k)
          = satAdd (s.reg (Addr.linkCodeErr (portIdx l).val k)) (errors.getD k 0))
      ∧ (∀ k, k ≠ l → t.link k = s.link k)
      ∧ t.link l = { s.link l with rds := t.link l |>.rds, prbs := t.link l |>.prbs }
      ∧ (∀ k, k < n → (t.link l).rds.getD k false
          = (codeErrors ((s.link l).rds.getD k false) (lanes.getD k ⟨[], 0⟩).groups).2)
      ∧ (s.field (linkReg l Addr.linkBerCtrl) 0 16 ≠ 0 →
          (∃ e, e ∈ errors ∧ s.field (linkReg l Addr.linkBerCtrl) 0 16 < e) →
          Noted (linkReg l Addr.linkEvents) 5 s t)
      ∧ (s.field (linkReg l Addr.linkBerCtrl) 0 16 = 0 ∨ (∀ e, e ∈ errors → e ≤ s.field (linkReg l Addr.linkBerCtrl) 0 16) →
          t.reg (linkReg l Addr.linkEvents) = s.reg (linkReg l Addr.linkEvents)))
  ∧ (∀ (s : State) (i : Initiator) (v : Word), s.ready i (Addr.linkBypassCtrl 0) true = true → bit v 1 = true →
    s.bypass.sync ≠ .bypassed →
    (∀ p, s.bypass.sync = .joining → (s.link (ringLink p)).sync = .disabled ∨ s.linkWanted (ringLink p) = true) →
    Runs (.bypassCtrlWrite i v) s fun t =>
      t = { s.written i (Addr.linkBypassCtrl 0) .done with
        regs := t.regs, bypass := ⟨.bypassed, false⟩, links := t.links }
      ∧ (∀ p, t.link (ringLink p) = if s.bypass.sync = .joining ∧ (s.link (ringLink p)).sync = .disabled
            ∧ s.linkWanted (ringLink p) = true then
          { s.link (ringLink p) with sync := .clockLock, quiet := false } else s.link (ringLink p))
      ∧ RegsBut [Addr.linkBypassCtrl 0, Addr.linkEvents 0] s t ∧ Noted (Addr.linkEvents 0) 8 s t
      ∧ t.reg (Addr.linkBypassCtrl 0) = v &&& 0xFFFF_FF03)
  ∧ (∀ (s : State), s.start.logicUp = true → s.bypass.sync = .bypassed → s.flag (Addr.linkBypassCtrl 0) 0 = true →
    s.flag (Addr.linkBypassCtrl 0) 1 = false → (s.link .east).sync ≠ .active → (s.link .west).sync ≠ .active →
    Runs .bypassJoinStart s fun t =>
      t = { s with bypass := ⟨.joining, false⟩, regs := t.regs, links := t.links } ∧ RegsBut [Addr.linkEvents 0] s t
      ∧ Noted (Addr.linkEvents 0) 8 s t ∧ (t.link .east).sync = .disabled ∧ (t.link .west).sync = .disabled
      ∧ t.link .pair = s.link .pair)
  ∧ (∀ (s : State), s.start.logicUp = true → s.bypass.sync = .joining → (s.link .east).sync = .disabled →
    (s.link .west).sync = .disabled →
    Runs .bypassSettleEnd s fun t =>
      t = { s with bypass := ⟨.joining, true⟩, links := t.links }
      ∧ (t.link .east).sync = (if s.linkWanted .east then .clockLock else .disabled)
      ∧ (t.link .west).sync = (if s.linkWanted .west then .clockLock else .disabled))
  ∧ (∀ (s : State), s.start.logicUp = true → s.bypass.sync = .joining →
    (∀ p, (s.link (ringLink p)).sync = .disabled ∨ s.linkWanted (ringLink p) = true) →
    Runs .bypassJoinTimeout s fun t =>
      t = { s with bypass := ⟨.bypassed, false⟩, regs := t.regs, links := t.links }
      ∧ (∀ p, t.link (ringLink p) = if s.bypass.sync = .joining ∧ (s.link (ringLink p)).sync = .disabled
            ∧ s.linkWanted (ringLink p) = true then
          { s.link (ringLink p) with sync := .clockLock, quiet := false } else s.link (ringLink p))
      ∧ RegsBut [Addr.linkEvents 0] s t
      ∧ Noted (Addr.linkEvents 0) 8 s t)
  ∧ (∀ (s : State), s.start.logicUp = true → s.bypass.sync = .inRing → (s.link .east).sync ≠ .active →
    (s.link .west).sync ≠ .active →
    Runs .bypassDownHoldExpiry s fun t =>
      t = { s with bypass := ⟨.bypassed, false⟩, regs := t.regs } ∧ RegsBut [Addr.linkEvents 0] s t
      ∧ Noted (Addr.linkEvents 0) 8 s t)
  ∧ (∀ (s : State) (l : Port), s.start.logicUp = true → (s.link l).clockOk = true → (s.link l).sync = .disabled →
    Runs (.clockLaneLoss l) s fun t =>
      t = { s with links := t.links, regs := t.regs, fault := t.fault, time := t.time }
      ∧ RegsBut [linkReg l Addr.linkEvents, Addr.timeEvents] s t ∧ Noted (linkReg l Addr.linkEvents) 4 s t
      ∧ t.link l = { s.link l with clockOk := false }
      ∧ t.fault = (s.raise (linkUnit l) .clockLaneLoss 0 none).fault
      ∧ (l = .east → t.time.laneEast = false) ∧ (l = .west → t.time.laneWest = false)
      ∧ (l = .east → s.flag Addr.timeCtrl 6 = false → s.time.lineClock = .east → s.time.laneWest = false →
          t.time.lineClock = .hold)
      ∧ (l = .east → s.flag Addr.timeCtrl 6 = false → s.time.lineClock = .east → s.time.laneWest = true →
          t.time.lineClock = .west ∧ t.time.activeWest = true))
  ∧ (∀ (s : State), s.start.logicUp = true → s.flag Addr.timeCtrl 6 = false → s.time.lineClock = .hold →
    s.time.activeWest = false → (s.clockDir = .west → s.time.laneWest = false) →
    Runs (.clockLaneReturn .east) s fun t =>
      t = { s with links := t.links, time := t.time } ∧ t.link .east = { s.link .east with clockOk := true }
      ∧ t.time = { s.time with laneEast := true, lineClock := .east })
  ∧ (∀ (s : State), s.start.logicUp = true → s.flag Addr.timeCtrl 6 = false → s.clockDir = .west →
    s.time.laneWest = true → s.time.lineClock = .east → s.time.activeWest = false →
    Runs .clockDirReturn s fun t =>
      t = { s with time := t.time, regs := t.regs } ∧ RegsBut [Addr.timeEvents] s t ∧ Noted Addr.timeEvents 4 s t
      ∧ t.time = { s.time with lineClock := .west, activeWest := true })

/-- R219, R229, R230, R237: a frame that arrives on an ACTIVE ring port: one for another hub is forwarded with HOPS + 1, one
for this MEMBER that its duplicate window admits passes on, one past the declared number of hubs is an orphan. At its end a
good frame is committed to the window and delivered, and a second copy is counted and dropped. -/
def Obligations.RingFramesRun : Prop :=
  (∀ (s : State) (p : RingPort) (rp : Bool) (lseq : BitVec 12) (f : RingFrame) (used residence : Nat), s.start.logicUp = true →
    s.active (ringLink p) = true → malformed f = false → ¬(f.srcRing = s.ringNo ∧ f.srcNode = s.node) →
    f.hops.toNat < s.nodes → s.ring.sync = .member → f.dstNode = s.node → f.dstNode ≠ 254 →
    winCheck (s.window (winKey f)) f.epoch f.seq = .newEpoch ∨ winCheck (s.window (winKey f)) f.epoch f.seq = .ahead
      ∨ winCheck (s.window (winKey f)) f.epoch f.seq = .inWindow →
    (rp = false ∨ (s.link (ringLink p)).takeNext = true ∨ lseq = (s.link (ringLink p)).next) →
    Runs (.ringFrameArrive p ⟨rp, lseq, f⟩ used residence) s fun t =>
      t = { s with ring := { s.ring with cut := s.ring.cut ++ [⟨p, f, s.now⟩] } })
  ∧ (∀ (s : State) (p : RingPort) (rp : Bool) (lseq : BitVec 12) (f : RingFrame) (used residence : Nat), s.start.logicUp = true →
    s.active (ringLink p) = true → malformed f = false → ¬(f.srcRing = s.ringNo ∧ f.srcNode = s.node) →
    f.hops.toNat < s.nodes → s.ring.sync = .member → f.dstNode ≠ s.node → f.dstNode ≠ 254 →
    s.active (ringLink (otherPort p)) = true → f.cls = .e ∨ f.cls = .b → used ≤ 49152 →
    (rp = false ∨ (s.link (ringLink p)).takeNext = true ∨ lseq = (s.link (ringLink p)).next) →
    Runs (.ringFrameArrive p ⟨rp, lseq, f⟩ used residence) s fun t =>
      t = { s with out := .frame (ringLink (otherPort p)) false 0
                     (sealFrame { f with hops := f.hops + 1, good := frameGood f }) :: s.out })
  ∧ (∀ (s : State) (p : RingPort) (rp : Bool) (lseq : BitVec 12) (f : RingFrame) (used residence : Nat), s.start.logicUp = true →
    s.active (ringLink p) = true → malformed f = false → ¬(f.srcRing = s.ringNo ∧ f.srcNode = s.node) →
    s.nodes ≤ f.hops.toNat →
    (rp = false ∨ (s.link (ringLink p)).takeNext = true ∨ lseq = (s.link (ringLink p)).next) →
    Runs (.ringFrameArrive p ⟨rp, lseq, f⟩ used residence) s fun t =>
      t = { s with regs := t.regs } ∧ RegsBut [Addr.ringOrphanCount, Addr.ringEvents] s t
      ∧ t.reg Addr.ringOrphanCount = satAdd (s.reg Addr.ringOrphanCount) 1 ∧ Noted Addr.ringEvents 7 s t)
  ∧ (∀ (s : State) (p : RingPort) (f : RingFrame) (since : Nat) (r : List PortFrame), s.start.logicUp = true →
    s.ring.sync = .member → s.ring.cut = ⟨p, f, since⟩ :: r → frameGood f = true → f.inOrd = false → f.dstRing = s.ringNo →
    s.swOfRing ⟨p, f, since⟩ = none → (s.window (winKey f)).valid = false → s.ring.held = [] →
    Runs (.ringFrameCommit p) s fun t =>
      t = { s with ring := t.ring }
      ∧ t.ring = { s.ring with
          cut := r, windows := t.ring.windows, inbox := s.ring.inbox ++ [⟨p, f, since⟩],
          expectedSet := s.ring.expectedSet.filter fun j => j / 32 != winKey f }
      ∧ t.window (winKey f) = ⟨true, f.epoch, f.seq, p, setBit 0 (f.seq.toNat % 256) true⟩
      ∧ ∀ k, k ≠ winKey f → t.window k = s.window k)
  ∧ (∀ (s : State) (p : RingPort) (f : RingFrame) (since : Nat) (r : List PortFrame), s.start.logicUp = true →
    s.ring.sync = .member → s.ring.cut = ⟨p, f, since⟩ :: r → frameGood f = true → f.pairSeq = false → s.swOfRing ⟨p, f, since⟩ = none →
    winCheck (s.window (winKey f)) f.epoch f.seq = .dup →
    Runs (.ringFrameCommit p) s fun t =>
      t = { s with ring := { s.ring with cut := r }, regs := t.regs } ∧ RegsBut [Addr.ringDupCount] s t
      ∧ t.reg Addr.ringDupCount = satAdd (s.reg Addr.ringDupCount) 1)
  ∧ (∀ (s : State) (h : PortFrame) (k d : Nat), s.start.logicUp = true → s.ring.sync = .member → s.ring.held = [h] →
    k = streamKey h.frame → d = (h.frame.sseq - Store.get 0 s.ring.expected k).toNat → h.frame.dstRing = s.ringNo →
    Runs .reorderHoldExpiry s fun t =>
      t = { s with ring := t.ring, regs := t.regs } ∧ RegsBut [Addr.ringReorderGapCount, Addr.ringEvents] s t
      ∧ t.ring = { s.ring with held := [], inbox := s.ring.inbox ++ [h], expected := t.ring.expected }
      ∧ Store.get 0 t.ring.expected k = h.frame.sseq + 1
      ∧ t.reg Addr.ringReorderGapCount = satAdd (s.reg Addr.ringReorderGapCount) d ∧ Noted Addr.ringEvents 8 s t)

/-- R224, R228, R233, R234: membership of the ring: a received JOIN, LEAVE, BREAK and HEAL, a committed REJOIN and LEAVE of
RING_CMD, and the end of the LEAVE. -/
def Obligations.RingMembershipRuns : Prop :=
  (∀ (s : State) (x : PortFrame) (r : List PortFrame) (n : Nat), s.start.logicUp = true → s.ring.inbox = x :: r →
    isControl 1 x.frame = true → n = x.frame.srcNode.toNat → s.present n = false →
    (s.ring.sync ≠ .member ∨ bit (x.frame.hdr.getD 0 0) 9 = true) →
    Runs .ringJoinReceive s fun t =>
      t = { s with ring := { s.ring with inbox := r }, regs := t.regs }
      ∧ RegsBut [Addr.ringPresent (n / 32), Addr.ringEvents] s t ∧ t.present n = true ∧ Noted Addr.ringEvents 4 s t
      ∧ ∀ j, j < 32 → j ≠ n % 32 → t.flag (Addr.ringPresent (n / 32)) j = s.flag (Addr.ringPresent (n / 32)) j)
  ∧ (∀ (s : State) (x : PortFrame) (r : List PortFrame) (n : Nat), s.start.logicUp = true → s.ring.inbox = x :: r →
    isControl 2 x.frame = true → n = x.frame.srcNode.toNat → s.present n = true → s.pair.role ≠ .held →
    s.bridge.sems = [] →
    Runs .ringLeaveReceive s fun t =>
      t = { s with ring := { s.ring with inbox := r }, regs := t.regs }
      ∧ RegsBut [Addr.ringPresent (n / 32), Addr.ringEvents] s t ∧ t.present n = false ∧ Noted Addr.ringEvents 4 s t)
  ∧ (∀ (s : State) (x : PortFrame) (r : List PortFrame) (i : Nat), s.start.logicUp = true → s.ring.inbox = x :: r →
    isControl 3 x.frame = true → s.spanAt x.frame.srcNode.toNat (controlPort x.frame) = some i → s.ring.broken = [] →
    3 ≤ s.nodes →
    Runs .ringBreakReceive s fun t => t = { s with ring := { s.ring with inbox := r, broken := [i] } })
  ∧ (∀ (s : State) (x : PortFrame) (r : List PortFrame) (i : Nat), s.start.logicUp = true → s.ring.inbox = x :: r →
    isControl 4 x.frame = true → s.spanAt x.frame.srcNode.toNat (controlPort x.frame) = some i → x.frame.payload = [] →
    Runs .ringHealReceive s fun t =>
      t = { s with ring := { s.ring with inbox := r, broken := s.ring.broken.filter fun j => j != i } })
  ∧ (∀ (s : State) (i : Initiator) (v : Word), s.ready i (Addr.ringCmd + 4) true = true →
    s.armedAt Addr.ringCmd v = true → bit v 0 = true → bit v 1 = false → s.ring.sync = .transit →
    (s.standingCause = 0 → (s.link .east).sync ≠ .active ∧ (s.link .west).sync ≠ .active) →
    Runs (.ringRejoin i (~~~ v)) s fun t =>
      t = { s.written i (Addr.ringCmd + 4) .done with regs := t.regs, guards := t.guards, ring := t.ring }
      ∧ RegsBut [Addr.ringCmd, Addr.ringEvents] s t ∧ t.reg Addr.ringCmd = v &&& 3 ∧ Committed Addr.ringCmd s t
      ∧ (s.standingCause = 0 → t.ring = { s.ring with sync := .down, cause := 0 }
          ∧ t.reg Addr.ringEvents = s.reg Addr.ringEvents)
      ∧ (s.standingCause ≠ 0 → t.ring = { s.ring with cause := s.standingCause } ∧ Noted Addr.ringEvents 1 s t))
  ∧ (∀ (s : State) (i : Initiator) (v : Word), s.ready i (Addr.ringCmd + 4) true = true →
    s.armedAt Addr.ringCmd v = true → bit v 0 = false → bit v 1 = true → s.ring.sync = .member →
    s.active .east = true → s.active .west = false →
    Runs (.ringLeave i (~~~ v)) s fun t =>
      t = { s.written i (Addr.ringCmd + 4) .done with regs := t.regs, guards := t.guards, ring := t.ring, out := t.out }
      ∧ RegsBut [Addr.ringCmd] s t ∧ Committed Addr.ringCmd s t
      ∧ t.ring = { s.ring with leaving := true, seqs := setAt s.ring.seqs 0 (s.ring.seqs.getD 0 0 + 1) }
      ∧ t.out = .access i (Addr.ringCmd + 4) .done :: .frame .east false 0 (sealFrame
          { s.controlFrame 2 .east false [] with seq := s.ring.seqs.getD 0 0, epoch := s.ring.epoch }) :: s.out)
  ∧ (∀ (s : State), s.start.logicUp = true → s.ring.leaving = true → s.ring.sync = .member →
    Runs .ringLeaveComplete s fun t => t = { s with ring := { s.ring with leaving := false, sync := .down } })

/-- R243, R245, R247, R248, R348: requests that reach this hub: a write of one word to service RAM is carried out and
answered, an access to a reserved space is a bus error of KIND 4, a fetch that is late is answered RETRY, a fetch that ends
after that keeps its data until HOLD has passed, and a write that waits for the edge port enters its buffer. -/
def Obligations.RingRequestsRun : Prop :=
  (∀ (s : State) (x : PortFrame) (r : List PortFrame) (off : Nat) (w : Word), s.start.logicUp = true →
    s.ring.inbox = x :: r → s.isRequest x.frame = true → x.frame.typ = 2 → s.newestOf x.frame = none →
    faSpace (frameAddr x.frame) = 3 → off = faOffset (frameAddr x.frame) → off % 4 = 0 → frameCount x.frame = 1 →
    x.frame.payload = [w] → s.ramKind off 1 = none → x.frame.srcNode ≠ s.node → s.bridge.mem = [] →
    s.bridge.memBlocked = [] → s.fault.inject.armed = false →
    Runs .ringRequestReceive s fun t =>
      t = { s with ring := t.ring, bridge := t.bridge, regs := t.regs, links := t.links, out := t.out }
      ∧ t.ring.inbox = r ∧ t.newestOf x.frame = some (frameIseq x.frame)
      ∧ t.bridge.mem = [⟨off / 0x8_0000 + 1, off, [(0, w)], x.frame⟩]
      ∧ t.memTick.mem = Memory.setWord s.mem (Addr.coreRam 0 + off) w ∧ t.memTick.bridge.mem = [])
  ∧ (∀ (s : State) (f : RingFrame) (r : List RingFrame) (off : Nat) (w : Word), s.start.logicUp = true →
    s.ring.inbox = [] → s.bridge.loop = f :: r → f.typ = 2 → f.srcNode = s.node → f.srcRing = s.ringNo →
    f.dstNode ≠ 254 → s.newestOf f = none → faSpace (frameAddr f) = 3 → off = faOffset (frameAddr f) → off % 4 = 0 →
    frameCount f = 1 → f.payload = [w] → s.ramKind off 1 = none → (∀ g k, s.frameInit f ≠ .remote g k) →
    s.bridge.mem = [] → s.bridge.memBlocked = [] → s.fault.inject.armed = false →
    Runs .ringRequestReceive s fun t =>
      t = { s with bridge := t.bridge, mem := Memory.setWord s.mem (Addr.coreRam 0 + off) w, ecc := t.ecc }
      ∧ t.bridge.loop = r ++ [s.responseFrame f 0 0 []])
  ∧ (∀ (s : State) (x : PortFrame) (r : List PortFrame), s.start.logicUp = true → s.ring.inbox = x :: r →
    s.isRequest x.frame = true → s.newestOf x.frame = none → 4 ≤ faSpace (frameAddr x.frame) →
    Runs .ringRequestReceive s fun t =>
      t.mem = s.mem ∧ t.queues = s.queues ∧ t.ring.inbox = r
      ∧ t.reg Addr.regifBerrCount = satAdd (s.reg Addr.regifBerrCount) 1)
  ∧ (∀ (s : State) (slot : Fin 32) (f : Fetch), s.start.logicUp = true → s.fetch slot.val = some f →
    f.state = .running → f.answered = false →
    Runs (.bridgeFetchRetry slot) s fun t =>
      t.fetch slot.val = some { f with answered := true }
      ∧ t.reg Addr.bridgeRetrySentCount = satAdd (s.reg Addr.bridgeRetrySentCount) 1 ∧ t.mem = s.mem)
  ∧ (∀ (s : State) (slot : Fin 32) (f : Fetch), s.start.logicUp = true → s.fetch slot.val = some f →
    f.state = .running → f.answered = true → faSpace f.key.addr = 2 →
    s.bridge.mem = [] → s.bridge.memBlocked = [] →
    Runs (.bridgeFetchComplete slot true) s fun t =>
      t = { s with bridge := t.bridge }
      ∧ t.fetch slot.val = some { f with state := .ready ((List.range f.key.count).map fun k =>
            Memory.word s.mem (0x1_0000_0000 + faOffset f.key.addr + 4 * k)) }
      ∧ ∀ k, k ≠ slot.val → t.fetch k = s.fetch k)
  ∧ (∀ (s : State) (slot : Fin 32) (f : Fetch), s.start.logicUp = true → s.fetch slot.val = some f →
    f.state = .running → f.answered = true → faSpace f.key.addr = 3 → f.key.count = 1 →
    s.bridge.mem = [] → s.bridge.memBlocked = [] →
    Store.get 0 s.ecc (Addr.coreRam (faOffset f.key.addr / 0x8_0000) + faOffset f.key.addr % 0x8_0000) = 0 →
    Runs (.bridgeFetchComplete slot true) s fun t =>
      t = { s with bridge := t.bridge }
      ∧ t.fetch slot.val = some { f with state := .ready [Memory.word s.mem (Addr.coreRam 0 + faOffset f.key.addr)] })
  ∧ (∀ (s : State) (slot : Fin 32) (f : Fetch) (d : List Word), s.start.logicUp = true → s.fetch slot.val = some f →
    f.state = .ready d →
    Runs (.bridgeHoldExpiry slot) s fun t =>
      t = { s with bridge := t.bridge, regs := t.regs }
      ∧ RegsBut [Addr.bridgeHoldExpiredCount, Addr.bridgeEvents] s t ∧ t.fetch slot.val = none
      ∧ (∀ k, k ≠ slot.val → t.fetch k = s.fetch k) ∧ Noted Addr.bridgeEvents 3 s t
      ∧ t.reg Addr.bridgeHoldExpiredCount = satAdd (s.reg Addr.bridgeHoldExpiredCount) 1)
  ∧ (∀ (s : State) (x : EdgeRequest), s.start.logicUp = true → s.bridge.edge = [] → s.bridge.blocked = [x] →
    x.slot = none → x.ack = true → x.frame.srcNode = s.node → x.frame.srcRing = s.ringNo → x.frame.dstNode ≠ 254 →
    s.edgeRefuses x.queue = false → s.qRoom x.queue 0x0280 x.words.length = false →
    Runs (.bridgeWriteBufferAccept 0) s fun t =>
      t = { s with bridge := t.bridge, regs := t.regs } ∧ RegsBut [Addr.qEvents x.queue] s t
      ∧ Noted (Addr.qEvents x.queue) 1 s t ∧ t.bridge.edge = [x] ∧ t.bridge.blocked = []
      ∧ t.bridge.loop = s.bridge.loop ++ [s.responseFrame x.frame 0 0 []])

/-- R241, R243, R244, R249, R252 to R254, R256, R257: how a transaction of this hub goes on: its response completes it and
frees its TAG, a read that waited RETRY_GAP is issued again, a timeout fails it with cause 2 and a deadline with cause 4,
both with the TAG in quarantine, and the quarantine ends. A bridging hub gives a request from PAIR a record with its own TAG
and drops a record that has stood too long; a read of a free semaphore takes it and shows 0, one of a held semaphore shows
its holder, a write by the holder frees it and any other is denied, and a lease that has passed breaks it. -/
def Obligations.TransactionsEnd : Prop :=
  (∀ (s : State) (x : PortFrame) (r : List PortFrame) (g : Txn), s.start.logicUp = true → s.ring.inbox = x :: r →
    x.frame.typ = 4 → s.bridge.records = [] → s.txn (frameTag x.frame) = some g → g.waiting = true → g.kind = .read →
    g.who = .host → frameStatus x.frame = 0 → s.elapsed g.last (cyclesUs s.txnTimeout) = false →
    s.elapsed g.first (s.deadline .host) = false → s.bridge.waiting = [] → s.bridge.pairWait = [] → s.held = [] →
    Runs .ringResponseReceive s fun t =>
      t = { s with ring := { s.ring with inbox := r }, bridge := t.bridge,
                   out := .txnEnd .host g.addr 0 (x.frame.payload.take g.count) :: s.out }
      ∧ t.bridge = { s.bridge with tags := t.bridge.tags } ∧ t.txn (frameTag x.frame) = none
      ∧ ∀ k, k ≠ frameTag x.frame → t.txn k = s.txn k)
  ∧ (∀ (s : State) (x : PortFrame) (r : List PortFrame), s.start.logicUp = true → s.ring.inbox = x :: r →
    x.frame.typ = 4 → s.bridge.records = [] → s.txn (frameTag x.frame) = none →
    Runs .ringResponseReceive s fun t =>
      t = { s with ring := { s.ring with inbox := r }, regs := t.regs }
      ∧ RegsBut [Addr.bridgeLateDiscardCount, Addr.bridgeEvents] s t ∧ Noted Addr.bridgeEvents 4 s t
      ∧ t.reg Addr.bridgeLateDiscardCount = satAdd (s.reg Addr.bridgeLateDiscardCount) 1)
  ∧ (∀ (s : State) (tag : Byte) (g : Txn), s.start.logicUp = true → s.txn tag.toNat = some g → g.waiting = false →
    g.kind = .read → s.isOwn g.addr = false →
    Runs (.bridgeRetryGapExpiry tag) s fun t =>
      t.txn tag.toNat = some { g with
          reissues := g.reissues + 1, waiting := true, last := s.now, sent := s.livePorts.length, returned := 0,
          seq := match g.pairKey with | some k => k.1 | none => s.ring.seqs.getD (classCode g.cls) 0 }
      ∧ t.reg Addr.bridgeReissueCount = satAdd (s.reg Addr.bridgeReissueCount) 1
      ∧ t.mem = s.mem ∧ t.queues = s.queues ∧ ∀ k, k ≠ tag.toNat → t.txn k = s.txn k)
  ∧ (∀ (s : State) (tag : Byte) (g : Txn), s.start.logicUp = true → s.txn tag.toNat = some g → g.waiting = true →
    g.kind = .read → g.who = .host → s.elapsed g.first (s.deadline .host) = false → s.bridge.waiting = [] →
    s.bridge.pairWait = [] → s.held = [] → s.flag Addr.bridgeTxnStatus 0 = false →
    Runs (.txnResponseTimeout tag) s fun t =>
      t = { s with regs := t.regs, bridge := t.bridge, fault := t.fault, out := .txnEnd .host g.addr 2 [] :: s.out }
      ∧ t.txn tag.toNat = none
      ∧ t.bridge.quarantine = s.bridge.quarantine ++ [(tag.toNat, s.now + 800 * s.txnTimeout)]
      ∧ t.reg Addr.bridgeTxnCount = satAdd (s.reg Addr.bridgeTxnCount) 1 ∧ Noted Addr.bridgeEvents 0 s t
      ∧ Noted Addr.bridgeTxnStatus 0 s t ∧ t.reg Addr.bridgeTxnAddrLo = word g.addr.toNat
      ∧ t.field Addr.bridgeTxnInfo 24 4 = 2 ∧ t.field Addr.bridgeTxnInfo 16 8 = tag.toNat
      ∧ t.fault = (s.raise .bridge .txnTimeout (min 63 g.reissues) (some g.addr)).fault)
  ∧ (∀ (s : State) (tag : Byte) (g : Txn), s.start.logicUp = true → s.txn tag.toNat = some g → g.kind = .write →
    g.who = .host → s.bridge.waiting = [] → s.bridge.pairWait = [] → s.held = [] →
    s.flag Addr.bridgeTxnStatus 0 = true →
    Runs (.txnDeadlineExpiry tag) s fun t =>
      t = { s with regs := t.regs, bridge := t.bridge, fault := t.fault, out := .txnEnd .host g.addr 4 [] :: s.out }
      ∧ RegsBut [Addr.bridgeTxnCount, Addr.bridgeTxnStatus, Addr.bridgeEvents] s t
      ∧ t.txn tag.toNat = none ∧ Noted Addr.bridgeTxnStatus 1 s t
      ∧ t.bridge.quarantine = s.bridge.quarantine ++ [(tag.toNat, s.now + 800 * s.txnTimeout)])
  ∧ (∀ (s : State) (tag : Byte), s.start.logicUp = true → s.bridge.waiting = [] → s.bridge.pairWait = [] → s.held = [] →
    Runs (.tagQuarantineEnd tag) s fun t =>
      t = { s with bridge := { s.bridge with quarantine := s.bridge.quarantine.filter fun e => e.1 != tag.toNat } })
  ∧ (∀ (s : State) (rp : Bool) (lseq : BitVec 12) (f : RingFrame) (g : Nat), s.start.logicUp = true →
    s.flag Addr.ringBridge 0 = true →
    s.fuses.pairCapable = true → s.active .pair = true → isTxnFrame f = true → f.typ ≠ 4 → f.dstNode ≠ 254 →
    frameGood f = true → malformed f = false → (rp = false ∨ (s.link .pair).takeNext = true ∨ lseq = (s.link .pair).next) →
    s.bridgeNode f (faNode (frameAddr f)) ≠ 255 → s.freeTag = some g →
    Runs (.bridgePairFrameReceive ⟨rp, lseq, f⟩) s fun t =>
      t.bridge.records = s.bridge.records ++
          [⟨BitVec.ofNat 8 g, f.srcRing, f.srcNode, frameWho f, BitVec.ofNat 8 (frameTag f), s.now⟩]
      ∧ t.mem = s.mem ∧ t.queues = s.queues ∧ t.cores = s.cores)
  ∧ (∀ (s : State), s.start.logicUp = true → s.bridge.waiting = [] → s.bridge.pairWait = [] → s.held = [] →
    Runs .bridgeRecordExpiry s fun t =>
      t = { s with bridge := { s.bridge with records := s.bridge.records.drop 1 } })
  ∧ (∀ (s : State) (i : Initiator) (n : Fin 32), s.ready i (Addr.bridgeSem n.val) false = true →
    s.sem n.val = none →
    Runs (.semaphoreRead i n) s fun t =>
      t = { s with bridge := t.bridge, out := .access i (Addr.bridgeSem n.val) (.data 0) :: s.out }
      ∧ t.sem n.val = some (s.semOwner i) ∧ ∀ k, k ≠ n.val → t.sem k = s.sem k)
  ∧ (∀ (s : State) (i : Initiator) (n : Fin 32) (o : SemOwner), s.ready i (Addr.bridgeSem n.val) false = true →
    s.sem n.val = some o → s.elapsed o.since s.lease = false →
    Runs (.semaphoreRead i n) s fun t =>
      t = { s with out := .access i (Addr.bridgeSem n.val) (.data (semWord o)) :: s.out })
  ∧ (∀ (s : State) (i : Initiator) (n : Fin 32) (v : Word) (o : SemOwner),
    s.ready i (Addr.bridgeSem n.val) true = true → s.sem n.val = some o → o.same (s.semOwner i) = true →
    Runs (.semaphoreWrite i n v) s fun t =>
      t = { s.written i (Addr.bridgeSem n.val) .done with bridge := t.bridge } ∧ t.sem n.val = none
      ∧ ∀ k, k ≠ n.val → t.sem k = s.sem k)
  ∧ (∀ (s : State) (i : Initiator) (n : Fin 32) (v : Word), s.ready i (Addr.bridgeSem n.val) true = true →
    (∀ o, s.sem n.val = some o → o.same (s.semOwner i) = false) →
    Runs (.semaphoreWrite i n v) s fun t =>
      t = { s.written i (Addr.bridgeSem n.val) .done with regs := t.regs } ∧ RegsBut [Addr.bridgeSemDenyCount] s t
      ∧ t.reg Addr.bridgeSemDenyCount = satAdd (s.reg Addr.bridgeSemDenyCount) 1)
  ∧ (∀ (s : State) (n : Fin 32) (o : SemOwner), s.sem n.val = some o →
    Runs (.semaphoreLeaseExpiry n) s fun t =>
      t = { s with bridge := t.bridge, regs := t.regs, fault := t.fault } ∧ RegsBut [Addr.bridgeEvents] s t
      ∧ Noted Addr.bridgeEvents 2 s t ∧ t.sem n.val = none ∧ (∀ k, k ≠ n.val → t.sem k = s.sem k)
      ∧ t.fault = (s.raise .bridge .semaphoreBroken 1 (some (s.hubAddr (Addr.bridgeSem n.val)))).fault)

/-- R264, R266, R280, R294, R305, R339: a frame enters at a station port and ends good or with an error, an output sends
the head frame of its highest class that is ready, a frame for a queue is delivered as a packet behind its descriptor
word, and one that has waited too long there is dropped and counted. -/
def Obligations.SwitchFramesRun : Prop :=
  (∀ (s : State) (p : Fin 7) (q : Fin 64) (bytes : List Byte), s.start.logicUp = true → s.enabled .switch = true →
    (p = 2 ∨ p = 3) → (s.sta (p.val - 2)).link = true → s.prpOn = false →
    (s.sw.frames.any fun f => f.opened && f.input == p.val) = false → bytes.length < 60 →
    Runs (.switchFrameArrive p q bytes) s fun t =>
      t = { s with regs := t.regs } ∧ RegsBut [Addr.staRxRuntCount (p.val - 2)] s t
      ∧ t.reg (Addr.staRxRuntCount (p.val - 2)) = satAdd (s.reg (Addr.staRxRuntCount (p.val - 2))) 1)
  ∧ (∀ (s : State) (p : Fin 7) (q : Fin 64) (bytes : List Byte), s.start.logicUp = true → s.enabled .switch = true →
    (p = 2 ∨ p = 3) → (s.sta (p.val - 2)).link = true → s.prpOn = false →
    (s.sw.frames.any fun f => f.opened && f.input == p.val) = false → 60 ≤ bytes.length → bytes.length ≤ 9216 →
    beAt bytes 12 2 ≠ 0x8808 → s.enabled .classify = false →
    Runs (.switchFrameArrive p q bytes) s fun t =>
      t = { s with regs := t.regs, sw := t.sw }
      ∧ RegsBut [Addr.swPortRxFrames p.val, Addr.swEvents] s t
      ∧ t.reg (Addr.swPortRxFrames p.val) = satAdd (s.reg (Addr.swPortRxFrames p.val)) 1
      ∧ t.sw.frames = s.sw.frames ++
          [{ input := p.val, kind := 0, bytes := bytes, cls := 0, yellow := false, queue := 0, copies := [], outs := [],
             cut := (List.range 4).filter fun o => s.cutThrough p.val o, started := [], cells := 0, opened := true,
             bad := false, dup := false, ecc := 0, seqNr := none, origin := none }])
  ∧ (∀ (s : State) (p : Fin 7) (f : SwFrame) (r : List SwFrame), s.start.logicUp = true → (p = 2 ∨ p = 3) →
    s.sw.frames = f :: r → f ∉ r → f.opened = true → f.input = p.val → f.origin = none → f.started = [] →
    f.bad = false → f.outs ≠ [] →
    Runs (.switchFrameEnd p .good) s fun t =>
      t = { s with regs := t.regs, sw := t.sw }
      ∧ RegsBut [Addr.staRxFrames (p.val - 2), Addr.swEvents] s t
      ∧ t.reg (Addr.staRxFrames (p.val - 2)) = satAdd (s.reg (Addr.staRxFrames (p.val - 2))) 1
      ∧ t.sw.frames = { f with opened := false, dup := false } :: r.filter swLive)
  ∧ (∀ (s : State) (p : Fin 7) (f : SwFrame) (r : List SwFrame) (q : Nat), s.start.logicUp = true → (p = 2 ∨ p = 3) →
    s.sw.frames = f :: r → f ∉ r → f.opened = true → f.input = p.val → f.origin = none → f.started = [] →
    f.outs = [q] → f.cut = [] →
    Runs (.switchFrameEnd p .fcs) s fun t =>
      t = { s with regs := t.regs, sw := t.sw }
      ∧ RegsBut [Addr.staRxFcsErrCount (p.val - 2), Addr.swPortDropBad (q / 8), Addr.swEvents] s t
      ∧ t.reg (Addr.staRxFcsErrCount (p.val - 2)) = satAdd (s.reg (Addr.staRxFcsErrCount (p.val - 2))) 1
      ∧ t.reg (Addr.swPortDropBad (q / 8)) = satAdd (s.reg (Addr.swPortDropBad (q / 8))) 1
      ∧ t.sw.frames = r.filter swLive)
  ∧ (∀ (s : State) (o : Fin 8) (f : SwFrame), s.start.logicUp = true → s.enabled .switch = true → (o = 2 ∨ o = 3) →
    s.swReady (8 * o.val + 7) = true → s.swHead (8 * o.val + 7) = some f → f.opened = false → f.bad = false → f.ecc = 0 →
    (s.sta (o.val - 2)).link = true →
    Runs (.egressTxStart o) s fun t =>
      t = { s with regs := t.regs, sw := t.sw, stas := t.stas, shapers := t.shapers,
                   out := .eth (o.val - 2) (staBytes (o.val - 2) f) (crc32Eth (staBytes (o.val - 2) f)) .plain :: s.out }
      ∧ RegsBut [Addr.swPortTxFrames o.val, Addr.staTxFrames (o.val - 2), Addr.swEvents] s t
      ∧ t.reg (Addr.swPortTxFrames o.val) = satAdd (s.reg (Addr.swPortTxFrames o.val)) 1
      ∧ t.reg (Addr.staTxFrames (o.val - 2)) = satAdd (s.reg (Addr.staTxFrames (o.val - 2))) 1
      ∧ (t.sta (o.val - 2)).sending = some (7, 10 * s.time16 + s.wireTime (o.val - 2) (frameB o.val f)))
  ∧ (∀ (s : State) (o : Fin 8), s.start.logicUp = true → (∀ c, c < 8 → s.swReady (8 * o.val + c) = false) →
    Runs (.egressTxStart o) s fun t => t = { s with shapers := t.shapers })
  ∧ (∀ (s : State) (o c : Fin 8) (f : SwFrame), s.start.logicUp = true → s.enabled .switch = true →
    (o = 4 ∨ o = 5 ∨ o = 6) → s.swHead (8 * o.val + c.val) = some f → f.opened = false → f.bad = false → f.ecc = 0 →
    f.queue < 64 → s.shaperOf (8 * o.val + c.val) = none →
    s.qRoom f.queue 0x02C0 (deliverWords f (8 * o.val + c.val)).length = true → (s.queue f.queue).dropping = false →
    (s.queue f.queue).popWait = 0 → s.fault.inject.armed = false →
    Runs (.switchQueueDeliver o c) s fun t =>
      t = { s with regs := t.regs, sw := t.sw, queues := t.queues, host := t.host }
      ∧ t.reg (Addr.swPortTxFrames o.val) = satAdd (s.reg (Addr.swPortTxFrames o.val)) 1
      ∧ (t.queue f.queue).words = (s.queue f.queue).words ++
          (packet (word (f.kind % 16 * 2 ^ 28 + f.input * 2 ^ 25 + c.val * 2 ^ 22 + ofBool f.yellow * 2 ^ 20
            + f.bytes.length % 65536) :: wordsBE f.bytes)).map fun p => ⟨p.1, p.2, 0⟩)
  ∧ (∀ (s : State) (o c : Fin 8) (f : SwFrame), s.start.logicUp = true → (o = 4 ∨ o = 5 ∨ o = 6) →
    s.swHead (8 * o.val + c.val) = some f → f.opened = false → s.sw.frames = [f] → f.outs = [8 * o.val + c.val] →
    f.started = [] →
    Runs (.queueSwitchWaitExpiry o c) s fun t =>
      t = { s with regs := t.regs, sw := t.sw } ∧ RegsBut [Addr.qFullDropCount f.queue, Addr.swEvents] s t
      ∧ t.reg (Addr.qFullDropCount f.queue) = satAdd (s.reg (Addr.qFullDropCount f.queue)) 1 ∧ t.sw.frames = [])

/-- R269, R276 to R278, R290, R292, R293: the average of an empty queue falls, a capture record is written at CAP_WR of its
ring, CAP_RD moves only over records that are there, a rising EN starts the ring at 0, a policer and a shaper start anew
with their configuration, and a shaper on the wheel becomes eligible or goes round again. -/
def Obligations.SwitchUpkeepRuns : Prop :=
  (∀ (s : State) (q : Fin 64), s.start.logicUp = true → s.enabled .switch = true → s.depth q.val = 0 →
    Runs (.redIdleUpdate q) s fun t =>
      t = { s with sw := { s.sw with avgs := t.sw.avgs } } ∧ (∀ k, k ≠ q.val → t.avg k = s.avg k)
      ∧ t.avg q.val = s.avg q.val -
          (s.avg q.val + 2 ^ (max 1 (s.field (Addr.swQcfg q.val) 20 4)) - 1) / 2 ^ (max 1 (s.field (Addr.swQcfg q.val) 20 4)))
  ∧ (∀ (s u : State) (c : Fin 16) (ws : List Word) (n : Nat), s.start.logicUp = true → s.enabled .switch = true →
    s.flag (Addr.capCtrl c.val) 0 = true → s.flag (Addr.capCtrl c.val) 1 = false → s.flag (Addr.capCtrl c.val) 2 = false →
    s.flag (Addr.capCtrl c.val) 3 = true → s.qTakePacket (s.field (Addr.capCtrl c.val) 4 6) 0x02C0 = some (ws, false, u) →
    n = 4 * ws.length → n < 65536 → s.dram.sync = .ready → s.capBase c.val + 8 * s.capUnits c.val ≤ s.dramSize →
    s.capWrOf c.val + (n + 15) / 8 < s.capUnits c.val → (n + 15) / 8 ≤ s.capFree c.val → s.sw.gaps = [] →
    Runs (.captureQueuePacket c) s fun t =>
      t = { u with regs := t.regs, mem := t.mem } ∧ RegsBut [Addr.capCseq c.val, Addr.capWr c.val, Addr.capEvents c.val] u t
      ∧ t.mem = Memory.writeBytes s.mem (0x1_0000_0000 + s.capBase c.val + 8 * s.capWrOf c.val)
          (beBytes 2 n ++ [3, 0] ++ bytesBE [s.reg (Addr.capCseq c.val)] ++ bytesBE ws ++ List.replicate ((8 - n % 8) % 8) 0)
      ∧ t.reg (Addr.capCseq c.val) = s.reg (Addr.capCseq c.val) + 1
      ∧ t.reg (Addr.capWr c.val) = word (s.capWrOf c.val + (n + 15) / 8) ∧ Noted (Addr.capEvents c.val) 0 u t)
  ∧ (∀ (s : State) (i : Initiator) (c : Fin 16) (v : Word), s.ready i (Addr.capRd c.val) true = true →
    v.toNat < s.capUnits c.val →
    (v.toNat + s.capUnits c.val - s.capRdOf c.val) % s.capUnits c.val
      ≤ (s.capWrOf c.val + s.capUnits c.val - s.capRdOf c.val) % s.capUnits c.val →
    Runs (.capRdWrite i c v) s fun t =>
      t = { s.written i (Addr.capRd c.val) .done with regs := t.regs } ∧ RegsBut [Addr.capRd c.val] s t
      ∧ t.reg (Addr.capRd c.val) = v)
  ∧ (∀ (s : State) (i : Initiator) (c : Fin 16) (v : Word), s.ready i (Addr.capRd c.val) true = true →
    s.capUnits c.val ≤ v.toNat →
    Runs (.capRdWrite i c v) s fun t =>
      t = { s.written i (Addr.capRd c.val) .done with regs := t.regs } ∧ RegsBut [Addr.capEvents c.val] s t
      ∧ Noted (Addr.capEvents c.val) 3 s t)
  ∧ (∀ (s : State) (i : Initiator) (c : Fin 16) (v : Word), s.ready i (Addr.capCtrl c.val) true = true →
    s.flag (Addr.capCtrl c.val) 0 = false → bit v 0 = true →
    Runs (.capCtrlWrite i c v) s fun t =>
      t = { s.written i (Addr.capCtrl c.val) .done with regs := t.regs }
      ∧ RegsBut [Addr.capCtrl c.val, Addr.capWr c.val, Addr.capRd c.val] s t
      ∧ t.reg (Addr.capCtrl c.val) = v &&& 0xFFFF ∧ t.reg (Addr.capWr c.val) = 0 ∧ t.reg (Addr.capRd c.val) = 0)
  ∧ (∀ (s : State) (i : Initiator) (c : Fin 16) (v : Word), s.ready i (Addr.capCtrl c.val) true = true →
    s.flag (Addr.capCtrl c.val) 0 = true →
    Runs (.capCtrlWrite i c v) s fun t =>
      t = { s.written i (Addr.capCtrl c.val) .done with regs := t.regs } ∧ RegsBut [Addr.capCtrl c.val] s t
      ∧ t.flag (Addr.capCtrl c.val) 0 = bit v 0
      ∧ ∀ j, j < 32 → j ≠ 0 → t.flag (Addr.capCtrl c.val) j = s.flag (Addr.capCtrl c.val) j)
  ∧ (∀ (s : State) (i : Initiator) (p : Fin 1024) (w : Fin 4) (v : Word),
    s.ready i (Addr.trfPolCir p.val + 4 * w.val) true = true →
    Runs (.policerConfigWrite i p w v) s fun t =>
      t = { s.written i (Addr.trfPolCir p.val + 4 * w.val) .done with regs := t.regs, policers := t.policers }
      ∧ RegsBut [Addr.trfPolCir p.val + 4 * w.val] s t
      ∧ t.reg (Addr.trfPolCir p.val + 4 * w.val) = v &&& [0xFF_FFFF, 0xFF_FFFF, 0xFFFF_FFFF, 1].getD w.val 0
      ∧ t.policer p.val = ⟨t.field (Addr.trfPolBurst p.val) 0 16 * 64 * 400000,
          t.field (Addr.trfPolBurst p.val) 16 16 * 64 * 400000, s.now⟩
      ∧ ∀ k, k ≠ p.val → t.policer k = s.policer k)
  ∧ (∀ (s : State) (i : Initiator) (h : Fin 512) (w : Fin 3) (v : Word),
    s.ready i (Addr.trfShRate h.val + 4 * w.val) true = true → (s.shaper h.val).due = none →
    Runs (.shaperConfigWrite i h w v) s fun t =>
      t = { s.written i (Addr.trfShRate h.val + 4 * w.val) .done with regs := t.regs, shapers := t.shapers }
      ∧ RegsBut [Addr.trfShRate h.val + 4 * w.val, Addr.trfEvents] s t ∧ Noted Addr.trfEvents 1 s t
      ∧ t.reg (Addr.trfShRate h.val + 4 * w.val) = v &&& [0xFF_FFFF, 0xFF_FFFF, 1].getD w.val 0
      ∧ t.shaper h.val =
          ⟨if t.flag (Addr.trfShCtrl h.val) 0 then t.field (Addr.trfShBurst h.val) 0 24 * 400000 else 0, s.now, none⟩
      ∧ ∀ k, k ≠ h.val → t.shaper k = s.shaper k)
  ∧ (∀ (s : State) (h : Fin 512) (d b : Nat) (slot : Nat), s.start.logicUp = true →
    (s.shaper h.val).due = some (d, slot, b) →
    Runs (.shaperEligible h) s fun t =>
      t = { s with shapers := t.shapers } ∧ (∀ k, k ≠ h.val → t.shaper k = s.shaper k)
      ∧ t.shaper h.val = { s.shaper h.val with due := if d ≤ slot then none else some (d, min d (slot + 524288), b) })

/-- R295 to R301, R305, R306: the gates of a list follow its entry, an override ends, a configuration change is taken up
at its time, a PRP frame is dropped when it is short, damaged or a duplicate, a supervision frame leaves both ports,
and a station link comes up and goes down. -/
def Obligations.StationsRun : Prop :=
  (∀ (s : State) (p : Fin 2) (g : GateSpan), s.start.logicUp = true → s.flag (Addr.staGateCtrl p.val) 0 = true →
    (s.sta p.val).operValid = true → s.operBase p.val ≤ s.timeNs →
    spanAtTime ((s.timeNs - s.operBase p.val) % s.operCycle p.val) (s.operSpans p.val) = some g →
    Runs (.gateEntryBoundary p) s fun t =>
      t = { s with stas := t.stas } ∧ (∀ k, k ≠ p.val → t.sta k = s.sta k)
      ∧ t.sta p.val = { s.sta p.val with gates := g.gates, entry := g.entry })
  ∧ (∀ (s : State) (p : Fin 2) (c : Fin 8) (o : GateOverride) (e : Int), s.start.logicUp = true →
    (s.sta p.val).overOf c.val = some o → o.stop = some e → e ≤ s.time16 → (s.sta p.val).sending = none →
    Runs (.gateOverrideExpiry p c) s fun t =>
      t = { s with stas := t.stas } ∧ (∀ k, k ≠ p.val → t.sta k = s.sta k)
      ∧ t.sta p.val = { s.sta p.val with overrides := (s.sta p.val).overrides.filter fun o => o.cls != c.val })
  ∧ (∀ (s : State) (i : Initiator) (p : Fin 2) (v : Word) (d : Nat),
    s.ready i (Addr.staGateCmd p.val + 4) true = true → s.armedAt (Addr.staGateCmd p.val) v = true → bit v 0 = true →
    1 ≤ s.field (Addr.staGateAdminLen p.val) 0 11 → s.field (Addr.staGateAdminLen p.val) 0 11 ≤ 1024 →
    1000 ≤ (s.reg (Addr.staGateAdminCycle p.val)).toNat →
    d = (s.reg (Addr.staGateAdminBaseLo p.val)).toNat + (s.reg (Addr.staGateAdminBaseHi p.val)).toNat * 2 ^ 32 →
    (s.time16 + 65535) / 65536 + 1000 ≤ d →
    Runs (.configChange i p (~~~ v)) s fun t =>
      t = { s.written i (Addr.staGateCmd p.val + 4) .done with regs := t.regs, guards := t.guards, stas := t.stas }
      ∧ (∀ k, k ≠ p.val → t.sta k = s.sta k)
      ∧ RegsBut [Addr.staGateCmd p.val, Addr.staGateChangeTimeLo p.val, Addr.staGateChangeTimeHi p.val] s t
      ∧ Committed (Addr.staGateCmd p.val) s t ∧ t.reg (Addr.staGateCmd p.val) = v &&& 1
      ∧ t.reg (Addr.staGateChangeTimeLo p.val) = s.reg (Addr.staGateAdminBaseLo p.val)
      ∧ t.reg (Addr.staGateChangeTimeHi p.val) = s.reg (Addr.staGateAdminBaseHi p.val)
      ∧ t.sta p.val = { s.sta p.val with pending := true })
  ∧ (∀ (s : State) (p : Fin 2) (n : Nat), s.start.logicUp = true → (s.sta p.val).pending = true →
    (s.sta p.val).sending = none → n = s.field (Addr.staGateAdminLen p.val) 0 11 → n ≤ 1024 →
    Runs (.gateChangeTime p) s fun t =>
      t = { s with regs := t.regs, stas := t.stas } ∧ (∀ k, k ≠ p.val → t.sta k = s.sta k)
      ∧ (t.sta p.val).pending = false ∧ (t.sta p.val).operValid = true
      ∧ t.reg (Addr.staGateOperBaseLo p.val) = s.reg (Addr.staGateAdminBaseLo p.val)
      ∧ t.reg (Addr.staGateOperBaseHi p.val) = s.reg (Addr.staGateAdminBaseHi p.val)
      ∧ t.reg (Addr.staGateOperCycle p.val) = s.reg (Addr.staGateAdminCycle p.val)
      ∧ t.reg (Addr.staGateOperLen p.val) = word n ∧ Noted (Addr.staGateEvents p.val) 0 s t
      ∧ (∀ k, k < n → t.reg (Addr.staGclOper p.val k) = s.reg (Addr.staGclAdmin p.val k))
      ∧ ∀ a, (a < Addr.staBase p.val ∨ Addr.staBase p.val + 0x3000 ≤ a) → t.reg a = s.reg a)
  ∧ (∀ (s : State) (p : Fin 2) (bytes : List Byte), s.start.logicUp = true → s.prpOn = true →
    s.enabled .switch = true → (s.sta p.val).link = true →
    Runs (.prpFrameReceive p bytes false) s fun t =>
      t = { s with regs := t.regs } ∧ RegsBut [Addr.staRxFcsErrCount p.val] s t
      ∧ t.reg (Addr.staRxFcsErrCount p.val) = satAdd (s.reg (Addr.staRxFcsErrCount p.val)) 1)
  ∧ (∀ (s u : State) (p : Fin 2) (bytes : List Byte) (n : Half) (e w : Nat), s.start.logicUp = true → s.prpOn = true →
    s.enabled .switch = true → (s.sta p.val).link = true → 60 ≤ bytes.length → beAt bytes 12 2 ≠ 0x8808 →
    rctRead bytes = some (n, 0xA + p.val) →
    (s.inc (Addr.staRxFrames p.val)).exactLookup 2 (beAt bytes 6 6) = (some e, u) →
    w = u.field (Addr.classEntry e 3) 0 9 → (s.prpWindow w).valid = true →
    s.now < (s.prpWindow w).last + (max 1 (s.field (Addr.prpCtrl 0) 16 16)) * 400000 →
    ((s.prpWindow w).high - n).toNat < 256 → bit (s.prpWindow w).seen (n.toNat % 256) = true →
    Runs (.prpFrameReceive p bytes true) s fun t =>
      t = { u with regs := t.regs, prp := t.prp } ∧ RegsBut [Addr.classEntry e 5, Addr.prpDupCount 0] u t
      ∧ t.reg (Addr.prpDupCount 0) = satAdd (u.reg (Addr.prpDupCount 0)) 1
      ∧ t.prpWindow w = { s.prpWindow w with last := s.now } ∧ ∀ k, k ≠ w → t.prpWindow k = s.prpWindow k)
  ∧ (∀ (s : State), s.start.logicUp = true → s.prpOn = true → s.flag (Addr.prpCtrl 0) 1 = true →
    (s.sta 0).link = true → (s.sta 1).link = true →
    Runs .prpSupervisionSend s fun t =>
      t = { s with regs := t.regs, prp := t.prp, out := t.out }
      ∧ RegsBut [Addr.prpTxSeq 0, Addr.staTxFrames 0, Addr.staTxFrames 1] s t
      ∧ t.field (Addr.prpTxSeq 0) 0 16 = (s.field (Addr.prpTxSeq 0) 0 16 + 1) % 65536
      ∧ t.prp = { s.prp with supSeq := s.prp.supSeq + 1 }
      ∧ (∀ b0 b1 : List Byte,
          b0 = s.supervisionBytes ++ rctOf 0 (BitVec.ofNat 16 (s.field (Addr.prpTxSeq 0) 0 16)) s.supervisionBytes →
          b1 = s.supervisionBytes ++ rctOf 1 (BitVec.ofNat 16 (s.field (Addr.prpTxSeq 0) 0 16)) s.supervisionBytes →
          t.out = .eth 1 b1 (crc32Eth b1) .plain :: .eth 0 b0 (crc32Eth b0) .plain :: s.out))
  ∧ (∀ (s : State) (p : Fin 2), s.start.logicUp = true → s.enabled (.sta p) = true →
    s.flag (Addr.staCtrl p.val) 0 = false → (s.sta p.val).link = false →
    Runs (.staLinkChange p 0xF true false false) s fun t =>
      t = { s with regs := t.regs, stas := t.stas } ∧ RegsBut [Addr.staEvents p.val] s t
      ∧ Noted (Addr.staEvents p.val) 0 s t ∧ (∀ k, k ≠ p.val → t.sta k = s.sta k)
      ∧ t.sta p.val = { s.sta p.val with link := true, sync := 0xF, aligned := true, localFault := false, remoteFault := false })
  ∧ (∀ (s : State) (p : Fin 2) (y : BitVec 4) (a : Bool), s.start.logicUp = true → s.enabled (.sta p) = true →
    s.flag (Addr.staCtrl p.val) 0 = false → (s.sta p.val).link = true → (y ≠ 0xF ∨ a = false) →
    Runs (.staLinkChange p y a false false) s fun t =>
      t = { s with regs := t.regs, stas := t.stas } ∧ RegsBut [Addr.staEvents p.val] s t
      ∧ Noted (Addr.staEvents p.val) 1 s t ∧ (∀ k, k ≠ p.val → t.sta k = s.sta k)
      ∧ t.sta p.val = { s.sta p.val with link := false, sync := y, aligned := a, localFault := false, remoteFault := false })

/-- R6, R38, R42, R43: a write of an ordinary word stores its writable bits, a read of the low word of a 64-bit value
latches the high word for its reader, a write of the low word is staged and the write of the high word commits both. -/
def Obligations.RegisterAccessesRun : Prop :=
  (∀ (s : State) (i : Initiator) (addr v : Word) (b : Block) (o : Nat) (r : RegRow), s.ready i addr.toNat true = true →
    locate addr.toNat = some (b, o) → plainBlock b = true →
    regRow addr.toNat = some r →
    Runs (.registerWrite i addr 4 v) s fun t =>
      t = { s.written i addr.toNat .done with regs := t.regs } ∧ RegsBut [addr.toNat] s t
      ∧ t.reg addr.toNat = v &&& BitVec.ofNat 32 r.mask)
  ∧ (∀ (s : State) (i : Initiator) (addr : Word) (b : Block) (o : Nat), s.ready i addr.toNat false = true →
    lowWordRead addr.toNat = true → locate addr.toNat = some (b, o) → s.stagedAt i addr.toNat = none →
    s.shadowAt i addr.toNat = none →
    Runs (.readLowWordLatch i addr) s fun t =>
      t = { s with shadows := t.shadows, out := .access i addr.toNat (.data (s.viewReg i b addr.toNat)) :: s.out }
      ∧ t.shadowAt i (addr.toNat + 4) = some (s.viewReg i b (addr.toNat + 4)))
  ∧ (∀ (s : State) (i : Initiator) (addr v : Word), s.ready i addr.toNat true = true → lowWordWrite addr.toNat = true →
    (∀ c, c < 8 → s.dmaEn c = false) →
    Runs (.writeLowWordStage i addr v) s fun t =>
      t = { s.written i addr.toNat .done with staged := t.staged } ∧ t.stagedAt i addr.toNat = some v)
  ∧ (∀ (s : State) (i : Initiator) (addr v lo : Word) (a : Nat) (x y : RegRow), s.ready i addr.toNat true = true →
    addr.toNat = a + 4 → lowWordWrite a = true → (∀ c, c < 8 → s.dmaEn c = false) → s.stagedAt i a = some lo →
    regRow a = some x → regRow (a + 4) = some y →
    Runs (.writeHighWordCommit i addr v) s fun t =>
      t = { s.written i addr.toNat .done with staged := t.staged, regs := t.regs } ∧ RegsBut [a, a + 4] s t
      ∧ t.stagedAt i a = none ∧ t.reg a = lo &&& BitVec.ofNat 32 x.mask ∧ t.reg (a + 4) = v &&& BitVec.ofNat 32 y.mask)
  ∧ (∀ (s : State) (i : Initiator) (addr v : Word) (a : Nat) (y : RegRow), s.ready i addr.toNat true = true →
    addr.toNat = a + 4 → lowWordWrite a = true → (∀ c, c < 8 → s.dmaEn c = false) → s.stagedAt i a = none →
    regRow (a + 4) = some y →
    Runs (.writeHighWordCommit i addr v) s fun t =>
      t = { s.written i addr.toNat .done with regs := t.regs } ∧ RegsBut [a + 4] s t
      ∧ t.reg (a + 4) = v &&& BitVec.ofNat 32 y.mask)

/-- R50, R51, R56, R57: a value word arms its pair, a second one fails it with code 3, a pair not completed in time fails
with code 1, a scan that completes stores its CRC and reports drift once, and a committed reference ends HOLD. -/
def Obligations.GuardsAndScansRun : Prop :=
  (∀ (s : State) (i : Initiator) (addr v : Word), s.ready i addr.toNat true = true → hasAccess addr.toNat .gd = true →
    (blockOwner ((locate addr.toNat).getD (.global, 0)).1 = some .pair → s.fuses.pairCapable = true) →
    (s.guard addr.toNat).armed = none →
    Runs (.guardValueWrite i addr v) s fun t =>
      t = { s.written i addr.toNat .done with guards := t.guards } ∧ (∀ k, k ≠ addr.toNat → t.guard k = s.guard k)
      ∧ t.guard addr.toNat = { s.guard addr.toNat with armed := some ⟨i, v, s.now⟩ })
  ∧ (∀ (s : State) (i : Initiator) (addr v : Word) (x : Armed), s.ready i addr.toNat true = true →
    hasAccess addr.toNat .gd = true →
    (blockOwner ((locate addr.toNat).getD (.global, 0)).1 = some .pair → s.fuses.pairCapable = true) →
    (s.guard addr.toNat).armed = some x → s.now ≤ x.since + 256 →
    Runs (.guardValueWrite i addr v) s fun t =>
      t = { s.written i addr.toNat .done with guards := t.guards, regs := t.regs, fault := t.fault }
      ∧ RegsBut [Addr.regifGuardFailAddr, Addr.regifGuardFailCount] s t
      ∧ t.reg Addr.regifGuardFailAddr = addr
      ∧ t.reg Addr.regifGuardFailCount = satAdd (s.reg Addr.regifGuardFailCount) 1
      ∧ (∀ k, k ≠ addr.toNat → t.guard k = s.guard k)
      ∧ t.guard addr.toNat = { s.guard addr.toNat with failCode := 3, armed := none })
  ∧ (∀ (s : State) (addr : Word) (x : Armed), (s.guard addr.toNat).armed = some x →
    Runs (.guardExpiry addr) s fun t =>
      t = { s with guards := t.guards, regs := t.regs, fault := t.fault }
      ∧ RegsBut [Addr.regifGuardFailAddr, Addr.regifGuardFailCount] s t
      ∧ t.reg Addr.regifGuardFailAddr = addr
      ∧ t.reg Addr.regifGuardFailCount = satAdd (s.reg Addr.regifGuardFailCount) 1
      ∧ (∀ k, k ≠ addr.toNat → t.guard k = s.guard k)
      ∧ t.guard addr.toNat = { s.guard addr.toNat with failCode := 1, armed := none }
      ∧ t.fault = (s.raise ((ownerOf addr.toNat).getD .regif) .guardFail 1 (some (s.hubAddr addr.toNat))).fault)
  ∧ (∀ (s : State), s.start.logicUp = true → s.flag Addr.regifCfgCrcCtrl 0 = true → s.scanSuspended = false →
    s.cfg.tainted = false → s.fault.inject.armed = false → s.scanCrc = s.reg Addr.regifCfgCrcRef →
    Runs .cfgCrcScanComplete s fun t =>
      t = { s with regs := t.regs, cfg := { s.cfg with drifted := false } }
      ∧ RegsBut [Addr.regifCfgCrcLast, Addr.regifCfgCrcStatus] s t ∧ t.reg Addr.regifCfgCrcLast = s.scanCrc
      ∧ t.flag Addr.regifCfgCrcStatus 1 = false
      ∧ t.field Addr.regifCfgCrcStatus 16 16 = (s.field Addr.regifCfgCrcStatus 16 16 + 1) % 65536)
  ∧ (∀ (s : State), s.start.logicUp = true → s.flag Addr.regifCfgCrcCtrl 0 = true → s.scanSuspended = false →
    s.cfg.tainted = false → s.fault.inject.armed = false → s.fault.inject.addr ≠ Addr.regifCfgCrcRef →
    s.scanCrc ≠ s.reg Addr.regifCfgCrcRef → s.cfg.drifted = false →
    Runs .cfgCrcScanComplete s fun t =>
      t = { s with regs := t.regs, cfg := { s.cfg with drifted := true }, fault := t.fault }
      ∧ RegsBut [Addr.regifCfgCrcLast, Addr.regifCfgCrcStatus] s t ∧ t.reg Addr.regifCfgCrcLast = s.scanCrc
      ∧ t.flag Addr.regifCfgCrcStatus 1 = true
      ∧ t.fault = (s.raise .regif .cfgDrift 0 (some (BitVec.ofNat 48 s.scanCrc.toNat))).fault)
  ∧ (∀ (s : State) (i : Initiator) (v : Word), s.ready i (Addr.regifCfgCrcRef + 4) true = true →
    s.armedAt Addr.regifCfgCrcRef v = true →
    Runs (.cfgCrcRefCommit i (~~~ v)) s fun t =>
      t = { s.written i (Addr.regifCfgCrcRef + 4) .done with regs := t.regs, guards := t.guards, cfg := t.cfg }
      ∧ RegsBut [Addr.regifCfgCrcRef, Addr.regifCfgCrcCtrl] s t ∧ Committed Addr.regifCfgCrcRef s t
      ∧ t.reg Addr.regifCfgCrcRef = v ∧ t.flag Addr.regifCfgCrcCtrl 1 = false
      ∧ (∀ j, j < 32 → j ≠ 1 → t.flag Addr.regifCfgCrcCtrl j = s.flag Addr.regifCfgCrcCtrl j))

/-- R11 to R14, R20, R22, R25, R26: a unit reset makes the unit busy and leaves its registers at their reset values, its
end sets EN as written, a region is fenced and released, and the die link fails, is lost and comes back. -/
def Obligations.UnitsRegionsAndDieLinkRun : Prop :=
  (∀ (s : State) (i : Initiator) (x : Fin 16) (v : Word), s.ready i (unitCtrl (.uart x)) true = true →
    (∀ q, q < 64 → (s.queue q).part = false) →
    Runs (.unitReset i (.uart x) v) s fun t =>
      t = { s.written i (unitCtrl (.uart x)) .done with
        regs := t.regs, guards := t.guards, shadows := t.shadows, staged := t.staged, uarts := t.uarts,
        busy := s.busy ++ [⟨.uart x, bit v 0⟩] }
      ∧ (∀ a, ownerOf a ≠ some (.uart x) → t.reg a = s.reg a)
      ∧ (∀ a, ownerOf a = some (.uart x) → a ≠ unitCtrl (.uart x) → t.reg a = regReset a)
      ∧ t.enabled (.uart x) = false ∧ t.uart x.val = {} ∧ ∀ k, k ≠ x.val → t.uart k = s.uart k)
  ∧ (∀ (s : State) (i : Initiator) (u : HubUnit) (v : Word), s.ready i (unitCtrl u) true = true →
    s.unitAbsent u = false →
    Runs (.unitReset i u v) s fun t => t.isBusy u = true ∧ t.enabled u = false)
  ∧ (∀ (s : State) (x : Fin 16) (b : Bool), s.busy = [⟨.uart x, b⟩] → s.unitFenced (.uart x) = false →
    s.enabled (.uart x) = false → s.held = [] → s.usb.cmds = [] →
    Runs (.unitResetComplete (.uart x)) s fun t =>
      t = { s with regs := t.regs, busy := [] } ∧ RegsBut [unitCtrl (.uart x)] s t ∧ t.enabled (.uart x) = b)
  ∧ (∀ (s : State) (u : HubUnit), s.isBusy u = true → s.held = [] → s.usb.cmds = [] → s.unitFenced u = true →
    Runs (.unitResetComplete u) s fun t => t = { s with busy := s.busy.filter fun b => b.u != u } ∧ t.isBusy u = false)
  ∧ (∀ (s : State) (i : Initiator) (u : HubUnit) (v : Word), s.ready i (unitCtrl u) true = true →
    plainUnit u = true → s.enabled u = false → bit v 0 = true →
    Runs (.unitEnableWrite i u v) s fun t =>
      t = { s.written i (unitCtrl u) .done with regs := t.regs } ∧ RegsBut [unitCtrl u] s t ∧ t.enabled u = true)
  ∧ (∀ (s : State) (i : Initiator) (u : HubUnit) (v : Word), s.ready i (unitCtrl u) true = true →
    s.unitAbsent u = false → s.enabled u = bit v 0 →
    Runs (.unitEnableWrite i u v) s fun t => t = s.written i (unitCtrl u) .done)
  ∧ (∀ (s : State) (i : Initiator) (r : Fin 4) (v : Word), s.ready i (Addr.globalRegionFence + 4) true = true →
    s.armedAt Addr.globalRegionFence v = true → bits v 0 4 = 2 ^ r.val → (∀ k, k < 4 → k ≠ r.val → s.fenced k = false) →
    Runs (.regionFence i (~~~ v)) s fun t => t.fenced r.val = true)
  ∧ (∀ (s : State) (i : Initiator) (v : Word), s.ready i (Addr.globalRegionFence + 4) true = true →
    s.armedAt Addr.globalRegionFence v = true → (∀ k, k < 4 → bit v k = true → s.fenced k = true) →
    (∀ k, k < 4 → s.start.fenceAt.getD k none ≠ some s.now) →
    ((List.range 4).any fun k => s.fenced k && !bit v k) = true →
    Runs (.regionRelease i (~~~ v)) s fun t =>
      t = { s.written i (Addr.globalRegionFence + 4) .done with
              regs := t.regs, guards := t.guards, cfg := t.cfg
              start := { s.start with fenceAt := t.start.fenceAt } }
      ∧ RegsBut [Addr.globalRegionFence, Addr.globalRegionState] s t ∧ Committed Addr.globalRegionFence s t
      ∧ t.reg Addr.globalRegionFence = v &&& 0xF
      ∧ ∀ k, k < 4 → t.fenced k = bit v k
        ∧ t.flag Addr.globalRegionState (12 + k) = (s.flag Addr.globalRegionState (12 + k) || (s.fenced k && !bit v k)))
  ∧ (∀ (s : State) (r : Fin 4), s.flag Addr.globalRegionState (12 + r.val) = true → s.regionWords r.val = [] →
    ¬(2 ≤ s.start.phase ∧ s.start.phase ≤ 5) →
    Runs (.regionReloadComplete r) s fun t =>
      t = { s with regs := t.regs, cfg := t.cfg } ∧ RegsBut [Addr.globalRegionState] s t
      ∧ t.flag Addr.globalRegionState (12 + r.val) = false
      ∧ ∀ j, j < 32 → j ≠ 12 + r.val → t.flag Addr.globalRegionState j = s.flag Addr.globalRegionState j)
  ∧ (∀ (s : State) (p : Bool), s.dieLink.up = true →
    Runs (.dieLinkParityError p) s fun t =>
      t = { s with fault := { s.fault with msgs := s.fault.msgs ++
        [⟨dieLinkSource p, 3, 0, s.hubAddr 0xA0_0000, .degraded, s.now, BitVec.ofNat 48 s.timeNs⟩] } })
  ∧ (∀ (s : State), s.dieLink.up = true → s.held = [] →
    Runs .dieLinkLost s fun t =>
      t = { s with dieLink := ⟨false, true⟩, power := t.power }
      ∧ ∀ g, g < 8 → t.group g = { s.group g with cmds := [] })
  ∧ (∀ (s : State), s.dieLink.holding = true → (∀ g, g < 8 → (s.group g).live = false) →
    Runs .linkLossHoldExpiry s fun t => t = { s with dieLink := { s.dieLink with holding := false } })
  ∧ (∀ (s : State), s.dieLink.up = false → s.start.logicUp = true →
    Runs .dieLinkRecover s fun t =>
      t = { s with dieLink := ⟨true, false⟩, regs := t.regs,
                   fault := { s.fault with powerHeld := [], powerLost := 0,
                                           msgs := s.fault.msgs ++ s.fault.powerHeld.map fun m => { m with since := s.now } } }
      ∧ RegsBut [Addr.faultPowerLostCount] s t
      ∧ t.reg Addr.faultPowerLostCount = satAdd (s.reg Addr.faultPowerLostCount) s.fault.powerLost)

/-- R82 to R87, R91, R93, R94: fabric time is stepped, its rate changes without a jump, a read of it latches the words above,
the servo slews and steps and moves TIME_STATE, a lost source leads to HOLDOVER, LINE gives the rate, and time beacons are
sent and taken. -/
def Obligations.FabricTimeRuns : Prop :=
  (∀ (s : State) (i : Initiator) (v : Word) (d : Int), s.ready i (Addr.timeStepCmd + 4) true = true →
    s.armedAt Addr.timeStepCmd v = true → bit v 0 = true → s.enabled .time = true →
    d = signed 64 ((s.reg Addr.timeStepNsLo).toNat + (s.reg Addr.timeStepNsHi).toNat * 2 ^ 32) * 65536 →
    (s.sta 0).pending = false → (s.sta 1).pending = false →
    Runs (.timeStep i (~~~ v)) s fun t =>
      t = { s.written i (Addr.timeStepCmd + 4) .done with regs := t.regs, guards := t.guards, time := t.time, angle := t.angle,
                                                          ephem := t.ephem, fault := t.fault, stas := t.stas }
      ∧ RegsBut [Addr.timeStepCmd, Addr.timeEvents] s t ∧ Committed Addr.timeStepCmd s t
      ∧ t.reg Addr.timeStepCmd = v &&& 1 ∧ Noted Addr.timeEvents 1 s t
      ∧ t.time = { s.time with offset := s.time.offset + BitVec.ofInt 80 d }
      ∧ t.angle = { s.angle with
          t0 := s.angle.t0 + BitVec.ofInt 80 d,
          lastCrossing := if s.field Addr.angleCtrl 0 2 = 1 then s.angle.lastCrossing.map (· + d) else s.angle.lastCrossing }
      ∧ t.fault.msgs.map (·.kind) = s.fault.msgs.map (·.kind) ++ [0x41])
  ∧ (∀ (s : State) (i : Initiator) (v : Word), s.ready i Addr.timeRate true = true → s.time.source = 0 →
    Runs (.timeRateWrite i v) s fun t =>
      t = { s.written i Addr.timeRate .done with regs := t.regs, time := t.time } ∧ RegsBut [Addr.timeRate] s t
      ∧ t.reg Addr.timeRate = v
      ∧ t.time = { s.time with rateF := v.toInt, offset := s.time.offset
                      + BitVec.ofInt 80 (Int.fdiv (Int.ofNat s.now * 5 * ((s.reg Addr.timeRate).toInt - v.toInt)) (2 ^ 25)) })
  ∧ (∀ (s : State) (i : Initiator) (v : Word), s.ready i Addr.timeRate true = true → s.time.source ≠ 0 →
    Runs (.timeRateWrite i v) s fun t => t = s.written i Addr.timeRate .done)
  ∧ (∀ (s : State) (i : Initiator), s.ready i Addr.timeNowNsLo false = true → s.stagedAt i Addr.timeNowNsLo = none →
    s.shadowAt i Addr.timeNowNsLo = none →
    Runs (.timeNowRead i) s fun t =>
      t = { s with shadows := t.shadows, out := .access i Addr.timeNowNsLo (.data (word s.timeNs)) :: s.out }
      ∧ t.shadowAt i Addr.timeNowNsHi = some (word (s.timeNs / 2 ^ 32))
      ∧ t.shadowAt i Addr.timeNowFrac = some (word (s.time16 % 65536).toNat))
  ∧ (∀ (s : State) (i : Initiator) (v : Word) (n : Nat), s.ready i Addr.timeCtrl true = true → n = bits v 0 3 → 1 ≤ n →
    n < 6 → s.time.source ≠ n →
    Runs (.timeSourceWrite i v) s fun t =>
      t = { s.written i Addr.timeCtrl .done with regs := t.regs, time := t.time }
      ∧ RegsBut [Addr.timeCtrl, Addr.timeRate, Addr.timeEvents] s t
      ∧ t.reg Addr.timeCtrl = v &&& 0xF77 ∧ t.time.source = n ∧ t.time.sync = .acquiring ∧ t.time.history = []
      ∧ t.reg Addr.timeRate = wordSat s.time.rateF ∧ t.time.slewing = false
      ∧ t.time.offset = s.time.offset + BitVec.ofInt 80
          (Int.fdiv (Int.ofNat s.now * 5 * ((s.reg Addr.timeRate).toInt - (wordSat s.time.rateF).toInt)) (2 ^ 25))
      ∧ (bit v 6 = true → t.time.lineClock = .reference ∧ t.reg Addr.timeEvents = s.reg Addr.timeEvents))
  ∧ (∀ (s : State) (theta lim term : Int), s.start.logicUp = true → s.time.source = 1 → s.time.sync = .acquiring →
    s.time.good = 3 → Int.natAbs theta < 6553600 → Int.natAbs theta < s.field Addr.timeServo 0 16 * 65536 →
    s.start.waitLock = false → lim = roundDiv (Int.ofNat (s.field Addr.timeServo 16 8) * 2 ^ 40) 1000000 →
    term = max (-lim) (min lim (roundDiv (theta * 2 ^ 40) (s.interval 1 * 65536))) →
    Runs (.servoMeasurement 1 theta) s fun t =>
      t = { s with regs := t.regs, time := t.time } ∧ RegsBut [Addr.timeLastTheta, Addr.timeRate, Addr.timeEvents] s t
      ∧ t.reg Addr.timeLastTheta = wordSat (Int.fdiv theta 256) ∧ t.reg Addr.timeRate = wordSat (s.time.rateF + term)
      ∧ Noted Addr.timeEvents 0 s t ∧ t.time.sync = .locked ∧ t.time.slewing = true ∧ t.time.rateF = s.time.rateF)
  ∧ (∀ (s : State) (theta : Int), s.start.logicUp = true → s.time.source = 1 → s.time.sync = .locked →
    s.field Addr.timeServo 0 16 * 65536 ≤ Int.natAbs theta → (s.sta 0).pending = false → (s.sta 1).pending = false →
    Runs (.servoMeasurement 1 theta) s fun t =>
      t = { s with regs := t.regs, time := t.time, angle := t.angle, ephem := t.ephem, fault := t.fault, stas := t.stas }
      ∧ RegsBut [Addr.timeLastTheta, Addr.timeRate, Addr.timeEvents] s t ∧ Noted Addr.timeEvents 1 s t
      ∧ t.reg Addr.timeRate = wordSat s.time.rateF
      ∧ t.time = { s.time with
          slewing := false, sync := .acquiring, good := 0
          offset := s.time.offset + BitVec.ofInt 80
            (Int.fdiv (Int.ofNat s.now * 5 * ((s.reg Addr.timeRate).toInt - (wordSat s.time.rateF).toInt)) (2 ^ 25))
            + BitVec.ofInt 80 theta }
      ∧ t.angle = { s.angle with
          t0 := s.angle.t0 + BitVec.ofInt 80 theta,
          lastCrossing := if s.field Addr.angleCtrl 0 2 = 1 then s.angle.lastCrossing.map (· + theta) else s.angle.lastCrossing })
  ∧ (∀ (s : State), s.start.logicUp = true → s.time.slewing = true →
    Runs .slewTermExpiry s fun t =>
      t = { s with regs := t.regs, time := t.time } ∧ RegsBut [Addr.timeRate] s t
      ∧ t.reg Addr.timeRate = wordSat s.time.rateF ∧ t.time.slewing = false ∧ t.time.sync = s.time.sync)
  ∧ (∀ (s : State), s.start.logicUp = true → s.time.sync = .locked →
    Runs .timeSourceLossTimeout s fun t =>
      t = { s with regs := t.regs, time := t.time, fault := t.fault }
      ∧ t.time = { s.time with
          sync := .holdover, slewing := false
          offset := s.time.offset + BitVec.ofInt 80
            (Int.fdiv (Int.ofNat s.now * 5 * ((s.reg Addr.timeRate).toInt - (wordSat s.time.rateF).toInt)) (2 ^ 25)) }
      ∧ t.reg Addr.timeRate = wordSat s.time.rateF
      ∧ RegsBut [Addr.timeEvents, Addr.timeRate] s t ∧ Noted Addr.timeEvents 2 s t
      ∧ t.fault = (s.endSlew.raise .time .timeSourceLost 0 none).fault)
  ∧ (∀ (s : State) (count : Nat) (f : Int), s.start.logicUp = true → s.flag Addr.timeCtrl 6 = false →
    s.time.source = 1 → count ≠ 0 → f = roundDiv ((2 ^ 40 + s.time.rateRoot) * 256000000) count - 2 ^ 40 →
    Runs (.lineWindowComplete count) s fun t =>
      t = { s with regs := t.regs, time := t.time } ∧ RegsBut [Addr.timeRate] s t
      ∧ t.reg Addr.timeRate = wordSat ((s.reg Addr.timeRate).toInt + (f - s.time.rateF)) ∧ t.time.rateF = f
      ∧ t.time.sync = s.time.sync)
  ∧ (∀ (s : State), s.start.logicUp = true → s.flag Addr.timeCtrl 4 = true → s.ring.sync ≠ .member →
    Runs .timeBeaconSend s fun t =>
      t = { s with regs := t.regs, time := { s.time with beaconSeq := s.time.beaconSeq + 1 }, free := s.free + 1 }
      ∧ RegsBut [Addr.ringTransitDropCount, Addr.ringEvents] s t ∧ Noted Addr.ringEvents 9 s t
      ∧ t.reg Addr.ringTransitDropCount = satAdd (s.reg Addr.ringTransitDropCount) 1)
  ∧ (∀ (s : State), s.start.logicUp = true → s.flag Addr.timeCtrl 4 = true → s.ring.sync = .member →
    Runs .timeBeaconSend s fun t =>
      t.time = { s.time with beaconSeq := s.time.beaconSeq + 1 } ∧ t.mem = s.mem ∧ t.queues = s.queues
      ∧ t.cores = s.cores)
  ∧ (∀ (s : State) (x : PortFrame) (r : List PortFrame) (stamp : Int), s.start.logicUp = true → s.ring.inbox = x :: r →
    isTimeBeacon x.frame = true → x.frame.srcNode.toNat = s.field Addr.timeMasters 0 8 → s.time.source ≠ 1 →
    s.time.masterNode = x.frame.srcNode →
    Runs (.timeBeaconReceive stamp) s fun t =>
      t = { s with ring := { s.ring with inbox := r }, time := t.time }
      ∧ t.time = { s.time with primaryAt := s.now, backupRun := 0, backupTaken := false,
                               seenSeq := some (x.frame.payload.getD 6 0), rateRoot := (x.frame.payload.getD 5 0).toInt })
  ∧ (∀ (s : State) (x : PortFrame) (r : List PortFrame) (stamp : Int), s.start.logicUp = true → s.ring.inbox = x :: r →
    isTimeBeacon x.frame = true → x.frame.srcNode.toNat ≠ s.field Addr.timeMasters 0 8 →
    x.frame.srcNode.toNat ≠ s.field Addr.timeMasters 8 8 → s.ring.sync = .member →
    Runs (.timeBeaconReceive stamp) s fun t =>
      t = { s with ring := { s.ring with inbox := r, sync := .transit, cause := 4 }, regs := t.regs, fault := t.fault }
      ∧ RegsBut [Addr.timeEvents, Addr.ringEvents] s t ∧ Noted Addr.timeEvents 6 s t ∧ Noted Addr.ringEvents 1 s t)

/-- R101, R102, R104 to R106: what PTP messages set and cause, what a port sends in its role, IRIG-B frames and 1PPS edges
as measurements, and PPS_OUT. -/
def Obligations.TimeInputsRun : Prop :=
  (∀ (s : State) (p : Fin 2) (n : Half) (id : Dword) (c edge stamp : Int), s.start.logicUp = true → s.ptpRole p ≠ 0 →
    stamp = s.staRxStamp p edge →
    Runs (.ptpMessageReceive p ⟨s.ptpDomain p, id, .pdelayReq n c⟩ edge) s fun t =>
      t = { s with out := .ptp p ⟨s.ptpDomain p, s.fuses.eui64,
                            .pdelayResp n false stamp (c + (s.staTxStamp p - stamp))⟩ :: s.out })
  ∧ (∀ (s : State) (p : Fin 2) (f : PtpFrame) (edge : Int), s.start.logicUp = true →
    s.ptpRole p = 0 ∨ f.domain ≠ s.ptpDomain p → Runs (.ptpMessageReceive p f edge) s fun t => t = s)
  ∧ (∀ (s : State) (p : Fin 2) (edge : Int),
    s.staRxStamp p edge = edge - Int.fdiv (((if s.flag (Addr.staCtrl p.val) 0 then 72000 else 32000)
      + (s.reg (if p = 0 then Addr.timeCorrSta0Rx else Addr.timeCorrSta1Rx)).toInt) * 65536) 1000
    ∧ s.staTxStamp p = s.time16 + Int.fdiv (((if s.flag (Addr.staCtrl p.val) 0 then 56000 else 25600)
      + (s.reg (if p = 0 then Addr.timeCorrSta0Tx else Addr.timeCorrSta1Tx)).toInt) * 65536) 1000)
  ∧ (∀ (s : State) (p : Fin 2) (n : Half) (id : Dword) (o c edge stamp : Int), s.start.logicUp = true → s.ptpRole p ≠ 0 →
    s.ptp.length = 2 → stamp = s.staRxStamp p edge →
    Runs (.ptpMessageReceive p ⟨s.ptpDomain p, id, .sync n true o c⟩ edge) s fun t =>
      t = { s with ptp := t.ptp } ∧ t.ptpPort p = { s.ptpPort p with syncSeq := some (n, stamp - c) })
  ∧ (∀ (s : State) (p : Fin 2) (n : Half) (id : Dword) (c t1 edge stamp x : Int), s.start.logicUp = true → s.ptpRole p ≠ 0 →
    s.ptp.length = 2 → (s.ptpPort p).pdelayT1 = some (n, t1) → stamp = s.staRxStamp p edge →
    Runs (.ptpMessageReceive p ⟨s.ptpDomain p, id, .pdelayResp n false x c⟩ edge) s fun t =>
      t = { s with ptp := t.ptp }
      ∧ t.ptpPort p = { s.ptpPort p with pdelayT1 := none, meanDelay := Int.fdiv (stamp - t1 - c) 2 })
  ∧ (∀ (s : State) (p : Fin 2) (n : Half) (id : Dword) (c x : Int) (t2 t3 edge : Int), s.start.logicUp = true → s.ptpRole p ≠ 0 →
    s.ptp.length = 2 → (s.ptpPort p).pdelayT4 = some (n, x, t2) →
    Runs (.ptpMessageReceive p ⟨s.ptpDomain p, id, .pdelayRespFollowUp n t3 c⟩ edge) s fun t =>
      t = { s with ptp := t.ptp }
      ∧ t.ptpPort p = { s.ptpPort p with pdelayT1 := none, pdelayT4 := none, meanDelay := Int.fdiv (x - (t3 - t2) - c) 2 })
  ∧ (∀ (s : State) (p : Fin 2) (n : Half), s.start.logicUp = true → s.ptpRole p = 1 → s.ptp.length = 2 →
    (s.ptpPort p).seq = n →
    Runs (.ptpMessageSend p) s fun t =>
      t = { s with ptp := t.ptp, out := .ptp p ⟨s.ptpDomain p, s.fuses.eui64, .pdelayReq n 0⟩ :: s.out }
      ∧ t.ptpPort p = { s.ptpPort p with seq := n + 1, pdelayT1 := some (n, s.staTxStamp p), pdelayT4 := none })
  ∧ (∀ (s : State) (p : Fin 2) (n : Half), s.start.logicUp = true → s.ptpRole p = 2 → s.time.sync = .locked →
    (s.ptpPort p).seq = n →
    Runs (.ptpMessageSend p) s fun t =>
      t = { s with ptp := t.ptp, 
                   out := .ptp p ⟨s.ptpDomain p, s.fuses.eui64, .pdelayReq n 0⟩
                            :: .ptp p ⟨s.ptpDomain p, s.fuses.eui64, .announce n 6⟩
                            :: .ptp p ⟨s.ptpDomain p, s.fuses.eui64, .sync n false (s.staTxStamp p) 0⟩ :: s.out })
  ∧ (∀ (s : State) (k : Fin 2) (f : IrigFrame) (edge : Int), s.start.logicUp = true → bit (s.reg (tinCtrl k)) 0 = true →
    bit (s.reg (tinCtrl k)) 1 = false → f.good = true → (s.tin k).good = 0 → s.tins.length = 2 →
    Runs (.irigBFrameReceive k f edge) s fun t =>
      t = { s with tins := t.tins } ∧ t.tin k = { good := 1, lastSecond := s.irigSecond k f })
  ∧ (∀ (s : State) (k : Fin 2) (f : IrigFrame) (edge theta : Int), s.start.logicUp = true →
    bit (s.reg (tinCtrl k)) 0 = true → bit (s.reg (tinCtrl k)) 1 = false → f.good = true → 1 ≤ (s.tin k).good →
    s.irigSecond k f = (s.tin k).lastSecond + 1 → s.time.source = 4 + k.val → s.tins.length = 2 → s.time.sync = .locked →
    theta = Int.ofNat (s.irigSecond k f) * 65536000000000 - edge → (bit (s.reg (tinCtrl k)) 3 = true → f.quality ≠ 15) →
    Int.natAbs theta < s.field Addr.timeServo 0 16 * 65536 →
    Runs (.irigBFrameReceive k f edge) s fun t =>
      t = { s with tins := t.tins, regs := t.regs, time := t.time }
      ∧ RegsBut [Addr.timeLastTheta, Addr.timeRate, Addr.timeTaiUtc] s t
      ∧ (bit (s.reg (tinCtrl k)) 3 = false → t.reg Addr.timeTaiUtc = s.reg Addr.timeTaiUtc)
      ∧ (bit (s.reg (tinCtrl k)) 3 = true → t.field Addr.timeTaiUtc 0 16 = s.field Addr.timeTaiUtc 0 16
          ∧ t.flag Addr.timeTaiUtc 16 = f.leapPending ∧ t.flag Addr.timeTaiUtc 17 = f.leapMinus)
      ∧ t.reg Addr.timeLastTheta = wordSat (Int.fdiv theta 256) ∧ t.time.slewing = true ∧ t.time.sync = .locked
      ∧ t.time.history = ((s.now, s.time16 + theta) :: s.time.history).take 16)
  ∧ (∀ (s : State) (k : Fin 2) (edge : Int) (n : Nat), s.start.logicUp = true → bit (s.reg (tinCtrl k)) 0 = true →
    bit (s.reg (tinCtrl k)) 1 = true → s.time.source = 4 + k.val → s.time.sync = .locked →
    Int.natAbs (Int.ofNat n * 65536000000000 - edge) < 26214400000000 →
    Int.natAbs (Int.ofNat n * 65536000000000 - edge) < s.field Addr.timeServo 0 16 * 65536 →
    Runs (.tinPpsEdge k edge) s fun t =>
      t = { s with regs := t.regs, time := t.time } ∧ RegsBut [Addr.timeLastTheta, Addr.timeRate] s t
      ∧ t.reg Addr.timeLastTheta = wordSat (Int.fdiv (Int.ofNat n * 65536000000000 - edge) 256)
      ∧ t.time.slewing = true ∧ t.time.sync = .locked)
  ∧ (∀ (s : State), s.start.logicUp = true → s.flag Addr.timePpsOut 0 = true →
    (s.flag Addr.timePpsOut 1 = true ∨ s.time.sync = .locked ∨ s.time.sync = .holdover) →
    Runs .ppsOutSecond s fun t => t = { s with time := { s.time with ppsHigh := true } })
  ∧ (∀ (s : State), s.start.logicUp = true →
    Runs .ppsOutWidthEnd s fun t => t = { s with time := { s.time with ppsHigh := false } })

/-- R109 to R116, R498: the first crossing on the selected pin, staged sample words and pushed samples, tracking lost and
beacons taken and lost, the latch of a read of ANGLE_NOW, and the states that a write of ANGLE_CTRL leads to. -/
def Obligations.AngleRuns : Prop :=
  (∀ (s : State) (pin : Fin 256) (edge : Int), s.start.logicUp = true → s.field Addr.angleCtrl 0 2 = 1 →
    s.field Addr.angleCtrl 8 8 = pin.val → s.angle.lastCrossing = none → s.angle.freq = 0 →
    s.angle.sync = .acquiring →
    Runs (.anglePinCrossing pin edge) s fun t =>
      t = { s with angle := t.angle, ephem := t.ephem }
      ∧ t.angle = { s.angle with t0 := BitVec.ofInt 80 edge, cycle := s.angle.cycle + 1, lastCrossing := some edge,
                                 lastPeriod := none, goodRun := 0, badRun := s.angle.badRun + 1 })
  ∧ (∀ (s : State) (i : Initiator) (addr v : Word), s.ready i addr.toNat true = true →
    (addr.toNat = Addr.angleSvSecond ∨ addr.toNat = Addr.angleSvMeta ∨ addr.toNat = Addr.angleSvRate) →
    Runs (.angleSvStageWrite i addr v) s fun t =>
      t = { s.written i addr.toNat .done with staged := t.staged, angle := t.angle }
      ∧ t.stagedAt i addr.toNat = some (if addr.toNat = Addr.angleSvSecond then v else v &&& 0xFF_FFFF)
      ∧ t.angle = { s.angle with stages := t.angle.stages })
  ∧ (∀ (s : State) (i : Initiator) (v : Word) (x : SvStage), s.ready i Addr.angleSvPush true = true →
    s.angle.stages = [x] → x.who = i → s.field Addr.angleCtrl 0 2 = 2 → bits x.info 16 8 = s.field Addr.angleCtrl 16 8 →
    bits x.rate 0 24 ≤ bits x.info 0 16 →
    Runs (.angleSvPush i v) s fun t =>
      t = { s.written i Addr.angleSvPush .done with regs := t.regs, staged := t.staged }
      ∧ RegsBut [Addr.angleSvSecond, Addr.angleSvMeta, Addr.angleSvRate, Addr.angleSvDropCount] s t
      ∧ t.reg Addr.angleSvSecond = x.second ∧ t.reg Addr.angleSvMeta = x.info ∧ t.reg Addr.angleSvRate = x.rate
      ∧ t.reg Addr.angleSvDropCount = satAdd (s.reg Addr.angleSvDropCount) 1
      ∧ t.stagedAt i Addr.angleSvSecond = none)
  ∧ (∀ (s : State) (i : Initiator) (v : Word) (x : SvStage) (a : Int), s.ready i Addr.angleSvPush true = true →
    s.angle.stages = [x] → x.who = i → s.field Addr.angleCtrl 0 2 = 2 → bits x.info 16 8 = s.field Addr.angleCtrl 16 8 →
    bits x.info 0 16 < bits x.rate 0 24 → s.angle.lastSample = none →
    a = nearestSecond x.second.toNat (s.timeNs / 1000000000) * 65536000000000
      + Int.ofNat (bits x.info 0 16 * 65536000000000 / bits x.rate 0 24) →
    Int.natAbs (a - s.time16) ≤ 65536000000000 →
    Runs (.angleSvPush i v) s fun t =>
      t = { s.written i Addr.angleSvPush .done with regs := t.regs, staged := t.staged, angle := t.angle }
      ∧ RegsBut [Addr.angleSvSecond, Addr.angleSvMeta, Addr.angleSvRate] s t
      ∧ t.angle = { s.angle with lastSample := some (a, v.toInt) })
  ∧ (∀ (s : State), s.start.logicUp = true → s.angle.sync = .locked →
    Runs .angleTrackTimeout s fun t =>
      t = { s with regs := t.regs, angle := t.angle, fault := t.fault }
      ∧ RegsBut [Addr.angleEvents, Addr.angleUnlockCount] s t ∧ Noted Addr.angleEvents 1 s t
      ∧ t.reg Addr.angleUnlockCount = satAdd (s.reg Addr.angleUnlockCount) 1
      ∧ t.angle.sync = .acquiring ∧ t.angle.t0 = s.angle.t0 ∧ t.angle.freq = s.angle.freq ∧ t.angle.cycle = s.angle.cycle
      ∧ t.fault = (s.raise .angle .angleUnlock 0 none).fault)
  ∧ (∀ (s : State) (x : PortFrame) (r : List PortFrame) (b : AngleBeacon), s.start.logicUp = true →
    s.ring.inbox = x :: r → isAngleBeacon x.frame = true → x.frame.srcNode.toNat = s.field Addr.angleCtrl 24 8 →
    s.field Addr.angleCtrl 0 2 = 3 → s.angle.freq = 0 → s.angle.sync = .acquiring → b = angleBeaconOf x.frame.payload →
    bits b.state 0 2 = 2 →
    Runs .angleBeaconReceive s fun t =>
      t = { s with ring := { s.ring with inbox := r }, regs := t.regs, angle := t.angle, ephem := t.ephem }
      ∧ RegsBut [Addr.angleEvents] s t ∧ Noted Addr.angleEvents 0 s t ∧ t.ephem.unlockTold = false
      ∧ t.angle = { s.angle with sync := .following, cycle := b.cycle, freq := b.freq,
                                 t0 := BitVec.ofNat 80 (b.t0Ns.toNat * 65536 + b.t0Frac.toNat) })
  ∧ (∀ (s : State), s.start.logicUp = true → s.field Addr.angleCtrl 0 2 = 3 → s.angle.sync = .acquiring →
    Runs .angleBeaconLossTimeout s fun t =>
      t = { s with regs := t.regs, fault := t.fault }
      ∧ RegsBut [Addr.angleEvents, Addr.angleUnlockCount] s t ∧ Noted Addr.angleEvents 3 s t
      ∧ t.reg Addr.angleUnlockCount = satAdd (s.reg Addr.angleUnlockCount) 1)
  ∧ (∀ (s : State), s.start.logicUp = true → s.field Addr.angleCtrl 0 2 = 3 → s.angle.sync = .following →
    Runs .angleBeaconLossTimeout s fun t =>
      t = { s with regs := t.regs, angle := { s.angle with sync := .acquiring }, fault := t.fault }
      ∧ RegsBut [Addr.angleEvents, Addr.angleUnlockCount] s t ∧ t.flag Addr.angleEvents 1 = true
      ∧ t.flag Addr.angleEvents 3 = true
      ∧ t.reg Addr.angleUnlockCount = satAdd (s.reg Addr.angleUnlockCount) 1)
  ∧ (∀ (s : State) (i : Initiator), s.ready i Addr.angleNow false = true → s.stagedAt i Addr.angleNow = none →
    s.shadowAt i Addr.angleNow = none →
    Runs (.angleNowRead i) s fun t =>
      t = { s with shadows := t.shadows, out := .access i Addr.angleNow (.data (wordInt (s.angleAt s.time16))) :: s.out }
      ∧ t.shadowAt i Addr.angleCycle = some s.angle.cycle ∧ t.shadowAt i Addr.angleFreq = some s.angle.freq
      ∧ t.shadowAt i Addr.angleT0NsLo = some (word (s.angle.t0.toNat / 2 ^ 16))
      ∧ t.shadowAt i Addr.angleT0NsHi = some (word (s.angle.t0.toNat / 2 ^ 48))
      ∧ t.shadowAt i Addr.angleT0Frac = some (word (s.angle.t0.toNat % 2 ^ 16)))
  ∧ (∀ (s : State) (i : Initiator) (v : Word), s.ready i Addr.angleCtrl true = true → bits v 0 2 = 0 →
    Runs (.angleCtrlWrite i v) s fun t =>
      t = { s.written i Addr.angleCtrl .done with regs := t.regs, angle := { s.angle with sync := .freeRun } }
      ∧ RegsBut [Addr.angleCtrl] s t ∧ t.reg Addr.angleCtrl = v &&& 0xFFFF_FF07)
  ∧ (∀ (s : State) (i : Initiator) (v : Word), s.ready i Addr.angleCtrl true = true → bits v 0 2 ≠ 0 →
    bits v 0 2 ≠ s.field Addr.angleCtrl 0 2 →
    Runs (.angleCtrlWrite i v) s fun t =>
      t = { s.written i Addr.angleCtrl .done with regs := t.regs, angle := t.angle } ∧ RegsBut [Addr.angleCtrl] s t
      ∧ t.reg Addr.angleCtrl = v &&& 0xFFFF_FF07 ∧ t.angle.sync = .acquiring ∧ t.angle.t0 = s.angle.t0
      ∧ t.angle.freq = s.angle.freq ∧ t.angle.cycle = s.angle.cycle)

/-- R118 to R133: a write of W0 restarts and checks an entry, a write of another word of a disabled entry stores it, an
instance is staged and fires on time at a pin, a pulse ends, and EPHEM_CTRL holds. -/
def Obligations.EphemerisRuns : Prop :=
  (∀ (s : State) (i : Initiator) (e : Fin 4096) (v : Word), s.ready i (Addr.ephemEntry e.val 0) true = true →
    ephActionKnown (ephAction v) = false →
    Runs (.ephemW0Write i e v) s fun t =>
      t = { s.written i (Addr.ephemEntry e.val 0) .done with regs := t.regs, ephem := t.ephem }
      ∧ RegsBut [Addr.ephemEntry e.val 0, Addr.ephemEntry e.val 7, Addr.ephemEvents] s t
      ∧ t.eph e.val 0 = v &&& 0xFCFF_FFFF ∧ t.eph e.val 7 = 0x80 ∧ Noted Addr.ephemEvents 1 s t
      ∧ t.ephInst e.val = { ops := (s.ephInst e.val).ops, old := if s.ephRuns && s.ephNow e.val then
          (s.nextFire e.val).map fun f => (f, s.eph e.val 0) else none } ∧ ∀ k, k ≠ e.val → t.ephInst k = s.ephInst k)
  ∧ (∀ (s : State) (i : Initiator) (e : Fin 4096) (v : Word) (b : Int), s.ready i (Addr.ephemEntry e.val 0) true = true →
    ephActionKnown (ephAction v) = true → ephType v = 0 → ephChain v = false → ephAction v ≠ 0x60 → ephEn v = true →
    b = Int.ofNat ((s.eph e.val 1).toNat + (s.eph e.val 2).toNat * 2 ^ 32) * 65536 - (s.eph e.val 4).toInt * 65536 →
    Runs (.ephemW0Write i e v) s fun t =>
      t = { s.written i (Addr.ephemEntry e.val 0) .done with regs := t.regs, ephem := t.ephem }
      ∧ RegsBut [Addr.ephemEntry e.val 0, Addr.ephemEntry e.val 7] s t
      ∧ t.eph e.val 0 = v &&& 0xFCFF_FFFF ∧ t.eph e.val 7 = 0
      ∧ t.ephInst e.val = { k := 0, late := if b ≤ s.time16 then 1 else 0, ops := (s.ephInst e.val).ops
                            old := if s.ephRuns && s.ephNow e.val then
                              (s.nextFire e.val).map fun f => (f, s.eph e.val 0) else none }
      ∧ ∀ k, k ≠ e.val → t.ephInst k = s.ephInst k)
  ∧ (∀ (s : State) (i : Initiator) (e : Fin 4096) (w : Fin 8) (v : Word),
    s.ready i (Addr.ephemEntry e.val w.val) true = true → w ≠ 0 → ephEn (s.eph e.val 0) = false →
    Runs (.ephemWordWrite i e w v) s fun t =>
      t = { s.written i (Addr.ephemEntry e.val w.val) .done with regs := t.regs, ephem := t.ephem }
      ∧ RegsBut [Addr.ephemEntry e.val w.val] s t ∧ t.eph e.val w.val = v
      ∧ t.ephInst e.val = (if w = 5 ∨ w = 6 then
          { s.ephInst e.val with ops := (s.time16, s.eph e.val 5, s.eph e.val 6) :: (s.ephInst e.val).ops }
        else { s.ephInst e.val with fixed := none })
      ∧ ∀ k, k ≠ e.val → t.ephInst k = s.ephInst k)
  ∧ (∀ (s : State) (e : Fin 4096) (f : Int), s.start.logicUp = true → s.nextFire e.val = some f →
    s.ephLive e.val = true → f ≤ s.time16 + 655360000 →
    Runs (.ephemStage e) s fun t =>
      t = { s with ephem := t.ephem } ∧ t.ephInst e.val = { s.ephInst e.val with staged := true }
      ∧ ∀ k, k ≠ e.val → t.ephInst k = s.ephInst k)
  ∧ (∀ (s : State) (e : Fin 4096) (w0 : Word) (p : Nat) (f : Int), s.start.logicUp = true → s.ephRuns = true →
    s.pair.role = .off → s.eph e.val 0 = w0 → ephType w0 = 0 → ephAction w0 = 1 → ephEn w0 = true → ephChain w0 = false →
    bit (s.eph e.val 7) 7 = false → (s.ephInst e.val).ended = false → (s.ephInst e.val).late = 0 →
    (s.ephInst e.val).k = 0 → (s.ephInst e.val).old = none → (s.ephInst e.val).fixed = none → s.ephTies e.val = [] →
    p = ephTarget w0 % 256 → s.ephDrives p = true → s.ephem.crowdAt = none →
    f = Int.ofNat ((s.eph e.val 1).toNat + (s.eph e.val 2).toNat * 2 ^ 32) * 65536 - (s.eph e.val 4).toInt * 65536 →
    f ≤ s.time16 → s.lateness f ≤ s.field Addr.ephemCtrl 4 12 * 65536 →
    Runs (.ephemInstanceFire e) s fun t =>
      t = { s with regs := t.regs, pins := t.pins, ephem := t.ephem } ∧ RegsBut [Addr.ephemEntry e.val 7] s t
      ∧ t.pin p = { s.pin p with ephLevel := true } ∧ (∀ k, k ≠ p → t.pin k = s.pin k)
      ∧ t.field (Addr.ephemEntry e.val 7) 16 16 = (s.field (Addr.ephemEntry e.val 7) 16 16 + 1) % 65536
      ∧ t.flag (Addr.ephemEntry e.val 7) 4 = false ∧ t.flag (Addr.ephemEntry e.val 7) 5 = true
      ∧ t.flag (Addr.ephemEntry e.val 7) 6 = false ∧ t.ephInst e.val = { k := 0, ended := true }
      ∧ ∀ k, k ≠ e.val → t.ephInst k = s.ephInst k)
  ∧ (∀ (s : State) (pin : Fin 256) (c : Nat) (b : Bool), s.start.logicUp = true → s.ephem.pulses = [⟨pin.val, c, b⟩] →
    Runs (.pinPulseEnd pin) s fun t =>
      t = { s with pins := t.pins, ephem := { s.ephem with pulses := [] } }
      ∧ t.pin pin.val = { s.pin pin.val with ephLevel := b } ∧ ∀ k, k ≠ pin.val → t.pin k = s.pin k)
  ∧ (∀ (s : State) (i : Initiator) (v : Word), s.ready i Addr.ephemCtrl true = true → bit v 1 = true →
    Runs (.ephemCtrlWrite i v) s fun t =>
      t = { s.written i Addr.ephemCtrl .done with regs := t.regs } ∧ RegsBut [Addr.ephemCtrl] s t
      ∧ t.reg Addr.ephemCtrl = v &&& 0xFFF3)

/-- R331 to R337: a word, a last word and an abort are appended or refused, a pop takes the head word or waits, a waiting
read of the host ends in Completer Abort, and DROPPKT drops the packet at the head. -/
def Obligations.QueuesRun : Prop :=
  (∀ (s : State) (i : Initiator) (q : Fin 64) (v : Word), s.ready i (Addr.qPush q.val) true = true →
    s.qOpen q.val = true → s.qProducer q.val = 0 → (s.queue q.val).dropping = false → (s.queue q.val).popWait = 0 →
    (s.queue q.val).words.length + 1 < s.qSize q.val → s.fault.inject.armed = false →
    Runs (.qPush i q v) s fun t =>
      t = { s.written i (Addr.qPush q.val) .done with queues := t.queues, host := t.host }
      ∧ t.queue q.val = { s.queue q.val with words := (s.queue q.val).words ++ [⟨v, .data, 0⟩], part := true }
      ∧ ∀ k, k ≠ q.val → t.queue k = s.queue k)
  ∧ (∀ (s : State) (i : Initiator) (q : Fin 64) (v : Word), s.ready i (Addr.qPush q.val) true = true →
    (s.qOpen q.val = false ∨ s.qProducer q.val ≠ 0) →
    Runs (.qPush i q v) s fun t =>
      t = { s.written i (Addr.qPush q.val) .done with regs := t.regs }
      ∧ RegsBut [Addr.qRefusedCount q.val, Addr.qEvents q.val] s t ∧ Noted (Addr.qEvents q.val) 0 s t
      ∧ t.reg (Addr.qRefusedCount q.val) = satAdd (s.reg (Addr.qRefusedCount q.val)) 1)
  ∧ (∀ (s : State) (i : Initiator) (q : Fin 64) (v : Word), s.ready i (Addr.qPushEnd q.val) true = true →
    s.qOpen q.val = true → s.qProducer q.val = 0 → (s.queue q.val).dropping = false → (s.queue q.val).popWait = 0 →
    (s.queue q.val).words.length + 1 < s.qSize q.val → s.fault.inject.armed = false →
    Runs (.qPushEnd i q v) s fun t =>
      t = { s.written i (Addr.qPushEnd q.val) .done with queues := t.queues, host := t.host }
      ∧ t.queue q.val = { s.queue q.val with words := (s.queue q.val).words ++ [⟨v, .last, 0⟩], part := false }
      ∧ ∀ k, k ≠ q.val → t.queue k = s.queue k)
  ∧ (∀ (s : State) (i : Initiator) (q : Fin 64) (v : Word), s.ready i (Addr.qPushEnd q.val) true = true →
    s.qOpen q.val = true → s.qProducer q.val = 0 → (s.queue q.val).dropping = false →
    s.qSize q.val - 1 ≤ (s.queue q.val).words.length →
    Runs (.qPushEnd i q v) s fun t =>
      t = { s.written i (Addr.qPushEnd q.val) .done with regs := t.regs }
      ∧ RegsBut [Addr.qFullDropCount q.val, Addr.qEvents q.val] s t ∧ Noted (Addr.qEvents q.val) 1 s t
      ∧ t.reg (Addr.qFullDropCount q.val) = satAdd (s.reg (Addr.qFullDropCount q.val)) 1)
  ∧ (∀ (s : State) (i : Initiator) (q : Fin 64) (v : Word), s.ready i (Addr.qPushAbort q.val) true = true →
    s.qOpen q.val = true → s.qProducer q.val = 0 → (s.queue q.val).dropping = false → (s.queue q.val).popWait = 0 →
    (s.queue q.val).words.length < s.qSize q.val → s.fault.inject.armed = false →
    Runs (.qPushAbort i q v) s fun t =>
      t = { s.written i (Addr.qPushAbort q.val) .done with queues := t.queues, host := t.host, regs := t.regs }
      ∧ RegsBut [Addr.qAbortCount q.val, Addr.qEvents q.val] s t ∧ Noted (Addr.qEvents q.val) 2 s t
      ∧ t.reg (Addr.qAbortCount q.val) = satAdd (s.reg (Addr.qAbortCount q.val)) 1
      ∧ t.queue q.val = { s.queue q.val with words := (s.queue q.val).words ++ [⟨v, .abort, 0⟩], part := false })
  ∧ (∀ (s : State) (i : Initiator) (q : Fin 64) (w : QWord) (r : List QWord), s.ready i (Addr.qPop q.val) false = true →
    s.qConsumer q.val = 0 → s.qAvail q.val = true → (s.queue q.val).words = w :: r → w.ecc = 0 →
    Runs (.qPop i q) s fun t =>
      t = { s with queues := t.queues, out := .access i (Addr.qPop q.val) (.data w.v) :: s.out }
      ∧ (t.queue q.val).words = r ∧ (t.queue q.val).started = (w.mark == .data)
      ∧ assocGet (t.queue q.val).popMarks i = some (markCode w.mark) ∧ ∀ k, k ≠ q.val → t.queue k = s.queue k)
  ∧ (∀ (s : State) (q : Fin 64), s.ready .host (Addr.qPop q.val) false = true → s.qConsumer q.val = 0 →
    s.qAvail q.val = false →
    Runs (.qPop .host q) s fun t =>
      t = { s with queues := t.queues }
      ∧ t.queue q.val = { s.queue q.val with popWait := (s.queue q.val).popWait + 1 })
  ∧ (∀ (s : State) (i : Initiator) (q : Fin 64), s.ready i (Addr.qPop q.val) false = true → i ≠ .host →
    s.qConsumer q.val = 0 → s.qAvail q.val = false →
    Runs (.qPop i q) s fun t =>
      t = { s with queues := t.queues, out := .access i (Addr.qPop q.val) (.data 0) :: s.out }
      ∧ (t.queue q.val).words = (s.queue q.val).words ∧ assocGet (t.queue q.val).popMarks i = some 3)
  ∧ (∀ (s : State) (q : Fin 64), s.start.logicUp = true → (s.queue q.val).popWait ≠ 0 →
    Runs (.qPopHostStallExpiry q) s fun t =>
      t = { s with queues := t.queues, regs := t.regs, out := .access .host (Addr.qPop q.val) .abort :: s.out }
      ∧ RegsBut [Addr.qHostStallCount q.val, Addr.qEvents q.val] s t ∧ Noted (Addr.qEvents q.val) 3 s t
      ∧ t.reg (Addr.qHostStallCount q.val) = satAdd (s.reg (Addr.qHostStallCount q.val)) 1
      ∧ t.queue q.val = { s.queue q.val with popWait := (s.queue q.val).popWait - 1 })
  ∧ (∀ (s : State) (i : Initiator) (q : Fin 64) (v : Word) (a : List QWord) (w : QWord) (r : List QWord),
    s.ready i (Addr.qDroppkt q.val) true = true → s.qConsumer q.val = 0 → (s.queue q.val).words = a ++ w :: r →
    (∀ x, x ∈ a → x.mark = .data) → w.mark ≠ .data →
    Runs (.qDroppkt i q v) s fun t =>
      t = { s.written i (Addr.qDroppkt q.val) .done with queues := t.queues, regs := t.regs }
      ∧ RegsBut [Addr.qDroppedWords q.val] s t
      ∧ t.reg (Addr.qDroppedWords q.val) = satAdd (s.reg (Addr.qDroppedWords q.val)) (a.length + 1)
      ∧ t.queue q.val = { s.queue q.val with words := r, started := false })

/-- R344, R345, R350, R351: the DRAM controller goes through its bring-up or fails it, the scrubber reports what it reads,
and a reply packet answers the read that waits for it or ends its fetch. -/
def Obligations.DramAndEndpointsRun : Prop :=
  (∀ (s : State), s.start.logicUp = true → s.dram.sync = .init →
    Runs .dramInitComplete s fun t => t = { s with dram := { s.dram with sync := .training } })
  ∧ (∀ (s : State), s.start.logicUp = true → s.dram.sync = .training →
    Runs .dramTrainingComplete s fun t => t = { s with dram := { s.dram with sync := .fill } })
  ∧ (∀ (s : State), s.start.logicUp = true → s.dram.sync = .fill →
    Runs (.dramFillComplete true) s fun t =>
      t = { s with dram := { s.dram with sync := .ready }, mem := t.mem, regs := t.regs }
      ∧ RegsBut [Addr.dramEvents] s t ∧ Noted Addr.dramEvents 2 s t
      ∧ ∀ a, Memory.byte t.mem a = if 0x1_0000_0000 ≤ a ∧ a < 0x5_0000_0000 then 0 else Memory.byte s.mem a)
  ∧ (∀ (s : State), s.start.logicUp = true → s.dram.sync = .fill →
    Runs (.dramFillComplete false) s fun t =>
      t = { s with dram := { s.dram with sync := .failed, failStep := 7 }, regs := t.regs, fault := t.fault }
      ∧ RegsBut [Addr.dramEvents] s t ∧ Noted Addr.dramEvents 3 s t)
  ∧ (∀ (s : State) (k : Fin 8), s.start.logicUp = true →
    (s.dram.sync = .init ∨ s.dram.sync = .training ∨ s.dram.sync = .fill) →
    Runs (.dramBringupFail k) s fun t =>
      t = { s with dram := { s.dram with sync := .failed, failStep := k.val }, regs := t.regs, fault := t.fault }
      ∧ RegsBut [Addr.dramEvents] s t ∧ Noted Addr.dramEvents 3 s t
      ∧ t.fault = (s.raise .dram .eccUncorr 32 none).fault)
  ∧ (∀ (s : State) (a : Nat), s.start.logicUp = true → s.dram.sync = .ready → s.field Addr.dramScrub 0 16 ≠ 0 →
    a < s.dramSize →
    Runs (.dramScrubRead a 1) s fun t =>
      t = { s with regs := t.regs, fault := t.fault }
      ∧ RegsBut [Addr.dramEccAddrLo, Addr.dramEccAddrHi, Addr.dramCorrCount, Addr.dramEvents] s t
      ∧ t.reg Addr.dramEccAddrLo = word a ∧ t.reg Addr.dramEccAddrHi = word (a / 2 ^ 32 % 4)
      ∧ t.reg Addr.dramCorrCount = satAdd (s.reg Addr.dramCorrCount) 1 ∧ Noted Addr.dramEvents 0 s t
      ∧ t.fault = (s.raise .dram .eccCorr 0 (some (s.dramFabric a))).fault)
  ∧ (∀ (s : State) (a : Nat), s.start.logicUp = true → s.dram.sync = .ready → s.field Addr.dramScrub 0 16 ≠ 0 →
    a < s.dramSize →
    Runs (.dramScrubRead a 2) s fun t =>
      t = { s with regs := t.regs, fault := t.fault }
      ∧ RegsBut [Addr.dramEccAddrLo, Addr.dramEccAddrHi, Addr.dramUncorrCount, Addr.dramEvents] s t
      ∧ t.reg Addr.dramEccAddrLo = word a ∧ t.reg Addr.dramUncorrCount = satAdd (s.reg Addr.dramUncorrCount) 1
      ∧ Noted Addr.dramEvents 1 s t
      ∧ t.fault = (s.raise .dram .eccUncorr 0 (some (s.dramFabric a))).fault)
  ∧ (∀ (s : State) (q k : Nat) (h w : Word) (x : Fetch), s.start.logicUp = true → q = s.field Addr.queueEpCtrl 0 6 →
    s.qConsumer q = 0x0280 → s.bridge.reply = [] → (s.queue q).words = [⟨h, .data, 0⟩, ⟨w, .last, 0⟩] → bits h 0 5 = k →
    bits h 28 4 = 0 → s.fetch k = some x → x.state = .running → x.answered = true → faSpace x.key.addr = 1 →
    x.key.count = 1 →
    Runs .endpointReply s fun t =>
      t = { s with queues := t.queues, bridge := t.bridge } ∧ (t.queue q).words = []
      ∧ t.fetch k = some { x with state := .ready [w] } ∧ ∀ j, j ≠ k → t.fetch j = s.fetch j)
  ∧ (∀ (s : State) (k : Fin 32) (x : Fetch), s.start.logicUp = true → s.fetch k.val = some x → x.state = .running →
    faSpace x.key.addr = 1 → x.answered = true →
    Runs (.endpointFetchLimitExpiry k) s fun t =>
      t = { s with bridge := t.bridge } ∧ t.fetch k.val = some { x with state := .failed }
      ∧ (∀ j, j ≠ k.val → t.fetch j = s.fetch j)
      ∧ t.bridge.edge = s.bridge.edge.filter fun e => e.slot != some k.val)

/-- R357 to R360, R365, R368 to R371: heartbeats are sent and heard, silence on the paths moves ROLE, a handover is
commanded, sent and taken, and a takeback is asked for. -/
def Obligations.PairRolesRun : Prop :=
  (∀ (s : State), s.start.logicUp = true → s.pair.role = .syncing → s.partner ≠ 0xFF →
    Runs .pairHeartbeatSend s fun t =>
      t = { s with pair := { s.pair with hbSeq := s.pair.hbSeq + 1, ask := false }, ring := t.ring, links := t.links, regs := t.regs,
                   free := t.free, out := t.out })
  ∧ (∀ (s : State) (w0 w1 w2 : Word), s.start.logicUp = true → s.active .pair = true → s.pair.role = .syncing →
    s.pairMismatch w0 = false →
    Runs (.pairHeartbeatReceive (some (w0, w1, w2))) s fun t =>
      t = { s with pair := { s.pair with partnerRole := bits w0 0 3, partnerTerm := BitVec.ofNat 8 (bits w0 8 8),
                                         partnerRank := BitVec.ofNat 8 (bits w0 16 8), partnerHealthy := bit w0 3,
                                         seenPair := true, echo := w1, lastHeard := s.now } })
  ∧ (∀ (s : State) (w0 w1 w2 : Word), s.start.logicUp = true → s.active .pair = true → s.pair.role = .standby →
    s.pairMismatch w0 = false → bits w0 0 3 = 4 → bit w0 4 = true →
    Runs (.pairHeartbeatReceive (some (w0, w1, w2))) s fun t =>
      t.pair.role = .primary ∧ t.pair.term = BitVec.ofNat 8 (bits w0 8 8) ∧ t.mem = s.mem ∧ t.queues = s.queues
      ∧ t.flag Addr.pairEvents 0 = true)
  ∧ (∀ (s : State) (w0 w1 w2 : Word), s.start.logicUp = true → s.active .pair = true → s.pair.role = .seeking →
    s.pairMismatch w0 = false → bits w0 0 3 = 4 →
    Runs (.pairHeartbeatReceive (some (w0, w1, w2))) s fun t =>
      t = { s with pair := t.pair, regs := t.regs } ∧ RegsBut [Addr.pairEvents] s t ∧ Noted Addr.pairEvents 0 s t
      ∧ t.pair.role = .syncing ∧ t.pair.partnerRole = 4)
  ∧ (∀ (s : State), s.start.logicUp = true →
    Runs (.pairPathSilence true) s fun t => t = { s with pair := { s.pair with seenRing := false } })
  ∧ (∀ (s : State), s.start.logicUp = true →
    Runs (.pairPathSilence false) s fun t => t = { s with pair := { s.pair with seenPair := false } })
  ∧ (∀ (s : State), s.start.logicUp = true → s.pair.role ≠ .off → s.pair.linkLost = false → s.pair.seenRing = true →
    Runs .pairLinkLost s fun t =>
      t = { s with pair := { s.pair with linkLost := true }, regs := t.regs, fault := t.fault }
      ∧ RegsBut [Addr.pairEvents] s t ∧ Noted Addr.pairEvents 3 s t
      ∧ t.fault = (s.raise .pair .pairLinkLost 0 none).fault)
  ∧ (∀ (s : State), s.start.logicUp = true → s.pair.role = .seeking →
    Runs .pairStartWaitExpiry s fun t =>
      t = { s with pair := t.pair, regs := t.regs, ring := t.ring, mramEpochs := s.mramEpochs.map (· + 1), ephem := t.ephem }
      ∧ RegsBut [Addr.pairEvents] s t ∧ Noted Addr.pairEvents 0 s t ∧ t.pair.role = .primary
      ∧ t.ring = { s.ring with aliasEpochs := s.mramEpochs.map (· + 1), aliasSeqs := [0, 0, 0, 0] })
  ∧ (∀ (s : State), s.start.logicUp = true → s.pair.role = .syncing →
    s.pair.lastHeard ≠ s.now →
    Runs .pairSilence100us s fun t =>
      t = { s with pair := t.pair, regs := t.regs } ∧ RegsBut [Addr.pairEvents] s t ∧ Noted Addr.pairEvents 0 s t
      ∧ t.pair.role = .seeking)
  ∧ (∀ (s : State), s.start.logicUp = true → s.pair.role = .standby →
    s.pair.lastHeard ≠ s.now →
    Runs .pairSilence100us s fun t =>
      t = { s with pair := t.pair, regs := t.regs, fault := t.fault, ephem := t.ephem, out := t.out }
      ∧ RegsBut [Addr.pairEvents, Addr.pairTakeoverCount] s t ∧ t.pair.role = .primary ∧ t.pair.term = s.pair.term + 1
      ∧ t.flag Addr.pairEvents 0 = true ∧ t.flag Addr.pairEvents 1 = true
      ∧ t.reg Addr.pairTakeoverCount = satAdd (s.reg Addr.pairTakeoverCount) 1
      ∧ t.fault = (s.raise .pair .pairTakeover 0 none).fault)
  ∧ (∀ (s : State), s.start.logicUp = true → s.pair.role = .primary → s.present s.partner = true →
    s.flag Addr.pairCtrl 2 = false →
    s.pair.lastHeard ≠ s.now →
    Runs .pairSilence250us s fun t =>
      t = { s with pair := t.pair, regs := t.regs } ∧ RegsBut [Addr.pairEvents, Addr.pairSuppressCount] s t
      ∧ t.pair.role = .held ∧ t.pair.cmds = [] ∧ t.flag Addr.pairEvents 0 = true ∧ t.flag Addr.pairEvents 7 = true
      ∧ t.reg Addr.pairSuppressCount = satAdd (s.reg Addr.pairSuppressCount) s.pair.cmds.length)
  ∧ (∀ (s : State), s.start.logicUp = true → s.pair.role = .syncing →
    Runs .pairSnapshotComplete s fun t =>
      t = { s with pair := t.pair, regs := t.regs } ∧ RegsBut [Addr.pairEvents] s t ∧ t.pair.role = .standby
      ∧ t.flag Addr.pairEvents 0 = true ∧ t.flag Addr.pairEvents 4 = true)
  ∧ (∀ (s : State) (i : Initiator) (v : Word), s.ready i (Addr.pairCmd + 4) true = true → s.fuses.pairCapable = true →
    s.armedAt Addr.pairCmd v = true → bit v 0 = true → bit v 1 = false → s.pair.role = .primary →
    s.pair.partnerRole = 3 →
    Runs (.switchover i (~~~ v)) s fun t =>
      t = { s.written i (Addr.pairCmd + 4) .done with regs := t.regs, guards := t.guards, pair := { s.pair with handover := true } }
      ∧ RegsBut [Addr.pairCmd] s t ∧ Committed Addr.pairCmd s t ∧ t.reg Addr.pairCmd = v &&& 3)
  ∧ (∀ (s : State) (i : Initiator) (v : Word), s.ready i (Addr.pairCmd + 4) true = true → s.fuses.pairCapable = true →
    s.armedAt Addr.pairCmd v = true → bit v 0 = false → bit v 1 = true → s.pair.role = .standby →
    Runs (.resync i (~~~ v)) s fun t =>
      t = { s.written i (Addr.pairCmd + 4) .done with regs := t.regs, guards := t.guards, pair := t.pair }
      ∧ RegsBut [Addr.pairCmd, Addr.pairEvents] s t ∧ Committed Addr.pairCmd s t ∧ t.reg Addr.pairCmd = v &&& 3
      ∧ t.pair.role = .syncing ∧ t.flag Addr.pairEvents 0 = true ∧ t.flag Addr.pairEvents 5 = true)
  ∧ (∀ (s : State), s.start.logicUp = true → s.pair.role = .primary → s.pair.handover = true → s.pair.m2 = [] →
    s.partner ≠ 0xFF →
    Runs .handoverSend s fun t =>
      t = { s with pair := { s.pair with sentTerm := some (s.pair.term + 1), hbSeq := s.pair.hbSeq + 1 }, ring := t.ring,
                   links := t.links, regs := t.regs, free := t.free, out := t.out })
  ∧ (∀ (s : State), s.start.logicUp = true → s.pair.role = .standby → s.flag Addr.pairCtrl 1 = true →
    s.rank < s.pair.partnerRank.toNat → s.pairHealthy = true → s.partner ≠ 0xFF →
    Runs .takebackHoldExpiry s fun t =>
      t = { s with pair := { s.pair with ask := true, hbSeq := s.pair.hbSeq + 1 }, ring := t.ring,
                   links := t.links, regs := t.regs, free := t.free, out := t.out })

/-- R361, R362, R364: a paired command takes its alias SEQ and waits for its M2 record, which is accepted or discarded; a
STANDBY's twin moves its alias counter, and mirror records arrive and are sent. -/
def Obligations.PairedCommandsAndMirrorsRun : Prop :=
  (∀ (s : State) (c : PairedCmd) (r : List PairedCmd) (n : Nat), s.start.logicUp = true → s.pair.cmds = c :: r →
    s.pair.role = .primary → s.pair.handover = false → s.pair.partnerRole = 3 → s.active .pair = true →
    n = classCode c.cls → s.ring.aliasSeqs.length = 4 →
    Runs .pairedCommandIssue s fun t =>
      t.pair = { s.pair with cmds := r, m2 := s.pair.m2 ++
        [{ c with since := s.now, key := some (s.ring.aliasSeqs.getD n 0, s.ring.aliasEpochs.getD n 0) }] }
      ∧ t.ring.aliasSeqs.getD n 0 = s.ring.aliasSeqs.getD n 0 + 1 ∧ t.mem = s.mem ∧ t.queues = s.queues)
  ∧ (∀ (s : State) (ok : Bool) (c : PairedCmd) (r : List PairedCmd) (k : Half × Byte), s.start.logicUp = true →
    s.pair.m2 = c :: r → c.key = some k → s.pair.role = .standby →
    Runs (.m2RecordAccept ok) s fun t =>
      t = { s with pair := { s.pair with m2 := r }, regs := t.regs }
      ∧ RegsBut [Addr.pairM2WaitMax, Addr.pairSuppressCount] s t
      ∧ t.reg Addr.pairSuppressCount = satAdd (s.reg Addr.pairSuppressCount) 1)
  ∧ (∀ (s : State) (c : PairedCmd) (r : List PairedCmd) (k : Half × Byte), s.start.logicUp = true →
    s.pair.m2 = c :: r → c.key = some k → s.pair.role = .primary →
    Runs (.m2RecordAccept true) s fun t =>
      t.pair = { s.pair with m2 := r } ∧ t.mem = s.mem ∧ t.queues = s.queues
      ∧ t.field Addr.pairM2WaitMax 0 16 = max (s.field Addr.pairM2WaitMax 0 16) (min 0xFFFF ((s.now - c.since) * 5 / 2)))
  ∧ (∀ (s : State) (w0 w1 w2 w3 : Word) (n : Nat), s.start.logicUp = true → s.active .pair = true →
    s.pair.role = .standby → n = (if bit w0 24 then classCode .c else classCode .t) → s.ring.aliasSeqs.length = 4 →
    Runs (.m2RecordReceive (some [w0, w1, w2, w3])) s fun t =>
      t.ring.aliasSeqs.getD n 0 = BitVec.ofNat 16 (bits w0 0 16) + 1 ∧ t.pair = s.pair ∧ t.mem = s.mem
      ∧ t.queues = s.queues)
  ∧ (∀ (s : State) (e : Fin 4096) (w7 : Word) (k : Nat) (o : Bool), s.start.logicUp = true →
    (s.pair.role = .standby ∨ s.pair.role = .syncing) →
    Runs (.mirrorRecordReceive (.m1 e w7 k o)) s fun t =>
      t = { s with regs := t.regs, ephem := t.ephem } ∧ RegsBut [Addr.ephemEntry e.val 7] s t ∧ t.eph e.val 7 = w7
      ∧ t.ephInst e.val = { k := k, shift := (s.ephInst e.val).shift, ended := o } ∧ ∀ j, j ≠ e.val → t.ephInst j = s.ephInst j)
  ∧ (∀ (s : State) (n : Fin 4) (a v : Word), s.start.logicUp = true → (s.pair.role = .standby ∨ s.pair.role = .syncing) →
    0x5_F000 ≤ a.toNat → a.toNat ≤ 0x5_FFFC → a.toNat % 4 = 0 → s.fault.inject.armed = false →
    Runs (.mirrorRecordReceive (.m4 n a v)) s fun t =>
      t = { s with mem := Memory.setWord s.mem (Addr.coreRam n.val + a.toNat) v, ecc := t.ecc })
  ∧ (∀ (s : State) (l : List (Half × Byte)) (b : Byte), s.start.logicUp = true → s.pair.role = .syncing → l.length = 4 →
    Runs (.mirrorRecordReceive (.m0 l b)) s fun t =>
      t = { s with ring := { s.ring with aliasSeqs := l.map (·.1), aliasEpochs := l.map (·.2) },
                   mramEpochs := l.map (·.2), pair := { s.pair with term := b } })
  ∧ (∀ (s : State) (a : Nat) (v : Word), s.start.logicUp = true → s.flag Addr.pairMirrorCtrl 1 = true →
    s.pair.role = .primary → s.pair.partnerRole = 3 → s.m3List = [a] → v = s.m3Value a →
    assocGet s.pair.m3 a ≠ some v →
    Runs .m3PeriodSend s fun t =>
      t = { s with pair := { (s.rateTake 4).pair with m3 := t.pair.m3 },
                   out := .mirror (!s.active .pair) (.m3 (word a) v) :: s.out }
      ∧ assocGet t.pair.m3 a = some v)

/-- R376 to R382, R499: the feeds start with ENABLE, block and recover, switch over and are turned off, and LOGIC_EN
follows. -/
def Obligations.FeedsRun : Prop :=
  (∀ (s : State), Runs .enableRise s fun t => t = { s with power := { s.power with enable := true } })
  ∧ (∀ (s : State) (va vb : Half), s.power.enable = true → s.power.qualified = false → s.priority = false →
    s.feedFit 0 va.toNat = true → s.feedFit 1 vb.toNat = true →
    Runs (.feedEnableQualified va vb) s fun t =>
      t = { s with power := { s.power with qualified := true, feeds := t.power.feeds } }
      ∧ t.feed 0 = { s.feed 0 with sync := .ramp, voltage := va.toNat }
      ∧ t.feed 1 = { s.feed 1 with sync := .ramp, voltage := vb.toNat } ∧ ∀ f, 1 < f → t.feed f = s.feed f)
  ∧ (∀ (s : State) (va vb : Half), s.power.enable = true → s.power.qualified = false → s.priority = true →
    s.preferred = 0 → s.feedFit 0 va.toNat = false → s.feedFit 1 vb.toNat = true →
    Runs (.feedEnableQualified va vb) s fun t =>
      t = { s with power := { s.power with qualified := true, feeds := t.power.feeds } }
      ∧ t.feed 0 = { s.feed 0 with voltage := va.toNat } ∧ t.feed 1 = { s.feed 1 with sync := .ramp, voltage := vb.toNat })
  ∧ (∀ (s : State) (f : Fin 2) (v : Half), (s.feed f.val).sync = .ramp → s.power.logicEn = false → s.comet.vaon = true →
    s.comet.power ≠ .hibernate →
    Runs (.feedRampComplete f v) s fun t =>
      t = { (s.setFeed f.val { s.feed f.val with sync := .on, voltage := v.toNat }) with
              regs := t.regs, power := { t.power with logicEn := true }, start := { s.start with phase := 2 } }
      ∧ t.feed f.val = { s.feed f.val with sync := .on, voltage := v.toNat }
      ∧ t.feed (1 - f.val) = s.feed (1 - f.val) ∧ t.power.groups = s.power.groups
      ∧ RegsBut [Addr.feedEvents f.val] s t ∧ Noted (Addr.feedEvents f.val) 0 s t)
  ∧ (∀ (s : State),
    Runs .enableFall s fun t =>
      t = { s with power := t.power, regs := t.regs }
      ∧ t.power = { s.power with enable := false, qualified := false, dead := none, logicEn := false,
                                 feeds := t.power.feeds, groups := t.power.groups }
      ∧ (∀ f, f < 2 → t.feed f = { s.feed f with sync := .off })
      ∧ (∀ g, g < 8 → t.group g = { s.group g with sync := .off })
      ∧ RegsBut (((List.range 2).map Addr.feedEvents) ++ ((List.range 8).map Addr.grpEvents)) s t
      ∧ (∀ f, f < 2 → (s.feed f).sync ≠ .off → t.flag (Addr.feedEvents f) 1 = true)
      ∧ ∀ g, g < 8 → (s.group g).sync ≠ .off → t.flag (Addr.grpEvents g) 1 = true)
  ∧ (∀ (s : State) (f : Fin 2) (v : Half), (s.feed f.val).sync = .on → (s.feed f.val).told = none →
    Runs (.feedReverseTurnoff f v) s fun t =>
      t = { (s.setFeed f.val { sync := .blocked, voltage := v.toNat, told := some s.clock }) with
              regs := t.regs, fault := t.fault }
      ∧ RegsBut [Addr.feedEvents f.val, Addr.feedReverseCount f.val] s t ∧ Noted (Addr.feedEvents f.val) 3 s t
      ∧ t.reg (Addr.feedReverseCount f.val) = satAdd (s.reg (Addr.feedReverseCount f.val)) 1
      ∧ t.fault = (s.raise (feedUnit f.val) .feedReverse 0 none).fault)
  ∧ (∀ (s : State) (f : Fin 2) (v : Half) (c : Nat), (s.feed f.val).sync = .on → (s.feed f.val).told = some c →
    s.clock < c + 10 * periods100ms →
    Runs (.feedReverseTurnoff f v) s fun t =>
      t = { (s.setFeed f.val { s.feed f.val with sync := .blocked, voltage := v.toNat }) with regs := t.regs }
      ∧ RegsBut [Addr.feedEvents f.val, Addr.feedReverseCount f.val] s t ∧ Noted (Addr.feedEvents f.val) 3 s t
      ∧ t.reg (Addr.feedReverseCount f.val) = satAdd (s.reg (Addr.feedReverseCount f.val)) 1)
  ∧ (∀ (s : State) (f : Fin 2) (v : Half), (s.feed f.val).sync = .blocked →
    Runs (.feedReverseRecover f v) s fun t =>
      t = { (s.setFeed f.val { s.feed f.val with sync := .on, voltage := v.toNat }) with regs := t.regs }
      ∧ RegsBut [Addr.feedEvents f.val] s t ∧ Noted (Addr.feedEvents f.val) 0 s t)
  ∧ (∀ (s : State) (f : Fin 2) (v : Half), s.power.qualified = true → s.enabled (feedUnit f.val) = true →
    (s.feed f.val).sync ≠ .uv →
    Runs (.feedUv f v) s fun t =>
      t = { (s.setFeed f.val { s.feed f.val with sync := .uv, voltage := v.toNat }) with regs := t.regs, fault := t.fault }
      ∧ RegsBut [Addr.feedEvents f.val] s t ∧ Noted (Addr.feedEvents f.val) 2 s t
      ∧ t.fault = (s.raiseAs (feedUnit f.val) .feedUv
          (if (s.feed (1 - f.val)).sync = .on then .degraded else .major) 0 none).fault)
  ∧ (∀ (s : State) (f : Fin 2) (v rail : Half), s.power.qualified = true → s.feedFit f.val v.toNat = true →
    (s.feed f.val).sync = .uv → s.priority = false →
    Runs (.feedUvRecover f v rail) s fun t =>
      t = { (s.setFeed f.val { s.feed f.val with
              sync := if rail.toNat + 200 < v.toNat then .ramp else if v.toNat < rail.toNat then .blocked else .on,
              voltage := v.toNat }) with regs := t.regs }
      ∧ RegsBut [Addr.feedEvents f.val] s t)
  ∧ (∀ (s : State) (f : Fin 2), s.priority = true → s.power.qualified = true → (s.feed f.val).sync = .on →
    Runs (.feedSwitchoverStart f) s fun t =>
      t = { s with power := t.power, regs := t.regs }
      ∧ t.power = { s.power with feeds := t.power.feeds, dead := some (fin 1 (1 - f.val)) }
      ∧ t.feed f.val = { s.feed f.val with sync := .off } ∧ t.feed (1 - f.val) = s.feed (1 - f.val)
      ∧ RegsBut [Addr.feedEvents f.val] s t ∧ t.flag (Addr.feedEvents f.val) 1 = true
      ∧ t.flag (Addr.feedEvents f.val) 4 = true)
  ∧ (∀ (s : State) (f : Fin 2) (v : Half), s.power.dead = some f → s.feedFit f.val v.toNat = true →
    Runs (.feedDeadTimeEnd v) s fun t =>
      t = { s with power := t.power, regs := t.regs }
      ∧ t.power = { s.power with feeds := t.power.feeds, dead := none }
      ∧ t.feed f.val = { s.feed f.val with sync := .on, voltage := v.toNat } ∧ t.feed (1 - f.val) = s.feed (1 - f.val)
      ∧ RegsBut [Addr.feedEvents f.val] s t)
  ∧ (∀ (s : State) (v : Half), s.priority = true → s.power.qualified = true → s.preferred = 0 → (s.feed 0).sync = .off →
    (s.feed 1).sync = .on → s.feedFit 0 v.toNat = true →
    Runs (.feedReturnHoldEnd v) s fun t =>
      t = { s with power := t.power, regs := t.regs }
      ∧ t.power = { s.power with feeds := t.power.feeds, dead := some 0 }
      ∧ t.feed 0 = { s.feed 0 with voltage := v.toNat } ∧ t.feed 1 = { s.feed 1 with sync := .off }
      ∧ RegsBut [Addr.feedEvents 1] s t ∧ t.flag (Addr.feedEvents 1) 4 = true)
  ∧ (∀ (s : State) (i : Initiator) (f : Fin 2) (v : Word), s.ready i (Addr.feedUnitCtrl f.val) true = true →
    (s.feed f.val).sync = .on → (s.feed (1 - f.val)).sync ≠ .on →
    s.enabled (.feed f) = true →
    Runs (.feedDisableWrite i f v) s fun t =>
      t = { s.written i (Addr.feedUnitCtrl f.val) .done with regs := t.regs }
      ∧ RegsBut [Addr.feedEvents f.val] s t ∧ Noted (Addr.feedEvents f.val) 5 s t)
  ∧ (∀ (s : State) (i : Initiator) (f : Fin 2) (v : Word), s.ready i (Addr.feedUnitCtrl f.val) true = true →
    (s.feed f.val).sync = .on → (s.feed (1 - f.val)).sync = .on →
    s.enabled (.feed f) = true →
    Runs (.feedDisableWrite i f v) s fun t =>
      t = { (s.setFeed f.val { s.feed f.val with sync := .off }).written i (Addr.feedUnitCtrl f.val) .done with regs := t.regs }
      ∧ RegsBut [Addr.feedUnitCtrl f.val, Addr.feedEvents f.val] s t ∧ Noted (Addr.feedEvents f.val) 1 s t
      ∧ t.flag (Addr.feedUnitCtrl f.val) 0 = false)
  ∧ (∀ (s : State) (prio : Bool) (mv : Half),
    Runs (.powerDieReset prio mv) s fun t =>
      t = { s with regs := t.regs, guards := t.guards, power := t.power, dieLink := t.dieLink, fault := t.fault }
      ∧ (∀ a, powerReg a = false → a ≠ Addr.globalResetCause → t.reg a = s.reg a)
      ∧ (∀ a, powerReg a = true → a ≠ Addr.pwrFeedMode 0 → t.reg a = regReset a)
      ∧ t.field (Addr.pwrFeedMode 0) 0 2 = ofBool prio ∧ Noted Addr.globalResetCause 1 s t
      ∧ t.power = { enable := s.power.enable, logicEn := false, prio := prio, block := t.power.block }
      ∧ t.dieLink.up = false ∧ t.power.block.isSome = decide (25 ≤ mv.toNat)
      ∧ t.fault = { s.fault with powerHeld := [], powerLost := 0 })
  ∧ (∀ (s : State), Runs .cardRailLoss s fun t => t = { s with power := { s.power with logicEn := false } })

/-- R383 to R392: an output group is commanded, ramps, limits, trips and retries; the trip memory ends; the thermal
sensors warn and shut down. -/
def Obligations.GroupsAndThermalRun : Prop :=
  (∀ (s : State) (g : Fin 8) (r : List Bool), (s.group g.val).cmds = true :: r → (s.group g.val).sync = .off →
    s.groupBlocked g.val = false →
    s.dieLink.up = true →
    Runs (.grpOn g) s fun t =>
      t = s.setGroup g.val { s.group g.val with sync := .ramp, retries := 0, noRetry := false, cmds := r })
  ∧ (∀ (s : State) (g : Fin 8) (r : List Bool), (s.group g.val).cmds = true :: r → (s.group g.val).sync = .tripped →
    s.dieLink.up = true →
    Runs (.grpOn g) s fun t =>
      t = { (s.setGroup g.val { s.group g.val with cmds := r }) with regs := t.regs }
      ∧ RegsBut [Addr.grpEvents g.val] s t ∧ Noted (Addr.grpEvents g.val) 6 s t)
  ∧ (∀ (s : State) (g : Fin 8) (r : List Bool), (s.group g.val).cmds = true :: r → (s.group g.val).live = false →
    s.enabled (groupUnit g.val) = false ∨ s.feedOn = false ∨ s.power.block.isSome = true ∨ s.power.shutdown = true →
    s.dieLink.up = true →
    Runs (.grpOn g) s fun t =>
      t = { (s.setGroup g.val { s.group g.val with cmds := r }) with regs := t.regs }
      ∧ RegsBut [Addr.grpEvents g.val] s t ∧ Noted (Addr.grpEvents g.val) 6 s t)
  ∧ (∀ (s : State) (g : Fin 8) (r : List Bool), (s.group g.val).cmds = false :: r → (s.group g.val).live = true →
    s.dieLink.up = true →
    Runs (.grpOff g) s fun t =>
      t = { (s.setGroup g.val { s.group g.val with sync := .off, noRetry := true, cmds := r }) with regs := t.regs }
      ∧ RegsBut [Addr.grpEvents g.val] s t ∧ Noted (Addr.grpEvents g.val) 1 s t)
  ∧ (∀ (s : State) (g : Fin 8) (m : GroupMeas), (s.group g.val).sync = .ramp → measRisen m = true →
    Runs (.grpRampComplete g m) s fun t =>
      t = { (s.setGroup g.val { s.group g.val with sync := .on }) with regs := t.regs }
      ∧ RegsBut [Addr.grpEvents g.val] (s.measure g.val m) t ∧ Noted (Addr.grpEvents g.val) 0 s t)
  ∧ (∀ (s : State) (g : Fin 8) (m : GroupMeas), (s.group g.val).sync = .ramp → s.dieLink.holding = false →
    Runs (.shortDuringRamp g m) s fun t =>
      t = { (s.setGroup g.val { s.group g.val with
              sync := .tripped, cause := 6, ends := some (s.clock + s.retryTime g.val * periods100ms) }) with
              regs := t.regs, fault := t.fault }
      ∧ RegsBut [Addr.grpEvents g.val, Addr.grpTripCount g.val] (s.measure g.val m) t ∧ Noted (Addr.grpEvents g.val) 5 s t
      ∧ t.reg (Addr.grpTripCount g.val) = satAdd (s.reg (Addr.grpTripCount g.val)) 1
      ∧ t.fault = (s.raise (groupUnit g.val) .shortDuringRamp 6 none).fault)
  ∧ (∀ (s : State) (g : Fin 8) (m : GroupMeas), (s.group g.val).sync = .on → s.flag (Addr.grpCfg g.val) 0 = false →
    s.atLimit g.val m = true →
    Runs (.grpLimitEnter g m) s fun t => t = (s.measure g.val m).setGroup g.val { s.group g.val with sync := .limiting })
  ∧ (∀ (s : State) (g : Fin 8) (m : GroupMeas), (s.group g.val).sync = .limiting → s.atLimit g.val m = false →
    Runs (.grpLimitExit g m) s fun t => t = (s.measure g.val m).setGroup g.val { s.group g.val with sync := .on })
  ∧ (∀ (s : State) (g : Fin 8) (m : GroupMeas), (s.group g.val).sync = .on → s.dieLink.holding = true →
    s.atFastTrip g.val m = true →
    Runs (.groupFastTrip g m) s fun t =>
      t = { (s.setGroup g.val { s.group g.val with
              sync := .tripped, cause := 1, noRetry := true, ends := some (s.clock + s.retryTime g.val * periods100ms) }) with
              regs := t.regs, fault := t.fault }
      ∧ RegsBut [Addr.grpEvents g.val, Addr.grpTripCount g.val] (s.measure g.val m) t ∧ Noted (Addr.grpEvents g.val) 2 s t
      ∧ t.reg (Addr.grpTripCount g.val) = satAdd (s.reg (Addr.grpTripCount g.val)) 1
      ∧ t.fault = (s.raise (groupUnit g.val) .groupFastTrip 1 none).fault)
  ∧ (∀ (s : State) (g : Fin 8) (m : GroupMeas), (s.group g.val).sync = .limiting → s.dieLink.holding = false →
    s.atLimit g.val m = true →
    Runs (.groupSlowTrip g m) s fun t =>
      t = { (s.setGroup g.val { s.group g.val with
              sync := .tripped, cause := 2, ends := some (s.clock + s.retryTime g.val * periods100ms) }) with
              regs := t.regs, fault := t.fault }
      ∧ RegsBut [Addr.grpEvents g.val, Addr.grpTripCount g.val] (s.measure g.val m) t ∧ Noted (Addr.grpEvents g.val) 3 s t
      ∧ t.reg (Addr.grpTripCount g.val) = satAdd (s.reg (Addr.grpTripCount g.val)) 1
      ∧ t.fault = (s.raise (groupUnit g.val) .groupSlowTrip 2 none).fault)
  ∧ (∀ (s : State) (g : Fin 8) (k : Fin 3) (m : GroupMeas), s.dieLink.holding = false →
    (s.group g.val).sync = (if k = 2 then .ramp else .on) → s.limitPassed g.val k m = true →
    Runs (.groupEnergyLimit g k m) s fun t =>
      t = { (s.setGroup g.val { s.group g.val with
              sync := .tripped, cause := 3 + k.val, ends := some (s.clock + s.retryTime g.val * periods100ms) }) with
              regs := t.regs, fault := t.fault }
      ∧ RegsBut [Addr.grpEvents g.val, Addr.grpTripCount g.val] (s.measure g.val m) t ∧ Noted (Addr.grpEvents g.val) 4 s t
      ∧ t.reg (Addr.grpTripCount g.val) = satAdd (s.reg (Addr.grpTripCount g.val)) 1
      ∧ t.fault = (s.raise (groupUnit g.val) .groupEnergyLimit (3 + k.val) none).fault)
  ∧ (∀ (s : State) (g : Fin 8) (m : GroupMeas), (s.group g.val).sync = .ramp →
    Runs (.groupEnergyLimit g 0 m) s fun t => t = s.measure g.val m)
  ∧ (∀ (s : State) (g : Fin 8), (s.group g.val).sync = .tripped → s.flag (Addr.grpCfg g.val) 1 = true →
    (s.group g.val).retries < s.field (Addr.grpCfg g.val) 4 4 → (s.group g.val).noRetry = false →
    s.groupBlocked g.val = false →
    Runs (.grpRetryExpiry g) s fun t =>
      t = { (s.setGroup g.val { s.group g.val with sync := .ramp, retries := (s.group g.val).retries + 1, ends := none }) with
              regs := t.regs }
      ∧ RegsBut [Addr.grpEvents g.val] s t ∧ Noted (Addr.grpEvents g.val) 7 s t)
  ∧ (∀ (s : State) (g : Fin 8), (s.group g.val).sync = .tripped →
    s.flag (Addr.grpCfg g.val) 1 = false ∨ (s.group g.val).noRetry = true →
    Runs (.grpRetryExpiry g) s fun t =>
      t = { (s.setGroup g.val { s.group g.val with sync := .off, ends := none }) with regs := t.regs }
      ∧ RegsBut [Addr.grpEvents g.val] s t ∧ t.flag (Addr.grpEvents g.val) 7 = true ∧ t.flag (Addr.grpEvents g.val) 1 = true)
  ∧ (∀ (s : State) (g : Fin 8), (s.group g.val).sync = .limiting →
    Runs (.grpRetriesClear g) s fun t => t = s.setGroup g.val { s.group g.val with retries := 0 })
  ∧ (∀ (s : State), Runs .tmemBlockEnd s fun t => t = { s with power := { s.power with block := none } })
  ∧ (∀ (s : State) (k : Fin 4) (v : Half), (s.sensor k.val).warn = false → s.warnAt k.val ≤ v.toInt →
    Runs (.thermalWarn k v) s fun t =>
      t = { (s.setSensor k.val { s.sensor k.val with temp := v, warn := true }) with regs := t.regs, fault := t.fault }
      ∧ RegsBut [Addr.thermEvents k.val] s t ∧ Noted (Addr.thermEvents k.val) 0 s t
      ∧ t.fault = (s.raiseAs (sensorUnit k.val) .overtemp .degraded 0 none).fault)
  ∧ (∀ (s : State) (k : Fin 4) (v : Half), (s.sensor k.val).shut = false → s.shutAt k.val ≤ v.toInt →
    Runs (.thermalShut k v) s fun t =>
      t = { s with power := t.power, regs := t.regs, fault := t.fault }
      ∧ t.power = { s.power with shutdown := true, sensors := t.power.sensors, groups := t.power.groups }
      ∧ t.sensor k.val = { s.sensor k.val with temp := v, shut := true }
      ∧ (∀ j, j ≠ k.val → t.sensor j = s.sensor j)
      ∧ (∀ g, g < 8 → t.group g = { s.group g with sync := .off, cause := 7 })
      ∧ RegsBut (Addr.thermEvents k.val :: (List.range 8).map Addr.grpEvents) s t ∧ Noted (Addr.thermEvents k.val) 1 s t
      ∧ t.fault = (s.raiseAs (sensorUnit k.val) .overtemp .major 0 none).fault)
  ∧ (∀ (s : State) (k : Fin 4) (v : Half), (s.sensor k.val).warn = true → v.toInt < s.warnAt k.val - 100 →
    v.toInt < s.shutAt k.val - 100 →
    Runs (.thermalClear k v) s fun t =>
      t = { s with power := t.power, regs := t.regs }
      ∧ t.power = { s.power with sensors := t.power.sensors, shutdown := t.power.shutdown }
      ∧ t.sensor k.val = { temp := v, warn := false, shut := false } ∧ (∀ j, j ≠ k.val → t.sensor j = s.sensor j)
      ∧ (t.power.shutdown = true ↔ s.power.shutdown = true ∧ ((List.range 4).any fun j => (t.sensor j).shut) = true)
      ∧ RegsBut [Addr.thermEvents k.val] s t ∧ Noted (Addr.thermEvents k.val) 2 s t)

/-- R397 to R410, R482: the resets of the logic die, the phases of start-up, and release. -/
def Obligations.StartUpRuns : Prop :=
  (∀ (s : State) (m : Fin 4), s.start.logicUp = false → s.power.logicEn = true → s.comet.vaon = true →
    s.comet.power ≠ .hibernate →
    Runs (.logicPorRelease m) s fun t =>
      t = { s with frc := 0, regs := t.regs, comet := { s.comet with power := .starting }, start := { s.start with
              logicUp := true, phase := 3, bootMode := m.val, ephHold := true,
              pcieFrom := if s.host.perst then some 0 else none } }
      ∧ RegsBut [Addr.globalRegionState] s t
      ∧ ∀ k, k < 4 → t.fenced k = (s.fenced k && !s.flag Addr.globalRegionState (4 + k))
        ∧ t.flag Addr.globalRegionState (4 + k) = false
        ∧ t.flag Addr.globalRegionState (12 + k)
            = (s.flag Addr.globalRegionState (12 + k) || s.flag Addr.globalRegionState (4 + k)))
  ∧ (∀ (s : State), s.comet.power ≠ .hibernate → Runs .logicSupplyLoss s fun t => WentDown 4 s t)
  ∧ (∀ (s : State), s.comet.power = .hibernate → s.start.released = false →
    Runs .logicSupplyLoss s fun t => WentDownTo 0xFF 0 s t ∧ t.comet = { s.comet with digest := none })
  ∧ (∀ (s : State), s.comet.power ≠ .hibernate → Runs .resetNAssert s fun t => WentDown 8 s t)
  ∧ (∀ (s : State), s.comet.power = .hibernate → Runs .resetNAssert s fun t => t = s)
  ∧ (∀ (s : State) (i : Initiator) (v : Word), s.ready i (Addr.globalResetCmd + 4) true = true →
    s.armedAt Addr.globalResetCmd v = true → bit v 0 = true →
    Runs (.warm i (~~~ v)) s fun t => WentDown 16 s t ∧ t.out = .access i (Addr.globalResetCmd + 4) .done :: s.out)
  ∧ (∀ (s : State),
    Runs .perstAssert s fun t =>
      t.host = { up := false, config := s.host.config, perst := false } ∧ t.mem = s.mem
      ∧ ∀ a, ownerOf a = some .host → t.reg a = regReset a)
  ∧ (∀ (s : State), s.host.perst = false → s.start.logicUp = true →
    Runs .perstDeassert s fun t =>
      t = { s with host := { s.host with perst := true, pba := t.host.pba }, cores := t.cores, regs := t.regs,
                   start := { s.start with pcieFrom := some s.now } }
      ∧ Noted Addr.hostEvents 2 s t)
  ∧ (∀ (s : State) (ok : Bool), s.start.logicUp = true → s.start.phase = 3 →
    Runs (.fuseLoadComplete ok) s fun t =>
      t = { s with start := { s.start with phase := if ok then 4 else 3, fuseFail := !ok } })
  ∧ (∀ (s : State) (ok : Bool), s.start.logicUp = true → s.start.phase = 4 → s.boot.fallback = false →
    s.boot.sync = .idle → s.start.bootMode = 0 → s.start.crcRetry = false → s.cacheOk ok = true →
    Runs (.imageLoadComplete ok) s fun t =>
      t = { s with image := s.cache.words, boot := { s.boot with running := 0 }, start := { s.start with
              flashFail := s.start.flashFail || !ok, phase := 5, source := .mram, cacheWrite := false } })
  ∧ (∀ (s : State) (ok : Bool), s.start.logicUp = true → s.start.phase = 4 → s.boot.fallback = false →
    s.boot.sync = .idle → s.start.bootMode = 2 →
    Runs (.imageLoadComplete ok) s fun t =>
      t = { s with image := [], boot := { s.boot with running := 2 }, start := { s.start with
              phase := 5, source := .none, cacheWrite := false, transitCause := 1 } })
  ∧ (∀ (s : State) (ok : Bool), s.start.logicUp = true → s.start.phase = 4 → s.boot.fallback = false →
    s.boot.sync = .idle → s.start.bootMode = 1 →
    Runs (.imageLoadComplete ok) s fun t =>
      RegsBut [Addr.bootEvents] s t ∧ t.cache = { s.cache with valid := false }
      ∧ t.comet = { s.comet with digest := none } ∧ t.start.phase = 5 ∧ t.start.flashFail = (s.start.flashFail || !ok)
      ∧ (ok = true → s.imgValid activeSlot = true →
          t.image = s.imgWords activeSlot ∧ t.boot = { s.boot with running := 0 } ∧ t.start.source = .flash
          ∧ t.start.cacheWrite = true ∧ t.reg Addr.bootEvents = s.reg Addr.bootEvents)
      ∧ (ok = true → s.imgValid activeSlot = false → s.boot.prevOk = true → s.imgValid s.previousSlot = true →
          t.image = s.imgWords s.previousSlot ∧ t.boot = { s.boot with running := 1 } ∧ t.start.source = .flash
          ∧ t.start.cacheWrite = true ∧ Noted Addr.bootEvents 5 s t
          ∧ t.fault = (s.raise .boot .imageAuthFail 0 none).fault)
      ∧ (ok = false ∨ s.imgValid activeSlot = false ∧ (s.boot.prevOk = false ∨ s.imgValid s.previousSlot = false) →
          t.image = [] ∧ t.boot = { s.boot with running := 2 } ∧ t.start.source = .none ∧ t.start.noImage = true
          ∧ t.start.transitCause = 1 ∧ t.flag Addr.bootEvents 5 = true))
  ∧ (∀ (s : State), s.start.logicUp = true → s.start.phase = 5 → s.start.retained = 0 → s.image = [] → s.canWakes = [] →
    s.field Addr.globalRegionState 12 4 = 0 → s.start.transitCause ≠ 3 → s.declaredMismatch = false →
    Runs (.applyComplete []) s fun t =>
      t = { s with time := { s.time with offset := s.seedOffset }, start := { s.start with phase := 6 } })
  ∧ (∀ (s : State) (u : HubUnit) (k : FaultKind) (a : Nat) (v : Word) (b : Block) (o : Nat) (r : RegRow),
    s.start.logicUp = true → s.start.phase = 5 → s.start.retained = 0 → s.image = [(a, v)] → s.canWakes = [] →
    s.field Addr.globalRegionState 12 4 = 0 → s.start.transitCause ≠ 3 → s.declaredMismatch = false →
    s.ready .boot a true = true → locate a = some (b, o) → plainBlock b = true → regRow a = some r →
    Runs (.applyComplete [(u, k)]) s fun t =>
      RegsBut [a] s t ∧ t.reg a = v &&& BitVec.ofNat 32 r.mask
      ∧ t.fault = (s.raise u k 0 none).fault ∧ t.start.phase = 6 ∧ t.start.selftestFail = true)
  ∧ (∀ (s : State), s.start.logicUp = true → s.start.phase = 6 → s.imageRef = none →
    Runs .checkScanComplete s fun t => t = { s with start := { s.start with phase := 8 } })
  ∧ (∀ (s : State) (ref : Word), s.start.logicUp = true → s.start.phase = 7 → s.imageRef = some ref →
    Runs .checkScanComplete s fun t =>
      RegsBut [Addr.regifCfgCrcRef, Addr.regifCfgCrcLast] s t
      ∧ t.reg Addr.regifCfgCrcRef = ref ∧ t.reg Addr.regifCfgCrcLast = (s.setReg Addr.regifCfgCrcRef ref).scanCrc
      ∧ (t.reg Addr.regifCfgCrcLast = ref → t.start = { s.start with phase := 8 } ∧ t.cache = s.cache)
      ∧ (t.reg Addr.regifCfgCrcLast ≠ ref → t.cache = { s.cache with valid := false }
          ∧ t.start = (if s.start.crcRetry = true then
              { s.start with phase := 8, transitCause := 3, cacheWrite := false, fatalRegions := t.start.fatalRegions }
            else { s.start with phase := 4, crcRetry := true })))
  ∧ (∀ (s : State), s.start.logicUp = true → s.start.phase = 8 → s.start.released = false → s.releaseCause = 0 →
    s.start.fatalRegions = [] →
    Runs .release s fun t =>
      t.start = { s.start with
        released := true, configReady := true, retained := 0, startTime := min 65535 (s.now / 4000), driven := true,
        waitLock := s.flag Addr.globalRelease 10, ephHold := s.flag Addr.globalRelease 10 }
      ∧ t.comet = { s.comet with power := .run } ∧ t.usb = { s.usb with sync := .default } ∧ t.mem = s.mem
      ∧ t.flag Addr.usbEvents 0 = true
      ∧ (s.flag Addr.globalRelease 9 = true → t.flag (Addr.pwrHealth 0) 0 = true)
      ∧ (∀ g, g < 8 → s.flag Addr.globalRelease g = true → (s.group g).sync ≠ .tripped →
          (t.group g).cmds = (s.group g).cmds ++ [true])
      ∧ (∀ g, g < 8 → s.flag Addr.globalRelease g = false → s.flag Addr.globalRelease 8 = false → (s.group g).live = true →
          (t.group g).cmds = (s.group g).cmds ++ [false])
      ∧ ∀ n : Fin 4, s.flag (Addr.svcCtrl n.val) 1 = true → s.enabled (.core n) = true → (s.core n.val).sync = .halted →
          (t.core n.val).sync = .running ∧ t.corePc n.val = s.reg (Addr.svcResetPc n.val))
  ∧ (∀ (s : State), s.start.logicUp = true → s.start.phase = 8 → s.start.released = false → s.start.transitCause ≠ 0 →
    s.ring.sync = .down →
    Runs .release s fun t =>
      t.start.released = true ∧ t.start.driven = s.start.driven ∧ t.ring.sync = .transit
      ∧ t.ring.cause = s.start.transitCause ∧ t.comet.power = .run ∧ t.usb.sync = .default
      ∧ t.flag (Addr.pwrHealth 0) 0 = false ∧ t.flag Addr.ringEvents 1 = true
      ∧ ∀ g, g < 8 → (s.group g).live = true → (t.group g).cmds = (s.group g).cmds ++ [false])
  ∧ (∀ (s : State), s.start.released = true → s.start.cacheWrite = true → s.boot.running = 0 →
    Runs .cacheWriteComplete s fun t =>
      t = { s with start := { s.start with cacheWrite := false }, cache :=
              { valid := true, digest := s.imgDigest activeSlot, rollback := s.imgRollback activeSlot, words := s.image } })
  ∧ (∀ (s : State) (n : Nat), s.start.logicUp = true → s.start.pcieFrom = some n → s.start.configReady = false →
    Runs .pcieCrsLimit s fun t =>
      t = { s with start := { s.start with configReady := true, pcieEarly := !s.start.released } })

/-- R411 to R416, R467, R482: keep-time and its anchor, hibernate entry and wake, and a restart of the logic die. -/
def Obligations.CometRuns : Prop :=
  (∀ (s : State), s.feedOn = false →
    Runs .cometPor s fun t =>
      t = { s with regs := t.regs, guards := t.guards, canWakes := [], mgmt := {}, comet :=
              { power := if s.start.released then .run else .starting, wake0 := s.comet.wake0, wake1 := s.comet.wake1,
                vaon := true } }
      ∧ (∀ a, cometReg a = true → t.reg a = regReset a) ∧ ∀ a, cometReg a = false → t.reg a = s.reg a)
  ∧ (∀ (s : State), s.feedOn = true → s.power.logicEn = false →
    Runs .cometPor s fun t => t.power.logicEn = true ∧ t.start.phase = 2 ∧ t.comet.kt = 0 ∧ t.comet.ktValid = false)
  ∧ (∀ (s : State),
    Runs .vaonLoss s fun t =>
      t = { s with regs := t.regs, guards := t.guards, canWakes := [], mgmt := {}, comet := t.comet,
                   power := { s.power with logicEn := false } }
      ∧ t.comet.vaon = false ∧ t.comet.kt = 0 ∧ t.comet.ktValid = false ∧ t.comet.anchorValid = false
      ∧ (∀ a, cometReg a = true → t.reg a = regReset a) ∧ ∀ a, cometReg a = false → t.reg a = s.reg a)
  ∧ (∀ (s : State), s.start.logicUp = true → s.time.sync = .locked ∨ s.time.sync = .holdover →
    Runs .anchorStore s fun t =>
      t = { s with regs := t.regs, comet := { s.comet with
              ktValid := s.comet.ktValid || s.comet.xtalOk, anchorValid := s.comet.anchorValid || s.comet.xtalOk } }
      ∧ RegsBut [Addr.cometAnchorNsLo, Addr.cometAnchorNsHi, Addr.cometAnchorKtLo, Addr.cometAnchorKtHi] s t
      ∧ t.reg Addr.cometAnchorNsLo = word s.timeNs ∧ t.reg Addr.cometAnchorNsHi = word (s.timeNs / 2 ^ 32)
      ∧ t.reg Addr.cometAnchorKtLo = word s.comet.kt.toNat ∧ t.reg Addr.cometAnchorKtHi = word (s.comet.kt.toNat / 2 ^ 32))
  ∧ (∀ (s : State),
    Runs .xtalStop s fun t => t = { s with comet := { s.comet with
      stopped := true, xtalOk := false, ktValid := false, anchorValid := false } })
  ∧ (∀ (s : State) (i : Initiator) (v : Word), s.ready i (Addr.cometHibCmd + 4) true = true →
    s.armedAt Addr.cometHibCmd v = true → bit v 0 = true → s.comet.power = .run → s.start.released = true →
    s.entryRefusal ≠ 0 →
    Runs (.enter i (~~~ v)) s fun t =>
      t = { s.written i (Addr.cometHibCmd + 4) .done with regs := t.regs, guards := t.guards }
      ∧ RegsBut [Addr.cometHibCmd, Addr.cometWakeInfo, Addr.cometWakeStatus, Addr.cometMgmtEvents] s t
      ∧ t.field Addr.cometWakeInfo 8 4 = s.entryRefusal ∧ Noted Addr.cometWakeStatus 7 s t
      ∧ Noted Addr.cometMgmtEvents 1 s t ∧ Committed Addr.cometHibCmd s t)
  ∧ (∀ (s : State) (i : Initiator) (v : Word), s.ready i (Addr.cometHibCmd + 4) true = true →
    s.armedAt Addr.cometHibCmd v = true → bit v 0 = true → s.comet.power = .run → s.start.released = true →
    s.entryRefusal = 0 →
    Runs (.enter i (~~~ v)) s fun t =>
      t.comet.power = .entering ∧ t.comet.digest = s.usedDigest ∧ t.field Addr.cometWakeInfo 8 4 = 0
      ∧ t.flag (Addr.pwrHealth 0) 0 = false ∧ t.flag (Addr.linkBypassCtrl 0) 1 = true
      ∧ t.reg Addr.cometAnchorKtLo = word s.comet.kt.toNat ∧ t.mem = s.mem
      ∧ ∀ g, g < 8 → (t.group g).cmds = (s.group g).cmds ++ [false])
  ∧ (∀ (s : State), s.comet.power = .entering → s.field Addr.cometHibCtrl 4 4 = 0 → s.flag Addr.cometHibCtrl 0 = false →
    Runs .hibernateEntryComplete s fun t =>
      t.comet = { s.comet with power := .hibernate, xtalOk := false, ktValid := false, anchorValid := false }
      ∧ t.start = { logicUp := false, phase := 2, ephHold := true } ∧ t.power.logicEn = false ∧ t.dieLink.up = false
      ∧ (∀ g, g < 8 → (t.group g).sync = .off) ∧ (∀ a, keptReg a = false → a ≠ Addr.globalRegionState → t.reg a = regReset a)
      ∧ t.reg Addr.globalRegionState = 0xFF
      ∧ (s.start.released = true → t.flag Addr.cometMgmtEvents 2 = true))
  ∧ (∀ (s : State) (r : Fin 4), s.comet.power = .entering → s.field Addr.cometHibCtrl 4 4 = 2 ^ r.val →
    s.flag Addr.cometHibCtrl 0 = true → s.power.logicEn = true →
    Runs .hibernateEntryComplete s fun t =>
      t.comet = { s.comet with power := .hibernate } ∧ t.power.logicEn = true ∧ t.start.logicUp = false
      ∧ t.start.retained = 2 ^ r.val
      ∧ (∀ a, addrRegion a = some r.val → t.reg a = s.reg a)
      ∧ ∀ a, Addr.coreRam r.val ≤ a ∧ a < Addr.coreRam r.val + 0x8_0000 → Memory.byte t.mem a = Memory.byte s.mem a)
  ∧ (∀ (s : State) (p : Fin 2), s.comet.power = .hibernate → s.flag Addr.cometHibCtrl (8 + p.val) = true →
    s.comet.wokeAt = none →
    Runs (.wakePinAssert p true) s fun t =>
      t = { s with regs := t.regs, comet := t.comet, power := { s.power with logicEn := true },
                   start := { s.start with phase := 2 } }
      ∧ RegsBut [Addr.cometWakeStatus, Addr.cometWakeInfo, Addr.cometMgmtEvents, Addr.globalResetCause] s t
      ∧ Noted Addr.cometWakeStatus p.val s t ∧ Noted Addr.cometMgmtEvents 1 s t ∧ Noted Addr.globalResetCause 6 s t
      ∧ t.field Addr.cometWakeInfo 0 3 = 1 + p.val ∧ t.comet.power = .starting)
  ∧ (∀ (s : State) (p : Fin 2), s.comet.power = .entering → s.flag Addr.cometHibCtrl (8 + p.val) = true →
    s.start.released = true →
    Runs (.wakePinAssert p true) s fun t =>
      t.start = { logicUp := false, phase := 2, ephHold := true } ∧ t.flag Addr.cometWakeStatus p.val = true
      ∧ t.flag Addr.cometWakeStatus 6 = true ∧ t.flag Addr.globalResetCause 6 = true
      ∧ t.flag Addr.cometMgmtEvents 2 = true ∧ ∀ a, keptReg a = false → t.reg a = regReset a)
  ∧ (∀ (s : State) (held : Bool), held = false ∨ s.flag Addr.cometHibCtrl 8 = false ∨ s.comet.power = .run →
    Runs (.wakePinAssert 0 held) s fun t =>
      t = { s with comet := { s.comet with wake0 := held != s.flag Addr.cometHibCtrl 12 } })
  ∧ (∀ (s : State), s.comet.power = .hibernate → s.flag Addr.cometHibCtrl 11 = true → s.flag Addr.cometHibCtrl 0 = true →
    s.ktAlarm = s.comet.kt.toNat → s.comet.wokeAt = none →
    Runs .ktAlarm s fun t =>
      t = { s with regs := t.regs, comet := t.comet, power := { s.power with logicEn := true },
                   start := { s.start with phase := 2 } }
      ∧ Noted Addr.cometWakeStatus 4 s t ∧ Noted Addr.globalResetCause 6 s t ∧ t.field Addr.cometWakeInfo 0 3 = 5
      ∧ t.comet.power = .starting)
  ∧ (∀ (s : State) (i : Initiator) (v : Word), s.ready i (Addr.cometMgmtCmd + 4) true = true →
    s.armedAt Addr.cometMgmtCmd v = true → bit v 0 = true →
    Runs (.logicRestart i (~~~ v)) s fun t =>
      Committed Addr.cometMgmtCmd s t ∧ t.out = .access i (Addr.cometMgmtCmd + 4) .done :: s.out
      ∧ RegsBut [Addr.cometMgmtCmd, Addr.cometMgmtEvents] s t
      ∧ (s.feedOn = true → t.power = { s.power with logicEn := false } ∧ t.mgmt = { s.mgmt with restart := true }
          ∧ t.reg Addr.cometMgmtEvents = s.reg Addr.cometMgmtEvents)
      ∧ (s.feedOn = false → t.power = s.power ∧ t.mgmt = s.mgmt ∧ Noted Addr.cometMgmtEvents 6 s t))
  ∧ (∀ (s : State), s.mgmt.restart = true → s.start.logicUp = true → s.comet.power ≠ .hibernate →
    Runs .logicRestartRaise s fun t =>
      t.start = { logicUp := false, phase := 2, ephHold := true } ∧ t.power = { s.power.linkCut with logicEn := true }
      ∧ t.mgmt = { s.mgmt with restart := false } ∧ t.comet = { s.comet with power := .starting }
      ∧ t.flag Addr.globalResetCause 2 = true ∧ ∀ a, keptReg a = false → t.reg a = regReset a)

/-- R423 to R431: BOOT_CMD, the owner lock, UPDATE_PROTECT, the confirmation, a trial's seconds and its end, and the settings
banks. -/
def Obligations.BootAndUpdateRun : Prop :=
  (∀ (s : State) (i : Initiator) (v : Word), s.ready i (Addr.bootCmd + 4) true = true → s.armedAt Addr.bootCmd v = true →
    bits v 0 3 = 1 → s.boot.sync = .idle → s.boot.owner = none → s.updateRefusal = 0 →
    Runs (.begin i (~~~ v)) s fun t =>
      t = { s.written i (Addr.bootCmd + 4) .done with
              regs := t.regs, guards := t.guards, mem := t.mem,
              boot := { s.boot with
                owner := some i, sync := .busy, job := 1, next := .receiving, was := .idle, since := s.now } }
      ∧ RegsBut [Addr.bootCmd] s t ∧ Committed Addr.bootCmd s t
      ∧ (∀ a, flashBase + s.stagingSlot ≤ a → a < flashBase + s.stagingSlot + s.slotSize → Memory.byte t.mem a = 0)
      ∧ (∀ a, flashBase + s.stagingSlot + s.slotSize ≤ a ∨ a < flashBase + s.stagingSlot →
          Memory.byte t.mem a = Memory.byte s.mem a))
  ∧ (∀ (s : State) (i : Initiator) (v : Word) (r : Nat), s.ready i (Addr.bootCmd + 4) true = true →
    s.armedAt Addr.bootCmd v = true → bits v 0 3 = 1 → s.boot.sync ≠ .busy → s.boot.owner = none →
    s.updateRefusal = r → r ≠ 0 →
    Runs (.begin i (~~~ v)) s fun t =>
      t = { s.written i (Addr.bootCmd + 4) .done with
              regs := t.regs, guards := t.guards, fault := t.fault, boot := { s.boot with result := r } }
      ∧ Noted Addr.bootEvents 1 s t ∧ Committed Addr.bootCmd s t
      ∧ t.fault = (s.raise .boot .updateRefusedState r none).fault)
  ∧ (∀ (s : State) (i : Initiator) (v : Word), s.ready i (Addr.bootCmd + 4) true = true → s.armedAt Addr.bootCmd v = true →
    bits v 0 3 = 2 → s.boot.sync = .receiving → s.boot.owner = some i →
    s.field Addr.bootXferOffset 0 27 + s.xferBytes.length ≤ s.slotSize →
    Runs (.program i (~~~ v)) s fun t =>
      t = { s.written i (Addr.bootCmd + 4) .done with
              regs := t.regs, guards := t.guards,
              boot := { s.boot with
                sync := .busy, job := 2, next := .receiving, was := .receiving, since := s.now },
              mem := Memory.writeBytes s.mem (flashBase + s.stagingSlot + s.field Addr.bootXferOffset 0 27)
                (s.xferBytes.map fun b => ~~~ b) }
      ∧ RegsBut [Addr.bootCmd] s t ∧ Committed Addr.bootCmd s t)
  ∧ (∀ (s : State) (i : Initiator) (v : Word), s.ready i (Addr.bootCmd + 4) true = true → s.armedAt Addr.bootCmd v = true →
    bits v 0 3 = 3 → s.boot.sync = .receiving → s.boot.owner = some i → s.updateRefusal = 0 →
    Runs (.commit i (~~~ v)) s fun t =>
      t = { s.written i (Addr.bootCmd + 4) .done with
              regs := t.regs, guards := t.guards, boot := { s.boot with
                sync := .busy, job := 3, next := .staged, was := .receiving, since := s.now } }
      ∧ RegsBut [Addr.bootCmd] s t ∧ Committed Addr.bootCmd s t)
  ∧ (∀ (s : State) (i : Initiator) (v : Word), s.ready i (Addr.bootCmd + 4) true = true → s.armedAt Addr.bootCmd v = true →
    bits v 0 3 = 4 → s.boot.sync ≠ .busy → s.boot.owner = some i →
    Runs (.abort i (~~~ v)) s fun t =>
      t = { s.written i (Addr.bootCmd + 4) .done with
              regs := t.regs, guards := t.guards, boot := { s.boot with
                sync := .busy, job := 4, next := .idle, was := s.boot.sync, since := s.now } }
      ∧ RegsBut [Addr.bootCmd] s t ∧ Committed Addr.bootCmd s t)
  ∧ (∀ (s : State) (i o : Initiator) (v : Word), s.ready i (Addr.bootCmd + 4) true = true →
    s.armedAt Addr.bootCmd v = true → bits v 0 3 = 4 → s.boot.sync ≠ .busy → s.boot.owner = some o → o ≠ i →
    Runs (.abort i (~~~ v)) s fun t =>
      t = { s.written i (Addr.bootCmd + 4) .done with
              regs := t.regs, guards := t.guards, boot := { s.boot with result := 2 } })
  ∧ (∀ (s : State), s.boot.sync = .busy → s.boot.job = 1 → s.usb.cmds = [] →
    Runs .bootCmdComplete s fun t => t = { s with boot := { s.boot with sync := s.boot.next, job := 0, result := 0 } })
  ∧ (∀ (s : State), s.boot.sync = .busy → s.boot.job = 4 → s.usb.cmds = [] →
    Runs .bootCmdComplete s fun t =>
      t = { s with boot := { s.boot with sync := .idle, job := 0, result := 0, owner := none } })
  ∧ (∀ (s : State), s.boot.sync = .busy → s.boot.job = 3 → s.usb.cmds = [] →
    Runs .bootCmdComplete s fun t =>
      t = { s with regs := t.regs, fault := t.fault, boot := { s.boot with
              sync := if s.imgCheck s.stagingSlot = 0 then .staged else .idle, job := 0, result := s.imgCheck s.stagingSlot } }
      ∧ RegsBut [Addr.bootEvents] s t
      ∧ (s.imgCheck s.stagingSlot = 0 → Noted Addr.bootEvents 0 s t ∧ t.fault = s.fault)
      ∧ (s.imgCheck s.stagingSlot = 8 →
          Noted Addr.bootEvents 6 s t ∧ t.fault = (s.raise .boot .imageRollbackRefused 0 none).fault))
  ∧ (∀ (s : State) (i : Initiator) (v : Word), s.ready i (Addr.bootLock + 4) true = true →
    s.armedAt Addr.bootLock v = true →
    Runs (.ownerLock i (~~~ v)) s fun t =>
      t = { s.written i (Addr.bootLock + 4) .done with regs := t.regs, guards := t.guards }
      ∧ RegsBut [Addr.bootLock] s t ∧ t.reg Addr.bootLock = v &&& 1 ∧ Committed Addr.bootLock s t)
  ∧ (∀ (s : State) (i : Initiator) (v : Word), s.ready i Addr.bootProtect true = true →
    Runs (.bootProtectWrite i v) s fun t =>
      t = { s.written i Addr.bootProtect .done with regs := t.regs } ∧ RegsBut [Addr.bootProtect] s t
      ∧ t.reg Addr.bootProtect = (if i = .host then v &&& 1 else s.reg Addr.bootProtect))
  ∧ (∀ (s : State) (i : Initiator) (v : Word), s.ready i (Addr.bootHealthConfirm + 4) true = true →
    s.armedAt Addr.bootHealthConfirm v = true → bit v 0 = true → s.boot.sync = .trial → s.boot.fallback = false →
    Runs (.confirm i (~~~ v)) s fun t =>
      t = { s.written i (Addr.bootHealthConfirm + 4) .done with
              regs := t.regs, guards := t.guards,
              fuses := { s.fuses with rollback := max s.fuses.rollback (s.imgRollback activeSlot) },
              boot := { s.boot with sync := .idle, priorHeld := false, priFormat := 0, prevOk := t.boot.prevOk } }
      ∧ (t.boot.prevOk = true ↔ s.boot.prevOk = true ∧ t.fuses.rollback ≤ s.imgRollback s.previousSlot)
      ∧ Noted Addr.bootEvents 3 s t ∧ Committed Addr.bootHealthConfirm s t)
  ∧ (∀ (s : State), s.boot.sync = .trial → s.start.logicUp = true → s.start.released = true →
    Runs .trialSecond s fun t => t = { s with boot := { s.boot with elapsed := s.boot.elapsed + 1 } })
  ∧ (∀ (s : State), s.boot.sync = .trial → s.boot.fallback = false → s.trialWindow ≤ s.boot.elapsed →
    s.enabled .boot = true →
    Runs .trialWindowExpiry s fun t =>
      t = { s with regs := t.regs, fault := t.fault, boot := { s.boot with fallback := true } }
      ∧ RegsBut [Addr.bootEvents] s t ∧ Noted Addr.bootEvents 4 s t
      ∧ t.fault = (s.report
          (s.message (sourceId .boot) .trialFallback .major 0 (s.hubAddr (unitCtrl .boot)))).fault)
  ∧ (∀ (s : State) (i : Initiator), s.ready i Addr.bootSetData false = true → s.boot.past = false →
    s.stagedAt i Addr.bootSetData = none → s.shadowAt i Addr.bootSetData = none →
    Runs (.bootSetDataAccess i none) s fun t =>
      t = { s with regs := t.regs, boot := { s.boot with past := decide (settingsSize ≤ s.field Addr.bootSetAddr 0 18 + 4) },
                   out := .access i Addr.bootSetData (.data (Memory.word s.mem s.settingsAt)) :: s.out }
      ∧ RegsBut [Addr.bootSetAddr] s t
      ∧ t.field Addr.bootSetAddr 0 18 = (s.field Addr.bootSetAddr 0 18 + 4) % 2 ^ 18)
  ∧ (∀ (s : State) (i : Initiator) (v : Word), s.ready i Addr.bootSetData true = true → s.boot.past = false →
    s.boot.priorHeld = false ∨ s.flag Addr.bootSetAddr 18 = false →
    Runs (.bootSetDataAccess i (some v)) s fun t =>
      t = { s.written i Addr.bootSetData .done with
              regs := t.regs, mem := Memory.setWord s.mem s.settingsAt v,
              boot := { s.boot with past := decide (settingsSize ≤ s.field Addr.bootSetAddr 0 18 + 4) } }
      ∧ RegsBut [Addr.bootSetAddr] s t
      ∧ t.field Addr.bootSetAddr 0 18 = (s.field Addr.bootSetAddr 0 18 + 4) % 2 ^ 18)
  ∧ (∀ (s : State) (i : Initiator) (v : Word), s.ready i Addr.bootSetData true = true → s.boot.past = true →
    Runs (.bootSetDataAccess i (some v)) s fun t =>
      t.out = .access i Addr.bootSetData (.err 4) :: s.out ∧ t.mem = s.mem
      ∧ t.reg Addr.bootSetAddr = s.reg Addr.bootSetAddr ∧ t.reg Addr.regifBerrCount = satAdd (s.reg Addr.regifBerrCount) 1)

/-- R436 to R446, R464 to R466: records commit to FIRST, the history and the mirror, reactions act, holding ends or latches,
and an injection is armed; the management port's commands are answered. -/
def Obligations.FaultsAndManagementRun : Prop :=
  (∀ (s : State) (m : FaultMsg), s.start.logicUp = true → s.fault.msgs = [m] → s.reactRow m.src m.kind = none →
    s.reg Addr.faultDefaultActions = 0 → m.sev = .degraded → s.fault.held = false → s.flag Addr.faultEvents 2 = false →
    s.field Addr.faultCtrl 0 2 ≤ 1 → s.field Addr.faultCtrl 2 2 ≤ 1 → 1 < s.field Addr.faultCtrl 4 2 →
    Runs .faultRecordCommit s fun t =>
      t = { s with regs := t.regs, fault := { s.fault with
              msgs := [], held := true, heldSev := .degraded, quietFrom := some s.now } }
      ∧ t.reg Addr.faultHistHead = s.reg Addr.faultHistHead + 1
      ∧ t.reg (Addr.faultHistNum ((s.reg Addr.faultHistHead).toNat % 32)) = s.reg Addr.faultHistHead
      ∧ ((List.range 4).map fun k => t.reg (Addr.faultHist ((s.reg Addr.faultHistHead).toNat % 32) k))
          = recordWords m .degraded
      ∧ ((List.range 4).map fun k => t.reg (Addr.faultFirst k)) = recordWords m .degraded
      ∧ t.flag Addr.faultEvents 2 = true ∧ t.flag Addr.faultEvents 3 = true
      ∧ t.reg (Addr.faultKindCount m.kind.toNat) = satAdd (s.reg (Addr.faultKindCount m.kind.toNat)) 1)
  ∧ (∀ (s : State) (m : FaultMsg), s.start.logicUp = true → s.fault.msgs = [m] → s.reactRow m.src m.kind = none →
    s.reg Addr.faultDefaultActions = 0 → m.sev = .note → s.fault.heldSev ≠ .fatal → 0 < s.field Addr.faultCtrl 0 2 →
    0 < s.field Addr.faultCtrl 2 2 →
    Runs .faultRecordCommit s fun t =>
      t = { s with regs := t.regs, fault := { s.fault with msgs := [] } }
      ∧ RegsBut [Addr.faultKindCount m.kind.toNat] s t
      ∧ t.reg (Addr.faultKindCount m.kind.toNat) = satAdd (s.reg (Addr.faultKindCount m.kind.toNat)) 1)
  ∧ (∀ (s : State) (m : FaultMsg) (r : Nat), s.start.logicUp = true → s.fault.msgs = [m] →
    s.reactRow m.src m.kind = some r → s.field (Addr.faultReact0 r) 9 3 = 0 → s.reg (Addr.faultReact2 r) = 0x502 →
    s.fault.heldSev ≠ .fatal →
    Runs .faultRecordCommit s fun t =>
      t = { s with regs := t.regs, power := t.power, fault := { s.fault with msgs := [] } }
      ∧ RegsBut [Addr.faultKindCount m.kind.toNat, Addr.faultEvents, Addr.cometMgmtEvents] s t
      ∧ Noted Addr.faultEvents 1 s t ∧ Noted Addr.cometMgmtEvents 0 s t
      ∧ ∀ g, g < 8 → t.group g = { s.group g with cmds := (s.group g).cmds ++ [false] })
  ∧ (∀ (s : State) (m : FaultMsg) (r : Nat), s.start.logicUp = true → s.fault.msgs = [m] →
    s.reactRow m.src m.kind = some r → s.field (Addr.faultReact0 r) 9 3 = 0 → s.reg (Addr.faultReact2 r) = 0x600 →
    s.fault.heldSev ≠ .fatal → s.boot.fallback = false →
    Runs .faultRecordCommit s fun t => WentDown 32 s t)
  ∧ (∀ (s : State) (e : MirrorEntry) (r : List MirrorEntry), s.start.logicUp = true → s.fault.mirrorWait = e :: r →
    e.warm = 0 →
    Runs .mirrorWrite s fun t =>
      t = { s with regs := t.regs, fault := { s.fault with mirrorWait := r } }
      ∧ t.reg Addr.cometFaultHead = s.reg Addr.cometFaultHead + 1
      ∧ t.reg (Addr.cometFaultNum ((s.reg Addr.cometFaultHead).toNat % 16)) = s.reg Addr.cometFaultHead
      ∧ ((List.range 4).map fun k => t.reg (Addr.cometFault ((s.reg Addr.cometFaultHead).toNat % 16) k))
          = ((List.range 4).map fun k => e.words.getD k 0)
      ∧ Noted Addr.cometMgmtEvents 3 s t)
  ∧ (∀ (s : State) (e : MirrorEntry) (r : List MirrorEntry), s.start.logicUp = true → s.fault.mirrorWait = e :: r →
    e.warm = 32 →
    Runs .mirrorWrite s fun t =>
      t.start = { logicUp := false, phase := 2, ephHold := true } ∧ t.flag Addr.globalResetCause 5 = true
      ∧ t.reg Addr.cometFaultHead = s.reg Addr.cometFaultHead + 1 ∧ t.flag Addr.cometMgmtEvents 3 = true)
  ∧ (∀ (s : State), s.start.logicUp = true → s.fault.held = true → s.fault.latched = false →
    s.fault.quietFrom ≠ some s.now →
    (s.field Addr.faultCtrl 8 8 ≠ 0 ∧ s.field Addr.faultCtrl 8 8 ≤ s.fault.windowCount + 1)
      ∨ (s.fault.heldSev = .fatal ∧ s.flag Addr.faultCtrl 7 = true) →
    Runs .faultQuietExpiry s fun t =>
      t = { s with regs := t.regs, fault := { s.fault with latched := true } }
      ∧ RegsBut [Addr.faultEvents] s t ∧ Noted Addr.faultEvents 6 s t)
  ∧ (∀ (s : State), s.start.logicUp = true → s.fault.held = true → s.fault.latched = false →
    s.fault.quietFrom ≠ some s.now →
    s.field Addr.faultCtrl 8 8 = 0 ∨ s.fault.windowCount + 1 < s.field Addr.faultCtrl 8 8 →
    s.fault.heldSev ≠ .fatal ∨ s.flag Addr.faultCtrl 7 = false →
    Runs .faultQuietExpiry s fun t =>
      t = { s with regs := t.regs, fault := { s.fault with
              held := false, heldSev := .note, healthCleared := false, windowCount := min 255 (s.fault.windowCount + 1),
              windowFrom := if s.fault.windowCount = 0 then s.now else s.fault.windowFrom } }
      ∧ RegsBut [Addr.faultEvents, Addr.faultRecoveryCount, Addr.pwrHealth 0] s t ∧ Noted Addr.faultEvents 5 s t
      ∧ t.reg Addr.faultRecoveryCount = satAdd (s.reg Addr.faultRecoveryCount) 1
      ∧ t.flag (Addr.pwrHealth 0) 0
          = (s.flag (Addr.pwrHealth 0) 0 || (s.fault.healthCleared && s.flag Addr.faultCtrl 6)))
  ∧ (∀ (s : State), s.start.logicUp = true →
    Runs .faultWindowExpiry s fun t => t = { s with fault := { s.fault with windowCount := 0 } })
  ∧ (∀ (s : State) (i : Initiator) (v : Word), s.ready i (Addr.faultInject + 4) true = true →
    s.armedAt Addr.faultInject v = true → 1 ≤ bits v 0 4 → bits v 0 4 ≤ 7 →
    Runs (.faultInject i (~~~ v)) s fun t =>
      t = { s.written i (Addr.faultInject + 4) .done with
              regs := t.regs, guards := t.guards,
              fault := { s.fault with inject := { s.fault.inject with
                target := bits v 0 4, sel := bits v 4 2, double := bit v 6, armed := true } } }
      ∧ RegsBut [Addr.faultInject] s t ∧ Committed Addr.faultInject s t)
  ∧ (∀ (s : State) (a : BitVec 24) (crc : Byte) (b : Block) (o : Nat), s.comet.vaon = true →
    s.flag Addr.cometHibCtrl 10 = false ∨ s.comet.power = .run → crc = crc8 (0x0B :: beBytes 3 a.toNat) →
    a.toNat % 4 = 0 → s.mgmtServes a.toNat = true → s.ready .mgmt a.toNat false = true → locate a.toNat = some (b, o) →
    plainBlock b = true → s.stagedAt .mgmt a.toNat = none → s.shadowAt .mgmt a.toNat = none →
    lowWordRead a.toNat = false →
    Runs (.mgmtRead a crc) s fun t =>
      t = { s with out := .mgmt ((0xC0 :: beBytes 4 (s.viewReg .mgmt b a.toNat).toNat)
              ++ [crc8 (0xC0 :: beBytes 4 (s.viewReg .mgmt b a.toNat).toNat)]) :: s.out })
  ∧ (∀ (s : State) (a : BitVec 24) (v : Word) (crc : Byte) (b : Block) (o : Nat) (r : RegRow), s.comet.vaon = true →
    s.flag Addr.cometHibCtrl 10 = false ∨ s.comet.power = .run →
    crc = crc8 (0x02 :: (beBytes 3 a.toNat ++ beBytes 4 v.toNat)) → a.toNat % 4 = 0 → s.mgmtServes a.toNat = true →
    s.ready .mgmt a.toNat true = true → locate a.toNat = some (b, o) → plainBlock b = true → regRow a.toNat = some r →
    Runs (.mgmtWrite a v crc) s fun t =>
      RegsBut [a.toNat] s t ∧ t.reg a.toNat = v &&& BitVec.ofNat 32 r.mask ∧ t.out = .mgmt [0xC0] :: s.out ∧ t.mem = s.mem)
  ∧ (∀ (s : State) (a : BitVec 24) (v : Word) (crc : Byte), s.comet.vaon = true →
    s.flag Addr.cometHibCtrl 10 = false ∨ s.comet.power = .run →
    crc ≠ crc8 (0x02 :: (beBytes 3 a.toNat ++ beBytes 4 v.toNat)) ∨ a.toNat % 4 ≠ 0 →
    Runs (.mgmtWrite a v crc) s fun t => t = { s with out := .mgmt [0xC3] :: s.out })
  ∧ (∀ (s : State) (a : BitVec 24) (v : Word) (crc : Byte), s.comet.vaon = true →
    s.flag Addr.cometHibCtrl 10 = false ∨ s.comet.power = .run →
    crc = crc8 (0x02 :: (beBytes 3 a.toNat ++ beBytes 4 v.toNat)) → a.toNat % 4 = 0 → s.mgmtServes a.toNat = false →
    Runs (.mgmtWrite a v crc) s fun t => t = { s with out := .mgmt [0xC2] :: s.out })
  ∧ (∀ (s : State) (v w : Word) (crc : Byte), s.comet.vaon = true → s.comet.power = .run → s.start.logicUp = true →
    s.feedOn = false → (s.guard Addr.cometMgmtCmd).armed = none → bit v 0 = true → w = ~~~ v →
    crc = crc8 (0x22 :: (beBytes 3 Addr.cometMgmtCmd ++ beBytes 4 v.toNat ++ beBytes 4 w.toNat)) → s.isBusy .mgmt = false →
    s.unitFenced .mgmt = false →
    Runs (.mgmtPairedWrite (BitVec.ofNat 24 Addr.cometMgmtCmd) v w crc) s fun t =>
      Committed Addr.cometMgmtCmd s t ∧ t.out = .mgmt [0xC0] :: s.out ∧ Noted Addr.cometMgmtEvents 6 s t)
  ∧ (∀ (s : State) (c : Byte), s.comet.vaon = true → s.flag Addr.cometHibCtrl 10 = false ∨ s.comet.power = .run →
    Runs (.mgmtStatus c) s fun t =>
      t = { s with out := .mgmt [if c = 0x05 then BitVec.ofNat 8 (bits s.mgmtStatusWord 0 8)
              else if c = 0x0B ∨ c = 0x02 ∨ c = 0x22 then 0xC3 else 0xC4] :: s.out })
  ∧ (∀ (s : State), s.comet.vaon = true → s.flag Addr.cometHibCtrl 10 = false ∨ s.comet.power = .run →
    Runs (.mgmtCsRiseEarly none) s fun t =>
      t = { s with regs := t.regs } ∧ RegsBut [Addr.cometMgmtEvents] s t ∧ Noted Addr.cometMgmtEvents 4 s t)
  ∧ (∀ (s : State) (a : BitVec 24) (v : Word) (crc : Byte) (b : Block) (o : Nat) (r : RegRow), s.comet.vaon = true →
    s.flag Addr.cometHibCtrl 10 = false ∨ s.comet.power = .run →
    crc = crc8 (0x02 :: (beBytes 3 a.toNat ++ beBytes 4 v.toNat)) → a.toNat % 4 = 0 → s.mgmtServes a.toNat = true →
    s.ready .mgmt a.toNat true = true → locate a.toNat = some (b, o) → plainBlock b = true → regRow a.toNat = some r →
    Runs (.mgmtCsRiseEarly (some (.write a v crc))) s fun t =>
      RegsBut [a.toNat, Addr.cometMgmtEvents] s t ∧ t.reg a.toNat = v &&& BitVec.ofNat 32 r.mask ∧ t.out = s.out
      ∧ Noted Addr.cometMgmtEvents 5 s t)

/-- R74, R75, R453 to R462: HOST_FENCE, requests through the fabric windows, MSI-X, the PCIe link, and the DMA channels. -/
def Obligations.HostPortRuns : Prop :=
  (∀ (s : State) (v : Word), s.ready .host Addr.hostFence true = true →
    Runs (.hostFenceMark v) s fun t =>
      t = { s.written .host Addr.hostFence .done with bridge := t.bridge, hostFence := t.hostFence }
      ∧ t.bridge = { s.bridge with order := s.bridge.order + 1 } ∧ t.hostFence.marked = true
      ∧ t.hostFence.point = t.bridge.order ∧ t.hostFence.later = {}
      ∧ t.hostFence.covered.fails = min 255 (s.hostFence.covered.fails + s.hostFence.later.fails))
  ∧ (∀ (s : State), s.ready .host Addr.hostFence false = true → s.hostFence.marked = true → s.hostFenceDone = true →
    Runs .hostFenceRead s fun t =>
      t = { s with hostFence := { s.hostFence with marked := false, covered := {}, reading := false },
                   out := .access .host Addr.hostFence (.data s.hostFence.covered.summary) :: s.out })
  ∧ (∀ (s : State), s.ready .host Addr.hostFence false = true → s.hostFence.marked = true → s.hostFenceDone = false →
    Runs .hostFenceRead s fun t => t = { s with hostFence := { s.hostFence with reading := true } })
  ∧ (∀ (s : State), s.ready .host Addr.hostFence false = true → s.hostFence.marked = false →
    Runs .hostFenceRead s fun t => t = { s with out := .access .host Addr.hostFence (.data 1) :: s.out })
  ∧ (∀ (s : State), s.ready .host Addr.hostFence false = true → s.hostFence.marked = true → s.hostFence.reading = true →
    s.hostFenceDone = true →
    Runs .hostFenceReadComplete s fun t =>
      t = { s with hostFence := { s.hostFence with marked := false, covered := {}, reading := false },
                   out := .access .host Addr.hostFence (.data s.hostFence.covered.summary) :: s.out })
  ∧ (∀ (s : State) (off : BitVec 28) (bytes : Nat) (full : Bool) (d : List Word) (k : Nat), s.start.logicUp = true →
    s.windowKind (bits off 24 4) (s.windowAddr off) off false bytes full = some k →
    Runs (.hostFabricRequest off false bytes full d) s fun t =>
      t = { s with regs := t.regs, fault := t.fault, out := .access .host (s.windowAddr off).toNat (.err k) :: s.out }
      ∧ RegsBut [Addr.regifBerrCount, Addr.regifBerrStatus, Addr.regifBerrAddrLo, Addr.regifBerrAddrHi, Addr.regifBerrInfo] s t
      ∧ t.reg Addr.regifBerrCount = satAdd (s.reg Addr.regifBerrCount) 1)
  ∧ (∀ (s : State) (off : BitVec 28) (v : Word) (a : Nat) (b : Block) (o : Nat) (r : RegRow), s.start.logicUp = true →
    s.windowKind (bits off 24 4) (s.windowAddr off) off true 4 true = none → s.isOwn (s.windowAddr off) = true →
    faSpace (s.windowAddr off) = 0 → a = faOffset (s.windowAddr off) → s.ready .host a true = true →
    locate a = some (b, o) → plainBlock b = true → regRow a = some r →
    Runs (.hostFabricRequest off true 4 true [v]) s fun t =>
      RegsBut [a] s t ∧ t.reg a = v &&& BitVec.ofNat 32 r.mask ∧ t.mem = s.mem
      ∧ t.out = .access .host (s.windowAddr off).toNat .done :: s.out)
  ∧ (∀ (s : State) (off : BitVec 28), s.start.logicUp = true →
    s.windowKind (bits off 24 4) (s.windowAddr off) off false 8 true = none → s.isOwn (s.windowAddr off) = false →
    s.hostLoads < 32 → Store.wf (fun _ => none) s.bridge.tags = true →
    Runs (.hostFabricRequest off false 8 true []) s fun t =>
      t.mem = s.mem ∧ t.queues = s.queues ∧ t.power = s.power ∧ t.hostLoads = s.hostLoads + 1
      ∧ t.bridge.order = s.bridge.order + 1)
  ∧ (∀ (s : State) (off : BitVec 28) (bytes : Nat) (full : Bool) (d : List Word), s.start.logicUp = true →
    s.windowKind (bits off 24 4) (s.windowAddr off) off false bytes full = none → 32 ≤ s.hostLoads →
    Runs (.hostFabricRequest off false bytes full d) s fun t => t = s)
  ∧ (∀ (s : State) (v : Fin 64), s.start.logicUp = true → bit s.host.pba v.val = true → s.host.config.msixEn = true →
    s.host.config.maskAll = false → s.flag (Addr.msix v.val 3) 0 = false →
    Runs (.msixSend v) s fun t =>
      t = { s with host := { s.host with pba := setBit s.host.pba v.val false }, out := .msix v.val :: s.out })
  ∧ (∀ (s : State) (v : Fin 64), s.host.config.msixEn = false ∨ s.host.config.maskAll = true
      ∨ s.flag (Addr.msix v.val 3) 0 = true →
    Runs (.msixSend v) s fun t => t = s)
  ∧ (∀ (s : State) (i : Initiator) (v : Word), s.ready i Addr.hostDoorbell true = true → i ≠ .host →
    Runs (.hostDoorbellWrite i v) s fun t =>
      t = { s.written i Addr.hostDoorbell .done with regs := t.regs, host := { s.host with pba := t.host.pba } }
      ∧ RegsBut [Addr.hostDoorbell, Addr.hostEvents] s t ∧ t.reg Addr.hostDoorbell = v ∧ Noted Addr.hostEvents 3 s t)
  ∧ (∀ (s : State) (c : PcieConfig), s.host.perst = true → s.start.logicUp = true → 4 ≤ s.start.phase →
    s.host.up = false → s.host.config.busMaster = false →
    Runs (.pcieLinkChange true c) s fun t =>
      t = { s with regs := t.regs, host := { s.host with up := true, config := c, pba := t.host.pba } }
      ∧ RegsBut [Addr.hostEvents] s t ∧ Noted Addr.hostEvents 0 s t)
  ∧ (∀ (s : State) (n : Fin 8) (c : PcieConfig), s.host.up = true → s.host.config.busMaster = true → c.busMaster = false →
    (∀ k, k < 8 → s.dmaEn k = decide (k = n.val)) → (s.dma n.val).running = true → (s.dma n.val).part = false →
    Runs (.pcieLinkChange false c) s fun t =>
      t = { s with regs := t.regs, host := t.host } ∧ RegsBut [Addr.hostEvents, Addr.hostDmaStatus n.val] s t
      ∧ Noted Addr.hostEvents 1 s t ∧ Noted (Addr.hostDmaStatus n.val) 1 s t ∧ t.host.up = false ∧ t.host.config = c
      ∧ (t.dma n.val).running = false ∧ (t.dma n.val).cause = 4)
  ∧ (∀ (s : State) (i : Initiator) (c : Fin 8) (v : Word), s.ready i (Addr.hostDmaTail c.val) true = true →
    Runs (.hostDmaTailWrite i c v) s fun t =>
      t = { s.written i (Addr.hostDmaTail c.val) .done with regs := t.regs } ∧ RegsBut [Addr.hostDmaTail c.val] s t
      ∧ t.reg (Addr.hostDmaTail c.val) = v &&& 0xFFF)
  ∧ (∀ (s : State) (i : Initiator) (c : Fin 8) (v : Word), s.ready i (Addr.hostDmaCtrl c.val) true = true →
    s.dmaEn c.val = false → bit v 8 = true →
    Runs (.hostDmaCtrlWrite i c v) s fun t =>
      t = { s.written i (Addr.hostDmaCtrl c.val) .done with regs := t.regs, host := t.host }
      ∧ RegsBut [Addr.hostDmaCtrl c.val] s t ∧ t.reg (Addr.hostDmaCtrl c.val) = v &&& 0x1FF
      ∧ t.dma c.val = { head := 0, cause := 0, running := true } ∧ ∀ k, k ≠ c.val → t.dma k = s.dma k)
  ∧ (∀ (s : State) (i : Initiator) (c : Fin 8) (v : Word), s.ready i (Addr.hostDmaCtrl c.val) true = true →
    s.dmaEn c.val = true → bit v 8 = false → (s.dma c.val).part = false →
    Runs (.hostDmaCtrlWrite i c v) s fun t =>
      t = { s.written i (Addr.hostDmaCtrl c.val) .done with regs := t.regs, host := t.host }
      ∧ RegsBut [Addr.hostDmaCtrl c.val] s t ∧ t.dmaEn c.val = false
      ∧ t.dma c.val = { s.dma c.val with running := false, wait := [], desc := none, moved := 0 })
  ∧ (∀ (s : State) (c : Fin 8) (addr : Dword) (ctl : Word) (w : QWord) (r : List QWord), s.start.logicUp = true →
    s.dmaRuns c.val false = true → s.dmaGiven c.val = true → (s.dma c.val).desc = none → (s.dma c.val).moved = 0 →
    descOk addr ctl = true →
    s.qConsumer (s.dmaQueue c.val) = sourceId .host → s.qAvail (s.dmaQueue c.val) = true →
    (s.queue (s.dmaQueue c.val)).words = w :: r → w.mark = .last → w.ecc = 0 → bit ctl 18 = false →
    s.flag (Addr.hostDmaCtrl c.val) 7 = false → (s.dma c.val).head % s.dmaRing c.val + 1 < s.dmaRing c.val →
    (s.dma c.val).head < s.dmaRing c.val →
    Runs (.dmaToHostBuffer c addr ctl) s fun t =>
      (t.queue (s.dmaQueue c.val)).words = r
      ∧ t.out = .hostWrite (s.dmaStatusAt c.val) (leBytes 4 (4 + 2 ^ 16 + 2 ^ 31)) :: .hostWrite addr (leBytes 4 w.v.toNat)
          :: s.out
      ∧ t.dma c.val = { s.dma c.val with head := (s.dma c.val).head + 1 } ∧ t.mem = s.mem)
  ∧ (∀ (s : State) (c : Fin 8) (addr : Dword) (ctl : Word), s.start.logicUp = true →
    s.dmaRuns c.val false = true → s.dmaGiven c.val = true → (s.dma c.val).desc = none → descOk addr ctl = false →
    (s.dma c.val).part = false →
    Runs (.dmaToHostBuffer c addr ctl) s fun t =>
      t = { s with regs := t.regs, host := t.host } ∧ RegsBut [Addr.hostDmaStatus c.val] s t
      ∧ Noted (Addr.hostDmaStatus c.val) 1 s t ∧ (t.dma c.val).running = false ∧ (t.dma c.val).cause = 3)
  ∧ (∀ (s : State) (c : Fin 8) (addr : Dword) (ctl : Word) (v : Word), s.start.logicUp = true →
    s.dmaRuns c.val true = true → s.dmaGiven c.val = true → (s.dma c.val).desc = none → (s.dma c.val).moved = 0 →
    (s.dma c.val).head + 1 < s.dmaRing c.val →
    addr.toNat % 4 = 0 → bits ctl 0 16 = 4 → bit ctl 16 = true → bit ctl 17 = false → bit ctl 18 = true →
    s.flag (Addr.hostDmaCtrl c.val) 7 = false → s.qOpen (s.dmaQueue c.val) = true →
    s.qProducer (s.dmaQueue c.val) = sourceId .host → (s.queue (s.dmaQueue c.val)).dropping = false →
    (s.queue (s.dmaQueue c.val)).popWait = 0 →
    (s.queue (s.dmaQueue c.val)).words.length + 1 < s.qSize (s.dmaQueue c.val) → s.fault.inject.armed = false →
    Runs (.dmaToQueueBuffer c addr ctl (leBytes 4 v.toNat)) s fun t =>
      t.queue (s.dmaQueue c.val) = { s.queue (s.dmaQueue c.val) with
        words := (s.queue (s.dmaQueue c.val)).words ++ [⟨v, .last, 0⟩], part := false }
      ∧ t.out = .hostWrite (s.dmaStatusAt c.val) (leBytes 4 (4 + 2 ^ 16 + 2 ^ 31)) :: s.out
      ∧ t.dma c.val = { s.dma c.val with head := (s.dma c.val).head + 1, part := false, wait := [] }
      ∧ Noted (Addr.hostDmaStatus c.val) 0 s t ∧ t.mem = s.mem)
  ∧ (∀ (s : State) (c : Fin 8) (k : Fin 5), s.start.logicUp = true → s.dmaEn c.val = true →
    (s.dma c.val).running = true → (s.dma c.val).part = false → k ≠ 0 →
    Runs (.dmaError c k) s fun t =>
      t = { s with regs := t.regs, host := t.host } ∧ RegsBut [Addr.hostDmaStatus c.val] s t
      ∧ Noted (Addr.hostDmaStatus c.val) 1 s t
      ∧ t.dma c.val = { s.dma c.val with running := false, cause := k.val, wait := [], desc := none, moved := 0 })

/-- R471, R472, R474, R477 to R479: bus reset, address and configuration, ports, suspend, resume and remote wake. -/
def Obligations.UsbHubRuns : Prop :=
  (∀ (s : State) (control : Bool), s.start.logicUp = true → s.usb.sync ≠ .detached →
    Runs (.usbBusReset control) s fun t =>
      t = { s with usb := t.usb, regs := t.regs } ∧ RegsBut [Addr.usbEvents, Addr.usbCtrlAbortCount] s t
      ∧ t.usb.sync = .default ∧ t.usb.suspended = false ∧ t.usb.address = 0 ∧ t.usb.config = 0 ∧ t.usb.alt = 0
      ∧ t.usb.toggleOut = false ∧ t.usb.toggleIn = false ∧ t.usb.toggleHub = false ∧ t.usb.mute = s.usb.cmds.length
      ∧ t.flag Addr.usbEvents 1 = true
      ∧ (control = true → t.flag Addr.usbEvents 5 = true
          ∧ t.reg Addr.usbCtrlAbortCount = satAdd (s.reg Addr.usbCtrlAbortCount) 1))
  ∧ (∀ (s : State) (a : BitVec 7), s.usbAwake = true → s.usb.sync = .default → a ≠ 0 →
    Runs (.setAddress a) s fun t => t = { s with usb := { s.usb with address := a, sync := .addressed } })
  ∧ (∀ (s : State) (v : Byte), s.usbAwake = true → s.usb.sync = .addressed ∨ s.usb.sync = .configured →
    Runs (.setConfiguration false v) s fun t =>
      t = { s with usb := { s.usb with config := v, sync := if v = 0 then .addressed else .configured,
                                       toggleOut := false, toggleIn := false, alt := 0, nominal := 0 } })
  ∧ (∀ (s : State) (v : Byte), s.usbAwake = true → s.usb.sync = .addressed ∨ s.usb.sync = .configured →
    Runs (.setConfiguration true v) s fun t =>
      t = { s with usb := { s.usb with config := v, sync := if v = 0 then .addressed else .configured,
                                       toggleHub := false } })
  ∧ (∀ (s : State), s.usbFunction = true →
    Runs (.setInterface 2 1) s fun t =>
      t = { s with usb := { s.usb with alt := 1, nominal := s.angle.freq.toNat * s.audSpc } })
  ∧ (∀ (s : State), s.usbFunction = true →
    Runs (.setInterface 2 0) s fun t => t = { s with usb := { s.usb with alt := 0, nominal := 0 } })
  ∧ (∀ (s : State), s.usbFunction = true →
    Runs (.setInterface 0 0) s fun t => t = { s with usb := { s.usb with toggleOut := false, toggleIn := false } })
  ∧ (∀ (s : State), s.usbAwake = true →
    Runs (.clearFeatureEndpointHalt false 0x01) s fun t =>
      t = { s with usb := { s.usb with toggleOut := false, haltOut := false } })
  ∧ (∀ (s : State), s.usbAwake = true →
    Runs (.clearFeatureEndpointHalt false 0x81) s fun t =>
      t = { s with usb := { s.usb with toggleIn := false, haltIn := false } })
  ∧ (∀ (s : State), s.usbAwake = true →
    Runs (.clearFeatureEndpointHalt true 0x81) s fun t =>
      t = { s with usb := { s.usb with toggleHub := false, haltHub := false } })
  ∧ (∀ (s : State) (p : Fin 3), s.usbAwake = true → s.usbPortEn p.val = true →
    Runs (.portFeatureRequest p true .power) s fun t =>
      t = s.setUsbPort p.val { s.usbPort p.val with vbus := true })
  ∧ (∀ (s : State) (p : Fin 3), s.usbAwake = true → s.usbPortEn p.val = true → (s.usbPort p.val).sync = .disabled →
    Runs (.portFeatureRequest p true .reset) s fun t =>
      t = s.setUsbPort p.val { s.usbPort p.val with resetting := true })
  ∧ (∀ (s : State) (p : Fin 3), s.usbAwake = true → s.usbPortEn p.val = true → (s.usbPort p.val).sync = .enabled →
    Runs (.portFeatureRequest p false .enable) s fun t =>
      t = s.setUsbPort p.val { s.usbPort p.val with sync := .disabled })
  ∧ (∀ (s : State) (p : Fin 3), s.usbAwake = true → s.usbPortEn p.val = true → (s.usbPort p.val).sync = .enabled →
    Runs (.portFeatureRequest p true .suspend) s fun t =>
      t = s.setUsbPort p.val { s.usbPort p.val with sync := .suspended })
  ∧ (∀ (s : State) (p : Fin 3), s.usbAwake = true → s.usbPortEn p.val = true → (s.usbPort p.val).sync = .suspended →
    Runs (.portFeatureRequest p false .suspend) s fun t =>
      t = s.setUsbPort p.val { s.usbPort p.val with resuming := true })
  ∧ (∀ (s : State) (p : Fin 3), s.start.logicUp = true → s.usb.sync ≠ .detached → s.usbPortEn p.val = true →
    (s.usbPort p.val).vbus = true → (s.usbPort p.val).sync = .powered →
    Runs (.usbPortConnectDebounced p) s fun t =>
      t = s.setUsbPort p.val { s.usbPort p.val with sync := .disabled, cConnection := true })
  ∧ (∀ (s : State) (p : Fin 3), s.start.logicUp = true → (s.usbPort p.val).resetting = true →
    Runs (.usbPortResetEnd p) s fun t =>
      t = s.setUsbPort p.val { s.usbPort p.val with sync := .enabled, resetting := false, cReset := true })
  ∧ (∀ (s : State) (p : Fin 3), s.start.logicUp = true → (s.usbPort p.val).resuming = true →
    Runs (.usbPortResumeEnd p) s fun t =>
      t = s.setUsbPort p.val { s.usbPort p.val with sync := .enabled, resuming := false, cSuspend := true })
  ∧ (∀ (s : State) (p : Fin 3), s.start.logicUp = true → p ≠ 0 → s.usb.ports.length = 3 →
    Runs (.usbOvercurrent p) s fun t =>
      t = { s with usb := t.usb, regs := t.regs } ∧ RegsBut [Addr.usbEvents] s t ∧ Noted Addr.usbEvents 7 s t
      ∧ (t.usbPort p.val).vbus = false ∧ (t.usbPort p.val).cOverCurrent = true
      ∧ ∀ k, k ≠ p.val → t.usbPort k = s.usbPort k)
  ∧ (∀ (s : State) (p : Fin 3), s.start.logicUp = true → p ≠ 0 →
    Runs (.usbPortDisconnect p) s fun t => t = s.usbPowered p.val (s.usbPort p.val).vbus)
  ∧ (∀ (s : State) (p : Fin 3), s.start.logicUp = true → p ≠ 0 → (s.usbPort p.val).sync = .enabled →
    Runs (.usbPortBabble p) s fun t =>
      t = s.setUsbPort p.val { s.usbPort p.val with sync := .disabled, cEnable := true })
  ∧ (∀ (s : State) (rw : Bool), s.usbAwake = true → s.usb.ports.length = 3 →
    Runs (.usbSuspend rw) s fun t =>
      t = { s with usb := t.usb, regs := t.regs } ∧ RegsBut [Addr.usbEvents] s t ∧ Noted Addr.usbEvents 2 s t
      ∧ t.usb = { s.usb with suspended := true, remoteWake := rw, suspendAt := s.clock, wakeAt := none, ports := t.usb.ports }
      ∧ ∀ k, k < 3 → t.usbPort k
          = if (s.usbPort k).sync = .enabled then { s.usbPort k with sync := .suspended } else s.usbPort k)
  ∧ (∀ (s : State), s.start.logicUp = true → s.usb.suspended = true → s.usb.wakeAt = none →
    Runs .usbHostResume s fun t =>
      t = { s with usb := { s.usb with suspended := false }, regs := t.regs }
      ∧ RegsBut [Addr.usbEvents] s t ∧ Noted Addr.usbEvents 3 s t)
  ∧ (∀ (s : State) (k : Nat), s.start.logicUp = true → s.usb.suspended = true → s.usb.wakeAt = some k → s.clock ≤ k →
    Runs .usbHostResume s fun t =>
      t = { s with usb := { s.usb with suspended := false, wakeAt := none }, regs := t.regs }
      ∧ RegsBut [Addr.usbEvents] s t ∧ t.flag Addr.usbEvents 3 = true ∧ t.flag Addr.usbEvents 4 = true)
  ∧ (∀ (s : State) (p : Fin 3), s.start.logicUp = true → p ≠ 0 → (s.usbPort p.val).sync = .suspended →
    s.usb.suspended = true → s.usb.remoteWake = true → s.usb.wakeAt = none →
    Runs (.usbPortDeviceResume p) s fun t =>
      t = (s.setUsbPort p.val { s.usbPort p.val with resuming := true }).setUsb { t.usb with
            wakeAt := some (max s.clock (s.usb.suspendAt + periods5ms)) }
      ∧ t.usb.suspended = true)
  ∧ (∀ (s : State) (audio : Bool), s.start.logicUp = true → s.usb.suspended = true → s.usb.remoteWake = true →
    s.usb.wakeAt = none →
    (if audio = true then s.flag Addr.usbCtrl 4 && s.qAvail (s.field Addr.usbAudCtrl 0 6)
      else s.flag Addr.usbCtrl 3 && s.flag Addr.faultEvents 0) = true →
    Runs (.usbRemoteWakeRequest audio) s fun t =>
      t = { s with usb := { s.usb with wakeAt := some (max s.clock (s.usb.suspendAt + periods5ms)) } })
  ∧ (∀ (s : State), s.start.logicUp = true →
    Runs .usbRemoteWakeKEnd s fun t => t = { s with usb := { s.usb with wakeAt := none } })

/-- R473, R475, R476: vendor commands are carried out in order and answered, and the audio endpoints send. -/
def Obligations.UsbFunctionRuns : Prop :=
  (∀ (s : State) (tag : Byte) (a : Word) (b : Block) (o : Nat), s.usbFunction = true → s.usb.cmds = [] →
    s.usb.mute = 0 → s.ready .usb a.toNat false = true → locate a.toNat = some (b, o) → plainBlock b = true →
    s.stagedAt .usb a.toNat = none → s.shadowAt .usb a.toNat = none → lowWordRead a.toNat = false →
    Runs (.usbRead 0x01 tag 1 a) s fun t =>
      t = { s with free := s.free + 1, usb := t.usb,
                   out := .usbReply [word (0x01 + tag.toNat * 2 ^ 8), Config.freeWord s.free, s.viewReg .usb b a.toNat] :: s.out }
      ∧ t.usb.cmds = [])
  ∧ (∀ (s : State) (op tag : Byte) (len : Half) (a : Word), s.usbFunction = true → s.usb.cmds = [] → s.usb.mute = 0 →
    op = 0x01 ∧ (len = 0 ∨ 1024 < len.toNat) ∨ op ∉ [0x01, 0x02, 0x03, 0x10, 0x20, 0x21] →
    Runs (.usbRead op tag len a) s fun t =>
      t = { s with free := s.free + 1, usb := t.usb,
                   out := .usbReply [word (op.toNat + tag.toNat * 2 ^ 8 + 3 * 2 ^ 16), Config.freeWord s.free] :: s.out })
  ∧ (∀ (s : State) (tag : Byte) (a v : Word) (b : Block) (o : Nat) (r : RegRow), s.usbFunction = true →
    s.usb.cmds = [] → s.usb.mute = 0 → s.ready .usb a.toNat true = true → locate a.toNat = some (b, o) →
    plainBlock b = true → regRow a.toNat = some r →
    Runs (.usbWrite tag 1 a [v]) s fun t =>
      RegsBut [a.toNat] s t ∧ t.reg a.toNat = v &&& BitVec.ofNat 32 r.mask ∧ t.mem = s.mem
      ∧ t.out = .usbReply [word (0x02 + tag.toNat * 2 ^ 8), Config.freeWord s.free] :: s.out)
  ∧ (∀ (s : State) (tag : Byte) (a v : Word) (k : Nat), s.usbFunction = true → s.usb.cmds = [] → s.usb.mute = 0 →
    s.accessKind .usb a.toNat 4 true = some k → s.usbHeld a.toNat = false →
    Runs (.usbWrite tag 1 a [v]) s fun t =>
      t.reg Addr.regifBerrCount = satAdd (s.reg Addr.regifBerrCount) 1 ∧ t.mem = s.mem
      ∧ t.out = .usbReply [word (0x02 + tag.toNat * 2 ^ 8 + 2 ^ 16), a] :: s.out)
  ∧ (∀ (s : State) (tag : Byte) (v : Word), s.usbFunction = true → s.usb.cmds = [] → s.usb.mute = 0 →
    s.ready .usb Addr.bootLock true = true → s.ready .usb (Addr.bootLock + 4) true = true →
    (s.guard Addr.bootLock).armed = none →
    Runs (.usbPairedWrite tag 2 (word Addr.bootLock) [v, ~~~ v]) s fun t =>
      t.reg Addr.bootLock = v &&& 1 ∧ Committed Addr.bootLock s t ∧ RegsBut [Addr.bootLock] s t
      ∧ t.out = .usbReply [word (0x03 + tag.toNat * 2 ^ 8), Config.freeWord s.free] :: s.out)
  ∧ (∀ (s : State) (tag : Byte) (arg : Word), s.usbFunction = true → s.usb.cmds = [] → s.usb.mute = 0 →
    bit arg 16 = false →
    Runs (.faultRead tag 1 arg) s fun t =>
      t = { s with free := s.free + 1, usb := t.usb,
                   out := .usbReply
                     (word (0x10 + tag.toNat * 2 ^ 8) :: Config.freeWord s.free :: s.reg (Addr.faultHistNum (bits arg 0 5))
                       :: (List.range 4).map fun k => s.reg (Addr.faultHist (bits arg 0 5) k)) :: s.out })
  ∧ (∀ (s : State) (tag : Byte) (arg : Word), s.usbFunction = true → s.usb.cmds = [] → s.usb.mute = 0 →
    bit arg 16 = true →
    Runs (.faultRead tag 1 arg) s fun t =>
      t = { s with free := s.free + 1, usb := t.usb,
                   out := .usbReply
                     (word (0x10 + tag.toNat * 2 ^ 8) :: Config.freeWord s.free :: s.reg (Addr.cometFaultNum (bits arg 0 4))
                       :: (List.range 4).map fun k => s.reg (Addr.cometFault (bits arg 0 4) k)) :: s.out })
  ∧ (∀ (s : State) (tag : Byte) (off v : Word), s.usbFunction = true → s.usb.cmds = [] → s.usb.bootWait = false →
    s.ready .usb Addr.bootCmd true = true → (s.guard Addr.bootCmd).armed = none → s.boot.sync = .receiving →
    s.boot.owner = some .usb → bits off 0 27 + 4 ≤ s.slotSize → bits off 0 2 = 0 →
    Runs (.imageBlock tag 1 off [v]) s fun t =>
      t.boot = { s.boot with sync := .busy, job := 2, next := .receiving, was := .receiving, since := s.now } ∧ t.usb.bootWait = true
      ∧ t.usb.cmds = [⟨0x20, tag, 1, off, [v], true, []⟩] ∧ t.reg (Addr.bootXferBuf 0) = v
      ∧ t.mem = Memory.writeBytes s.mem (flashBase + s.stagingSlot + bits off 0 27) ((leBytes 4 v.toNat).map fun b => ~~~ b)
      ∧ t.out = s.out)
  ∧ (∀ (s : State) (tag : Byte) (arg : Word), s.usbFunction = true → s.usb.cmds = [] →
    s.usb.bootWait = false → s.ready .usb Addr.bootCmd true = true → (s.guard Addr.bootCmd).armed = none →
    bits arg 0 3 = 4 → s.boot.sync ≠ .busy → s.boot.owner = some .usb →
    Runs (.imageCmd tag 0 arg) s fun t =>
      t.boot = { s.boot with sync := .busy, job := 4, next := .idle, was := s.boot.sync, since := s.now } ∧ t.usb.bootWait = true
      ∧ t.usb.cmds = [⟨0x21, tag, 0, arg, [], true, []⟩] ∧ t.mem = s.mem ∧ t.out = s.out)
  ∧ (∀ (s : State) (tag : Byte) (arg : Word), s.usbFunction = true → s.usb.cmds = [] → s.usb.mute = 0 →
    s.usb.bootWait = false → s.ready .usb Addr.bootCmd true = true → (s.guard Addr.bootCmd).armed = none →
    bits arg 0 3 = 4 → s.boot.sync = .idle → s.boot.owner = none →
    Runs (.imageCmd tag 0 arg) s fun t =>
      t.boot = { s.boot with result := 2 } ∧ t.usb.cmds = [] ∧ t.mem = s.mem
      ∧ t.out = .usbReply [word (0x21 + tag.toNat * 2 ^ 8 + 2 * 2 ^ 16), t.bootStatus] :: s.out)
  ∧ (∀ (s : State), s.usbFunction = true → s.usb.alt = 0 ∨ s.qConsumer (s.field Addr.usbAudCtrl 0 6) ≠ sourceId .usb →
    Runs .audioInTransfer s fun t => t = { s with out := .usbAudio [] :: s.out })
  ∧ (∀ (s : State) (q : Nat) (w : QWord), s.usbFunction = true → s.usb.alt = 1 → q = s.field Addr.usbAudCtrl 0 6 →
    s.qConsumer q = sourceId .usb → s.qAvail q = true → (s.queue q).words = [w] → w.mark = .last → w.ecc = 0 →
    s.audChannels = 1 →
    Runs .audioInTransfer s fun t =>
      t = { s with queues := t.queues, out := .usbAudio (leBytes 3 w.v.toNat) :: s.out } ∧ (t.queue q).words = [])
  ∧ (∀ (s : State), s.usbFunction = true → s.usb.alt = 1 →
    Runs .audioFeedbackTransfer s fun t => t = { s with out := .usbFeedback s.usbFb :: s.out })
  ∧ (∀ (s : State) (tag : Byte) (len : Half) (arg : Word), s.usbFunction = true → s.usb.cmds = [] → s.usb.mute = 0 →
    len ≠ 0 →
    Runs (.imageCmd tag len arg) s fun t =>
      t = { s with free := s.free + 1, usb := t.usb,
                   out := .usbReply [word (0x21 + tag.toNat * 2 ^ 8 + 3 * 2 ^ 16), Config.freeWord s.free] :: s.out })

/-- The block's queue: a step takes the command at the front of the queue and runs it with the queue's rest. On an empty
queue, which no rule of the spec speaks of, one CORE period passes (the model's choice, log entry 6). -/
def Obligations.StepRunsTheFrontCommand : Prop :=
  (∀ (s : State) (c : Instr) (r : List Instr), s.pending = c :: r → step s = exec c { s with pending := r })
  ∧ (∀ (s : State), s.pending = [] → s.bridge.edge = [] → s.bridge.mem = [] → s.bridge.memBlocked = [] →
    s.start.logicUp = true →
    ∃ t, step s = .next t ∧ t = { s with clock := s.clock + 1, frc := s.frc + 1, comet := t.comet })

/-- No command stops the hub: each one of the table, in every state, leads to a next state, and so does an empty queue.
The spec gives every command an effect, and no command a stop. -/
def Obligations.EveryStepAnswersANextState : Prop :=
  ∀ (s : State), ∃ t, step s = .next t

/-- What the registers of the map show the host right after reset: every register of one instance, and the first of each
family, whose Reset column in chapters 1 to 22 is not 0. The state behind them (R83, R87, R224, R337, R349): no command
waits, memory lists nothing, FRC and OFFSET are 0, time runs free, the ring is DOWN, the pair role OFF, no fault waits. -/
def Obligations.ResetValues : Prop :=
  (∀ p ∈ ([
      (0x000028, 0x0000_0200), (0x010000, 0x0640_0001), (0x020008, 0x0000_00A5), (0x02000C, 0x0001_86A0),
      (0x020010, 0x0000_003C), (0x020018, 0x0000_0001), (0x020130, 0xFFFF_FFFF), (0x030000, 0x0400_0001),
      (0x030018, 0x0000_0300), (0x03001C, 0x0000_FFFF), (0x030020, 0x0432_03E8), (0x03006C, 0x0000_0025),
      (0x030084, 0x0000_0640), (0x040000, 0x0440_0001), (0x040020, 0x0012_3456), (0x040058, 0x0000_0FA0),
      (0x050000, 0x0480_0000), (0x050018, 0x0000_0140), (0x101124, 0x0000_0100), (0x101128, 0x0000_FF00),
      (0x10112C, 0x0000_0100), (0x104818, 0x0000_000C), (0x10481C, 0x0000_0100), (0x104820, 0x0000_0A00),
      (0x110020, 0x0000_0001), (0x115018, 0x0000_0001), (0x11501C, 0x0000_0100), (0x115028, 0x0000_0001),
      (0x200018, 0x0000_0005), (0x20001C, 0x0000_00FF), (0x200020, 0x0000_01F4), (0x200024, 0x0000_0002),
      (0x200028, 0x0000_0064), (0x200100, 0x0A05_0A00), (0x230000, 0x0240_0000), (0x230018, 0x0100_00FF),
      (0x230024, 0x0000_0064), (0x230028, 0x0000_00FF), (0x23002C, 0x0000_FF00), (0x230044, 0x0000_00FF),
      (0x230404, 0x0000_00FF), (0x240000, 0x0280_0000), (0x240014, 0x0000_0100), (0x240018, 0x0000_0032),
      (0x24001C, 0x0000_03E8), (0x240020, 0x0000_03E8), (0x240024, 0x0064_0002), (0x240028, 0x0000_000A),
      (0x280300, 0x0190_0000), (0x290200, 0x0000_FF00), (0x29020C, 0x000F_4240), (0x290210, 0x0000_0001),
      (0x290220, 0x0000_00FF), (0x300000, 0x02C0_0000), (0x300018, 0x0090_000F), (0x300020, 0x0001_4000),
      (0x300104, 0x0093_0100), (0x300414, 0x00FF_FFFF), (0x30204C, 0x0000_0001), (0x310000, 0x0300_0000),
      (0x4A0000, 0x0340_0000), (0x4A0024, 0x0000_0001), (0x4A0080, 0x00FA_C688), (0x4A0414, 0xFFFF_FFFF),
      (0x800134, 0x0000_0003), (0x804000, 0x0000_0008), (0x804004, 0x0000_0064), (0x804008, 0x0000_9C3F),
      (0x900000, 0x0680_0000), (0x900018, 0x0000_FF02), (0x900020, 0x0000_140A), (0x90002C, 0x0064_0A00),
      (0xA00044, 0x0000_0032), (0xA00118, 0x0000_2004), (0xA00458, 0x0000_8773), (0xA01120, 0x0004_0600),
      (0xA01124, 0x00FA_03E8), (0xA01128, 0x00A0_2710), (0xA0112C, 0x07D0_03E8), (0xA01130, 0x0000_2710),
      (0xB00000, 0x0600_0001), (0xB00024, 0x0000_1000), (0xB00028, 0x0000_07D0), (0xB00038, 0x0000_0258),
      (0xB10000, 0x0540_0001), (0xB1022C, 0x0000_0004), (0xB20000, 0x0580_0001), (0xB20018, 0x0000_0001),
      (0xB2001C, 0x0010_07C0), (0xB30000, 0x0500_0000), (0xB30040, 0x1010_0C10), (0xB30044, 0x01A4_1227),
      (0xB30048, 0x061A_2490), (0xB30050, 0x0000_003C), (0xC00000, 0x05C0_0001), (0xC00010, 0x0000_0004),
      (0xC00018, 0x0000_0005), (0xC00630, 0xFFFF_FFFF)] : List (Nat × Word)),
    (locate p.1).map (fun b => State.reset.viewReg .host b.1 p.1) = some p.2)
  ∧ State.reset.pending = [] ∧ State.reset.mem = [] ∧ State.reset.frc = 0 ∧ State.reset.time.offset = 0
  ∧ State.reset.time.sync = .freeRun ∧ State.reset.ring.sync = .down ∧ State.reset.pair.role = .off
  ∧ State.reset.fault.msgs = [] ∧ State.reset.busy = [] ∧ State.reset.held = []

/-- R47: a write to a sequence-cleared register clears the flags of its mask when its SEQ is the register's, is counted and
logged as stale when it is not, and does nothing with mask 0. The registers of the units that an MH820-S lacks ignore it
(R2, R212, R373). -/
def Obligations.SequenceClearedWrites : Prop :=
  (∀ (s : State) (i : Initiator) (addr v : Word), s.ready i addr.toNat true = true →
    (addr.toNat ∈ sqWords ∨ ((List.range 8).any fun c => addr.toNat == Addr.hostDmaStatus c && !s.dmaEn c) = true) →
    (s.fuses.pairCapable = false → addr.toNat ≠ Addr.pairEvents ∧ addr.toNat ≠ Addr.linkEvents 2) →
    bits v 0 24 ≠ 0 → bits v 24 8 = s.field addr.toNat 24 8 →
    Runs (.sqClearWrite i addr v) s fun t =>
      t = { s.written i addr.toNat .done with regs := t.regs } ∧ RegsBut [addr.toNat] s t
      ∧ t.reg addr.toNat = s.reg addr.toNat &&& ~~~ (v &&& 0xFF_FFFF))
  ∧ (∀ (s : State) (i : Initiator) (addr v : Word), s.ready i addr.toNat true = true →
    (addr.toNat ∈ sqWords ∨ ((List.range 8).any fun c => addr.toNat == Addr.hostDmaStatus c && !s.dmaEn c) = true) →
    (s.fuses.pairCapable = false → addr.toNat ≠ Addr.pairEvents ∧ addr.toNat ≠ Addr.linkEvents 2) →
    bits v 0 24 ≠ 0 → bits v 24 8 ≠ s.field addr.toNat 24 8 →
    Runs (.sqClearWrite i addr v) s fun t =>
      t = { s.written i addr.toNat .done with regs := t.regs }
      ∧ RegsBut [Addr.regifStaleClearCount, Addr.regifStaleClearAddr] s t
      ∧ t.reg Addr.regifStaleClearCount = satAdd (s.reg Addr.regifStaleClearCount) 1
      ∧ t.reg Addr.regifStaleClearAddr = addr)
  ∧ (∀ (s : State) (i : Initiator) (addr v : Word), s.ready i addr.toNat true = true →
    (addr.toNat ∈ sqWords ∨ ((List.range 8).any fun c => addr.toNat == Addr.hostDmaStatus c && !s.dmaEn c) = true) →
    (s.fuses.pairCapable = false → addr.toNat ≠ Addr.pairEvents ∧ addr.toNat ≠ Addr.linkEvents 2) →
    bits v 0 24 = 0 →
    Runs (.sqClearWrite i addr v) s fun t => t = s.written i addr.toNat .done)
  ∧ (∀ (s : State) (i : Initiator) (addr v : Word), s.ready i addr.toNat true = true → s.fuses.pairCapable = false →
    (addr.toNat = Addr.pairEvents ∨ addr.toNat = Addr.linkEvents 2) →
    Runs (.sqClearWrite i addr v) s fun t => t = s.written i addr.toNat .done)

/-- R82: when RATE changes at FRC = c, OFFSET becomes OFFSET + c × 2.5 ns × (RATE_old − RATE_new) × 2^-40 in the same cycle,
in units of 2^-16 ns, and fabric time goes on from where it was to within one such unit. The first clause is a write of
TIME_RATE, the second any change of RATE. -/
def Obligations.RateChangesKeepFabricTime : Prop :=
  (∀ (s : State) (i : Initiator) (v : Word), s.ready i Addr.timeRate true = true → s.time.source = 0 →
    Runs (.timeRateWrite i v) s fun t =>
      t = { s.written i Addr.timeRate .done with regs := t.regs, time := t.time } ∧ RegsBut [Addr.timeRate] s t
      ∧ t.reg Addr.timeRate = v
      ∧ t.time = { s.time with
          rateF := v.toInt,
          offset := s.time.offset +
            BitVec.ofInt 80 (Int.fdiv (s.frc.toNat * 5 * ((s.reg Addr.timeRate).toInt - v.toInt)) (2 ^ 25)) }
      ∧ (t.time16 = s.time16 ∨ t.time16 = (s.time16 - 1) % 2 ^ 80))
  ∧ (∀ (s : State) (new : Int), -(2 ^ 31) ≤ new → new < 2 ^ 31 →
    (s.setRate new).rate = new
    ∧ (s.setRate new).time.offset
      = s.time.offset + BitVec.ofInt 80 (Int.fdiv (s.frc.toNat * 5 * (s.rate - new)) (2 ^ 25))
    ∧ ((s.setRate new).time16 = s.time16 ∨ (s.setRate new).time16 = (s.time16 - 1) % 2 ^ 80))

/-- R38 to R41: a write that raises a bus error of KIND k is answered with an error and changes nothing else than the bus-error
log, which holds the first error since it was cleared, the count, a fault BUS_ERROR_ACCESS, and for the host what
HOST_FENCE will show. Then the KIND of a refused register access, the lowest code first. -/
def Obligations.RefusedAccessesChangeNothing : Prop :=
  (∀ (s : State) (i : Initiator) (addr v : Word) (size k : Nat), s.accessKind i addr.toNat size true = some k →
    Runs (.registerWrite i addr size v) s fun t =>
      t = { s with
        regs := t.regs, fault := t.fault, hostFence := t.hostFence, out := .access i addr.toNat (.err k) :: s.out }
      ∧ RegsBut [Addr.regifBerrCount, Addr.regifBerrStatus, Addr.regifBerrAddrLo, Addr.regifBerrAddrHi,
          Addr.regifBerrInfo] s t
      ∧ t.reg Addr.regifBerrCount = satAdd (s.reg Addr.regifBerrCount) 1
      ∧ t.fault = (s.raise .regif .busErrorAccess k (some (fabricAddr 0 255 0 addr.toNat))).fault
      ∧ t.hostFence = (if i = .host then { s.hostFence with later := { s.hostFence.later with
          fails := min 255 (s.hostFence.later.fails + 1), localFail := true } } else s.hostFence)
      ∧ (s.flag Addr.regifBerrStatus 0 = true → Noted Addr.regifBerrStatus 1 s t
          ∧ t.reg Addr.regifBerrAddrLo = s.reg Addr.regifBerrAddrLo
          ∧ t.reg Addr.regifBerrAddrHi = s.reg Addr.regifBerrAddrHi
          ∧ t.reg Addr.regifBerrInfo = s.reg Addr.regifBerrInfo)
      ∧ (s.flag Addr.regifBerrStatus 0 = false → Noted Addr.regifBerrStatus 0 s t
          ∧ t.reg Addr.regifBerrAddrLo = addr ∧ t.reg Addr.regifBerrAddrHi = 0x0FF0
          ∧ (t.field Addr.regifBerrInfo 0 7 = k % 128) ∧ t.flag Addr.regifBerrInfo 7 = true
          ∧ t.field Addr.regifBerrInfo 8 4 = initCode i))
  ∧ (∀ (s : State) (i : Initiator) (a size : Nat) (w : Bool), size < 4 → s.accessKind i a size w = some 1)
  ∧ (∀ (s : State) (i : Initiator) (a size : Nat) (w : Bool), 4 < size → s.accessKind i a size w = some 2)
  ∧ (∀ (s : State) (i : Initiator) (a : Nat) (w : Bool), a % 4 ≠ 0 → s.accessKind i a 4 w = some 3)
  ∧ (∀ (s : State) (i : Initiator) (a : Nat) (w : Bool), a % 4 = 0 → regRow a = none → s.accessKind i a 4 w = some 4)
  ∧ (∀ (s : State) (i : Initiator) (a : Nat) (b : Block) (o : Nat) (r : RegRow), a % 4 = 0 → locate a = some (b, o) →
    regRow a = some r → s.unimplemented i b = false →
    (r.acc = .ro → s.accessKind i a 4 true = some 5) ∧ (r.acc = .wo → s.accessKind i a 4 false = some 6))
  ∧ (∀ (s : State) (i : Initiator) (a : Nat) (b : Block) (o : Nat) (r : RegRow) (u : HubUnit) (w : Bool), a % 4 = 0 →
    locate a = some (b, o) → regRow a = some r → s.unimplemented i b = false → (w = true → r.acc ≠ .ro) →
    (w = false → r.acc ≠ .wo) → blockOwner b = some u →
    s.accessKind i a 4 w = (if s.unitFenced u then some 7 else none))

/-- R404: before release the host, the USB service function, the management port and remote hubs reach the registers of
GLOBAL, REGIF, FAULT, BOOT, HOST (with its MSI-X table), USB and COMET as they do after it; an access of theirs to any
other location is a bus error of KIND 4. The other initiators are not limited. -/
def Obligations.AccessesBeforeRelease : Prop :=
  (∀ (s : State) (i : Initiator) (a : Nat) (b : Block) (o : Nat) (w : Bool), s.start.released = false →
    (i = .host ∨ i = .usb ∨ i = .mgmt ∨ initCode i = 9) → a % 4 = 0 → locate a = some (b, o) →
    (match b with
      | .global | .regif | .fault | .boot | .host | .msix _ | .pba | .usb | .comet => false
      | _ => true) = true → s.accessKind i a 4 w = some 4)
  ∧ (∀ (s : State) (i : Initiator) (addr v : Word), s.start.released = false →
    (i = .host ∨ i = .usb ∨ i = .mgmt ∨ initCode i = 9) → addr.toNat % 4 = 0 →
    (match (locate addr.toNat).map Prod.fst with
      | some .global | some .regif | some .fault | some .boot | some .host | some (.msix _) | some .pba | some .usb
      | some .comet => false
      | _ => true) = true →
    Runs (.registerWrite i addr 4 v) s fun t =>
      t.out = .access i addr.toNat (.err 4) :: s.out ∧ t.mem = s.mem
      ∧ t.reg Addr.regifBerrCount = satAdd (s.reg Addr.regifBerrCount) 1)
  ∧ (∀ (s : State) (i : Initiator) (a : Nat) (b : Block) (o : Nat) (w : Bool), s.start.released = false →
    locate a = some (b, o) →
    (match b with
      | .global | .regif | .fault | .boot | .host | .msix _ | .pba | .usb | .comet => true
      | _ => false) = true →
    s.accessKind i a 4 w = { s with start := { s.start with released := true } }.accessKind i a 4 w)
  ∧ (∀ (s : State) (i : Initiator) (a : Nat) (w : Bool), s.start.released = false →
    (i ≠ .host ∧ i ≠ .usb ∧ i ≠ .mgmt ∧ initCode i ≠ 9) →
    s.accessKind i a 4 w = { s with start := { s.start with released := true } }.accessKind i a 4 w)

/-- R425: only the host writes PROTECTION_ACTIVE; a write of another initiator, by either command that writes a register,
leaves it as it was; and after a logic power-on reset it is 0. -/
def Obligations.ProtectionActiveIsTheHosts : Prop :=
  (∀ (s : State) (v : Word), s.ready .host Addr.bootProtect true = true →
    Runs (.bootProtectWrite .host v) s fun t =>
      t = { s.written .host Addr.bootProtect .done with regs := t.regs } ∧ RegsBut [Addr.bootProtect] s t
      ∧ t.flag Addr.bootProtect 0 = bit v 0)
  ∧ (∀ (s : State) (i : Initiator) (v : Word), i ≠ .host →
    Runs (.bootProtectWrite i v) s fun t => t.reg Addr.bootProtect = s.reg Addr.bootProtect)
  ∧ (∀ (s : State) (i : Initiator) (v : Word), i ≠ .host →
    Runs (.registerWrite i 0x00B0_002C 4 v) s fun t => t.reg Addr.bootProtect = s.reg Addr.bootProtect)
  ∧ (∀ (s : State), s.comet.power ≠ .hibernate →
    Runs .logicSupplyLoss s fun t => t.flag Addr.bootProtect 0 = false)
  ∧ (∀ (s : State), s.comet.power ≠ .hibernate →
    Runs .resetNAssert s fun t => t.flag Addr.bootProtect 0 = false)
  ∧ (∀ (s : State) (c : Nat), (s.logicReset c).flag Addr.bootProtect 0 = false)

/-- R152, R156, R312 to R318: every instruction that the sequencers and the service cores have, with every operand at every
value that its encoding admits, decodes back from the word that it is encoded in; and a word that a sequencer decodes is
the word of its instruction, so that no two words spell one. -/
def Obligations.CodeWordsRoundTrip : Prop :=
  (∀ (i : PInstr), i.wf = true → decodeP (encodeP i) = some i)
  ∧ (∀ (w : Half) (i : PInstr), decodeP w = some i → encodeP i = w ∧ i.wf = true)
  ∧ (∀ (i : SInstr), i.wf = true → decodeS (encodeS i) = some i)
  ∧ (∀ (w : Word) (i : SInstr), decodeS w = some i → i.wf = true)

/-- The canonical form of memory (log entry 1) is kept by every step: addresses rise strictly and no listed byte is the one
that an unlisted address reads as, so that equal memories are equal data. -/
def Obligations.MemoryStaysCanonical : Prop :=
  ∀ (s t : State), Memory.wf s.mem = true → step s = .next t → Memory.wf t.mem = true

/-- Memory has its canonical form at reset (log entry 1). -/
def Obligations.ResetMemoryIsCanonical : Prop := Memory.wf State.reset.mem = true
end

