-- ==== Sys2Proof/Laws/Store.lean ====
section
/-! SUPPORT. The laws of sparse data: a read after a write, and that every write keeps the canonical form. -/

namespace Sys2Proof.Machine

variable {α : Type}

theorem Store.get_erase (d : α) (m : Store α) (a b : Nat) :
    Store.get d (Store.erase m a) b = if b = a then d else Store.get d m b := by
  induction m with
  | nil => simp [Store.erase, Store.get]
  | cons e r ih =>
    obtain ⟨k, v⟩ := e
    by_cases hk : k = a
    · subst hk
      have : Store.erase ((k, v) :: r) k = Store.erase r k := by simp [Store.erase]
      rw [this, ih]; by_cases hb : b = k <;> simp [hb, Store.get]
    · have : Store.erase ((k, v) :: r) a = (k, v) :: Store.erase r a := by simp [Store.erase, hk]
      rw [this]; by_cases hb : b = k
      · subst hb; simp [Store.get, hk]
      · simp [Store.get, hb, ih]

theorem Store.get_insert (d : α) (m : Store α) (a b : Nat) (x : α) (h : ∀ e ∈ m, e.1 ≠ a) :
    Store.get d (Store.insert m a x) b = if b = a then x else Store.get d m b := by
  induction m with
  | nil => by_cases hb : b = a <;> simp [Store.insert, Store.get, hb]
  | cons e r ih =>
    obtain ⟨k, v⟩ := e
    have hk : k ≠ a := h (k, v) (by simp)
    have ih := ih fun e he => h e (by simp [he])
    unfold Store.insert
    split
    · by_cases hb : b = a <;> simp [Store.get, hb]
    · by_cases hb : b = k
      · subst hb; simp [Store.get, hk]
      · simp [Store.get, hb, ih]

/-- A read after a write, at the same key and at any other. -/
@[simp] theorem Store.get_put [DecidableEq α] (d : α) (m : Store α) (a b : Nat) (x : α) :
    Store.get d (Store.put d m a x) b = if b = a then x else Store.get d m b := by
  unfold Store.put
  split
  · subst_vars; rw [Store.get_erase]
  · rw [Store.get_insert, Store.get_erase]
    · split <;> rfl
    · intro e he; simp [Store.erase] at he; exact he.2

/-- The same for keys of other unlisted values. -/
theorem Store.get_put_of_ne [DecidableEq α] (d d' : α) (m : Store α) (a b : Nat) (x : α) (h : b ≠ a) :
    Store.get d (Store.put d' m a x) b = Store.get d m b := by
  unfold Store.put
  split
  · rw [Store.get_erase, if_neg h]
  · rw [Store.get_insert, Store.get_erase, if_neg h, if_neg h]
    intro e he; simp [Store.erase] at he; exact he.2

theorem Store.wfFrom_weaken [DecidableEq α] (d : Nat → α) (m : Store α) {lo : Option Nat} {l : Nat}
    (h : Store.wfFrom d (some l) m = true) (hl : ∀ k, lo = some k → k ≤ l) : Store.wfFrom d lo m = true := by
  cases m with
  | nil => rfl
  | cons e r =>
    obtain ⟨k, v⟩ := e
    simp only [Store.wfFrom, Bool.and_eq_true, decide_eq_true_eq] at h ⊢
    refine ⟨⟨?_, h.1.2⟩, h.2⟩
    cases lo with
    | none => rfl
    | some j => have := hl j rfl; simp; omega

/-- Leaving entries out keeps the canonical form. -/
theorem Store.wfFrom_filter [DecidableEq α] (d : Nat → α) (p : Nat × α → Bool) (m : Store α) :
    ∀ lo, Store.wfFrom d lo m = true → Store.wfFrom d lo (m.filter p) = true := by
  induction m with
  | nil => intro lo _; rfl
  | cons e r ih =>
    intro lo h
    obtain ⟨k, v⟩ := e
    simp only [Store.wfFrom, Bool.and_eq_true, decide_eq_true_eq] at h
    by_cases hp : p (k, v)
    · simp only [List.filter_cons, hp, if_true, Store.wfFrom, Bool.and_eq_true, decide_eq_true_eq]
      exact ⟨h.1, ih _ h.2⟩
    · simp only [List.filter_cons, hp]
      refine Store.wfFrom_weaken d _ (ih _ h.2) ?_
      intro j hj
      subst hj
      have := h.1.1
      simp at this
      omega

theorem Store.wf_filter [DecidableEq α] (d : Nat → α) (p : Nat × α → Bool) (m : Store α) (h : Store.wf d m = true) :
    Store.wf d (m.filter p) = true := Store.wfFrom_filter d p m none h

theorem Store.wfFrom_insert [DecidableEq α] (d : Nat → α) (a : Nat) (x : α) (hx : x ≠ d a) (m : Store α)
    (hm : ∀ e ∈ m, e.1 ≠ a) :
    ∀ lo, (∀ k, lo = some k → k < a) → Store.wfFrom d lo m = true → Store.wfFrom d lo (Store.insert m a x) = true := by
  induction m with
  | nil =>
    intro lo hlo _
    cases lo with
    | none => simp [Store.insert, Store.wfFrom, hx]
    | some k => simp [Store.insert, Store.wfFrom, hx, hlo k rfl]
  | cons e r ih =>
    intro lo hlo h
    obtain ⟨k, v⟩ := e
    have hk : k ≠ a := hm (k, v) (by simp)
    simp only [Store.wfFrom, Bool.and_eq_true, decide_eq_true_eq] at h
    unfold Store.insert
    split
    · rename_i hak
      simp only [Store.wfFrom, Bool.and_eq_true, decide_eq_true_eq]
      refine ⟨⟨?_, hx⟩, ⟨hak, h.1.2⟩, h.2⟩
      cases lo with
      | none => rfl
      | some j => simpa using hlo j rfl
    · rename_i hak
      simp only [Store.wfFrom, Bool.and_eq_true, decide_eq_true_eq]
      refine ⟨h.1, ih (fun e he => hm e (by simp [he])) _ ?_ h.2⟩
      intro j hj
      injection hj with hj
      omega

/-- A write keeps the canonical form. -/
theorem Store.wf_put [DecidableEq α] (d : Nat → α) (m : Store α) (a : Nat) (x : α) (h : Store.wf d m = true) :
    Store.wf d (Store.put (d a) m a x) = true := by
  unfold Store.put
  split
  · exact Store.wf_filter d _ m h
  · rename_i hx
    refine Store.wfFrom_insert d a x hx _ ?_ none (by simp) (Store.wf_filter d _ m h)
    intro e he
    simp [Store.erase] at he
    exact he.2

/-- A byte read after a byte written. -/
@[simp] theorem Memory.byte_setByte (m : Memory) (a b : Nat) (x : Byte) :
    Memory.byte (Memory.setByte m a x) b = if b = a then x else Memory.byte m b := by
  simp [Memory.byte, Memory.setByte]

theorem Memory.wf_setByte (m : Memory) (a : Nat) (x : Byte) (h : Memory.wf m = true) :
    Memory.wf (Memory.setByte m a x) = true := Store.wf_put (fun _ => (0 : Byte)) m a x h

theorem Memory.wf_filter (p : Host.Cell → Bool) (m : Memory) (h : Memory.wf m = true) :
    Memory.wf (m.filter p) = true := Store.wf_filter _ p m h

theorem Memory.wf_write (n : Nat) : ∀ (m : Memory) (a v : Nat), Memory.wf m = true →
    Memory.wf (Memory.write m a n v) = true := by
  induction n with
  | zero => intro m a v h; exact h
  | succ n ih => intro m a v h; exact ih _ _ _ (Memory.wf_setByte m a _ h)

theorem Memory.wf_setWord (m : Memory) (a : Nat) (v : Word) (h : Memory.wf m = true) :
    Memory.wf (Memory.setWord m a v) = true := Memory.wf_write 4 m a _ h

theorem Memory.wf_writeBytes (bs : List Byte) : ∀ (m : Memory) (a : Nat), Memory.wf m = true →
    Memory.wf (Memory.writeBytes m a bs) = true := by
  induction bs with
  | nil => intro m a h; exact h
  | cons b r ih => intro m a h; exact ih _ _ (Memory.wf_setByte m a b h)

/-- Bytes outside those that a write of `n` bytes stores read as before. -/
theorem Memory.byte_write (n : Nat) : ∀ (m : Memory) (a v b : Nat), b < a ∨ a + n ≤ b →
    Memory.byte (Memory.write m a n v) b = Memory.byte m b := by
  induction n with
  | zero => intro m a v b _; rfl
  | succ n ih =>
    intro m a v b h
    rw [Memory.write, ih _ _ _ _ (by omega), Memory.byte_setByte, if_neg (by omega)]

/-- What `n` bytes written read as. -/
theorem Memory.read_write (n : Nat) : ∀ (m : Memory) (a v : Nat),
    Memory.read (Memory.write m a n v) a n = v % 256 ^ n := by
  induction n with
  | zero => intro m a v; simp [Memory.read, Nat.mod_one]
  | succ n ih =>
    intro m a v
    rw [Memory.write, Memory.read, Memory.byte_write _ _ _ _ _ (by omega), Memory.byte_setByte, if_pos rfl, ih]
    rw [Nat.pow_succ, Nat.mul_comm (256 ^ n), Nat.mod_mul]
    simp

/-- A word read after it was written. -/
@[simp] theorem Memory.word_setWord (m : Memory) (a : Nat) (v : Word) : Memory.word (Memory.setWord m a v) a = v := by
  have h := v.isLt
  simp only [Memory.word, Memory.setWord, Memory.read_write]
  apply BitVec.eq_of_toNat_eq
  simp
  omega

/-- A word that a word written does not touch reads as before. -/
theorem Memory.word_setWord_other (m : Memory) (a b : Nat) (v : Word) (h : b + 4 ≤ a ∨ a + 4 ≤ b) :
    Memory.word (Memory.setWord m a v) b = Memory.word m b := by
  simp only [Memory.word, Memory.setWord, Memory.read]
  rw [Memory.byte_write _ _ _ _ _ (by omega), Memory.byte_write _ _ _ _ _ (by omega),
    Memory.byte_write _ _ _ _ _ (by omega), Memory.byte_write _ _ _ _ _ (by omega)]

end Sys2Proof.Machine
end

