-- ==== Sys2Proof/Laws/State.lean ====
section
/-! SUPPORT. What each update of the state leaves alone, and what it sets. -/

namespace Sys2Proof.Machine

variable (s : State)

@[simp] theorem State.setReg_fields (k : Nat) (v : Word) :
    (s.setReg k v).frc = s.frc ∧ (s.setReg k v).clock = s.clock ∧ (s.setReg k v).mem = s.mem ∧
    (s.setReg k v).pending = s.pending ∧ (s.setReg k v).out = s.out ∧ (s.setReg k v).free = s.free ∧
    (s.setReg k v).shadows = s.shadows ∧ (s.setReg k v).staged = s.staged ∧ (s.setReg k v).guards = s.guards ∧
    (s.setReg k v).busy = s.busy ∧ (s.setReg k v).held = s.held ∧ (s.setReg k v).cfg = s.cfg ∧
    (s.setReg k v).image = s.image ∧ (s.setReg k v).fences = s.fences ∧ (s.setReg k v).fenceCounts = s.fenceCounts ∧
    (s.setReg k v).hostFence = s.hostFence ∧ (s.setReg k v).fault = s.fault ∧ (s.setReg k v).dieLink = s.dieLink ∧
    (s.setReg k v).time = s.time ∧ (s.setReg k v).tins = s.tins ∧ (s.setReg k v).ptp = s.ptp ∧
    (s.setReg k v).angle = s.angle ∧ (s.setReg k v).links = s.links ∧ (s.setReg k v).bypass = s.bypass ∧
    (s.setReg k v).ring = s.ring ∧ (s.setReg k v).bridge = s.bridge ∧ (s.setReg k v).ephem = s.ephem ∧
    (s.setReg k v).pins = s.pins ∧ (s.setReg k v).banks = s.banks ∧ (s.setReg k v).engines = s.engines ∧
    (s.setReg k v).cans = s.cans ∧ (s.setReg k v).canWakes = s.canWakes ∧ (s.setReg k v).uarts = s.uarts ∧
    (s.setReg k v).sw = s.sw ∧ (s.setReg k v).policers = s.policers ∧ (s.setReg k v).shapers = s.shapers ∧
    (s.setReg k v).stas = s.stas ∧ (s.setReg k v).prp = s.prp ∧ (s.setReg k v).cores = s.cores ∧
    (s.setReg k v).ecc = s.ecc ∧ (s.setReg k v).queues = s.queues ∧ (s.setReg k v).dram = s.dram ∧
    (s.setReg k v).pair = s.pair ∧ (s.setReg k v).mramEpochs = s.mramEpochs ∧ (s.setReg k v).power = s.power ∧
    (s.setReg k v).start = s.start ∧ (s.setReg k v).comet = s.comet ∧ (s.setReg k v).cache = s.cache ∧
    (s.setReg k v).fuses = s.fuses ∧ (s.setReg k v).boot = s.boot ∧ (s.setReg k v).host = s.host ∧
    (s.setReg k v).mgmt = s.mgmt ∧ (s.setReg k v).usb = s.usb :=
  ⟨rfl, rfl, rfl, rfl, rfl, rfl, rfl, rfl, rfl, rfl, rfl, rfl, rfl, rfl, rfl, rfl, rfl, rfl, rfl, rfl, rfl, rfl,
  rfl, rfl, rfl, rfl, rfl, rfl, rfl, rfl, rfl, rfl, rfl, rfl, rfl, rfl, rfl, rfl, rfl, rfl, rfl, rfl, rfl, rfl,
  rfl, rfl, rfl, rfl, rfl, rfl, rfl, rfl, rfl⟩
@[simp] theorem State.setReg_reads (k : Nat) (v : Word) :
    (∀ a, (s.setReg k v).guard a = s.guard a) ∧ (∀ a, (s.setReg k v).queue a = s.queue a) ∧
    (∀ a, (s.setReg k v).can a = s.can a) ∧ (∀ a, (s.setReg k v).canWakeOf a = s.canWakeOf a) ∧
    (∀ a, (s.setReg k v).uart a = s.uart a) ∧ (∀ a, (s.setReg k v).eng a = s.eng a) ∧
    (∀ a, (s.setReg k v).pin a = s.pin a) ∧ (∀ a, (s.setReg k v).bank a = s.bank a) ∧
    (∀ l, (s.setReg k v).link l = s.link l) ∧ (∀ a, (s.setReg k v).sta a = s.sta a) ∧
    (∀ a, (s.setReg k v).core a = s.core a) ∧ (∀ a, (s.setReg k v).feed a = s.feed a) ∧
    (∀ a, (s.setReg k v).group a = s.group a) ∧ (∀ a, (s.setReg k v).sensor a = s.sensor a) ∧
    (∀ a, (s.setReg k v).txn a = s.txn a) ∧ (∀ a, (s.setReg k v).fetch a = s.fetch a) ∧
    (∀ a, (s.setReg k v).sem a = s.sem a) ∧ (∀ a, (s.setReg k v).ephInst a = s.ephInst a) ∧
    (∀ a, (s.setReg k v).dma a = s.dma a) ∧ (∀ a, (s.setReg k v).usbPort a = s.usbPort a) ∧
    (∀ a, (s.setReg k v).policer a = s.policer a) ∧ (∀ a, (s.setReg k v).shaper a = s.shaper a) ∧
    (s.setReg k v).now = s.now ∧ (∀ u, (s.setReg k v).isBusy u = s.isBusy u) := by
  simp [State.guard, State.queue, State.can, State.canWakeOf, State.uart, State.eng, State.pin, State.bank,
    State.link, State.sta, State.core, State.feed, State.group, State.sensor, State.txn, State.fetch,
    State.sem, State.ephInst, State.dma, State.usbPort, State.policer, State.shaper, State.now, State.isBusy]
@[simp] theorem State.reg_setReg (k : Nat) (v : Word) (a : Nat) : (s.setReg k v).reg a = if a = k then v else s.reg a := by
  by_cases h : a = k
  · subst h; simp [State.reg, State.setReg]
  · simp [State.reg, State.setReg, h, Store.get_put_of_ne]

@[simp] theorem State.setField_fields (k x n v : Nat) :
    (s.setField k x n v).frc = s.frc ∧ (s.setField k x n v).clock = s.clock ∧ (s.setField k x n v).mem = s.mem ∧
    (s.setField k x n v).pending = s.pending ∧ (s.setField k x n v).out = s.out ∧
    (s.setField k x n v).free = s.free ∧ (s.setField k x n v).shadows = s.shadows ∧
    (s.setField k x n v).staged = s.staged ∧ (s.setField k x n v).guards = s.guards ∧
    (s.setField k x n v).busy = s.busy ∧ (s.setField k x n v).held = s.held ∧ (s.setField k x n v).cfg = s.cfg ∧
    (s.setField k x n v).image = s.image ∧ (s.setField k x n v).fences = s.fences ∧
    (s.setField k x n v).fenceCounts = s.fenceCounts ∧ (s.setField k x n v).hostFence = s.hostFence ∧
    (s.setField k x n v).fault = s.fault ∧ (s.setField k x n v).dieLink = s.dieLink ∧
    (s.setField k x n v).time = s.time ∧ (s.setField k x n v).tins = s.tins ∧ (s.setField k x n v).ptp = s.ptp ∧
    (s.setField k x n v).angle = s.angle ∧ (s.setField k x n v).links = s.links ∧
    (s.setField k x n v).bypass = s.bypass ∧ (s.setField k x n v).ring = s.ring ∧
    (s.setField k x n v).bridge = s.bridge ∧ (s.setField k x n v).ephem = s.ephem ∧
    (s.setField k x n v).pins = s.pins ∧ (s.setField k x n v).banks = s.banks ∧
    (s.setField k x n v).engines = s.engines ∧ (s.setField k x n v).cans = s.cans ∧
    (s.setField k x n v).canWakes = s.canWakes ∧ (s.setField k x n v).uarts = s.uarts ∧
    (s.setField k x n v).sw = s.sw ∧ (s.setField k x n v).policers = s.policers ∧
    (s.setField k x n v).shapers = s.shapers ∧ (s.setField k x n v).stas = s.stas ∧
    (s.setField k x n v).prp = s.prp ∧ (s.setField k x n v).cores = s.cores ∧ (s.setField k x n v).ecc = s.ecc ∧
    (s.setField k x n v).queues = s.queues ∧ (s.setField k x n v).dram = s.dram ∧
    (s.setField k x n v).pair = s.pair ∧ (s.setField k x n v).mramEpochs = s.mramEpochs ∧
    (s.setField k x n v).power = s.power ∧ (s.setField k x n v).start = s.start ∧
    (s.setField k x n v).comet = s.comet ∧ (s.setField k x n v).cache = s.cache ∧
    (s.setField k x n v).fuses = s.fuses ∧ (s.setField k x n v).boot = s.boot ∧ (s.setField k x n v).host = s.host ∧
    (s.setField k x n v).mgmt = s.mgmt ∧ (s.setField k x n v).usb = s.usb :=
  ⟨rfl, rfl, rfl, rfl, rfl, rfl, rfl, rfl, rfl, rfl, rfl, rfl, rfl, rfl, rfl, rfl, rfl, rfl, rfl, rfl, rfl, rfl,
  rfl, rfl, rfl, rfl, rfl, rfl, rfl, rfl, rfl, rfl, rfl, rfl, rfl, rfl, rfl, rfl, rfl, rfl, rfl, rfl, rfl, rfl,
  rfl, rfl, rfl, rfl, rfl, rfl, rfl, rfl, rfl⟩
@[simp] theorem State.setField_reads (k x n v : Nat) :
    (∀ a, (s.setField k x n v).guard a = s.guard a) ∧ (∀ a, (s.setField k x n v).queue a = s.queue a) ∧
    (∀ a, (s.setField k x n v).can a = s.can a) ∧ (∀ a, (s.setField k x n v).canWakeOf a = s.canWakeOf a) ∧
    (∀ a, (s.setField k x n v).uart a = s.uart a) ∧ (∀ a, (s.setField k x n v).eng a = s.eng a) ∧
    (∀ a, (s.setField k x n v).pin a = s.pin a) ∧ (∀ a, (s.setField k x n v).bank a = s.bank a) ∧
    (∀ l, (s.setField k x n v).link l = s.link l) ∧ (∀ a, (s.setField k x n v).sta a = s.sta a) ∧
    (∀ a, (s.setField k x n v).core a = s.core a) ∧ (∀ a, (s.setField k x n v).feed a = s.feed a) ∧
    (∀ a, (s.setField k x n v).group a = s.group a) ∧ (∀ a, (s.setField k x n v).sensor a = s.sensor a) ∧
    (∀ a, (s.setField k x n v).txn a = s.txn a) ∧ (∀ a, (s.setField k x n v).fetch a = s.fetch a) ∧
    (∀ a, (s.setField k x n v).sem a = s.sem a) ∧ (∀ a, (s.setField k x n v).ephInst a = s.ephInst a) ∧
    (∀ a, (s.setField k x n v).dma a = s.dma a) ∧ (∀ a, (s.setField k x n v).usbPort a = s.usbPort a) ∧
    (∀ a, (s.setField k x n v).policer a = s.policer a) ∧ (∀ a, (s.setField k x n v).shaper a = s.shaper a) ∧
    (s.setField k x n v).now = s.now ∧ (∀ u, (s.setField k x n v).isBusy u = s.isBusy u) := by
  simp [State.guard, State.queue, State.can, State.canWakeOf, State.uart, State.eng, State.pin, State.bank,
    State.link, State.sta, State.core, State.feed, State.group, State.sensor, State.txn, State.fetch,
    State.sem, State.ephInst, State.dma, State.usbPort, State.policer, State.shaper, State.now, State.isBusy]

@[simp] theorem State.setFlag_fields (k j : Nat) (b : Bool) :
    (s.setFlag k j b).frc = s.frc ∧ (s.setFlag k j b).clock = s.clock ∧ (s.setFlag k j b).mem = s.mem ∧
    (s.setFlag k j b).pending = s.pending ∧ (s.setFlag k j b).out = s.out ∧ (s.setFlag k j b).free = s.free ∧
    (s.setFlag k j b).shadows = s.shadows ∧ (s.setFlag k j b).staged = s.staged ∧
    (s.setFlag k j b).guards = s.guards ∧ (s.setFlag k j b).busy = s.busy ∧ (s.setFlag k j b).held = s.held ∧
    (s.setFlag k j b).cfg = s.cfg ∧ (s.setFlag k j b).image = s.image ∧ (s.setFlag k j b).fences = s.fences ∧
    (s.setFlag k j b).fenceCounts = s.fenceCounts ∧ (s.setFlag k j b).hostFence = s.hostFence ∧
    (s.setFlag k j b).fault = s.fault ∧ (s.setFlag k j b).dieLink = s.dieLink ∧ (s.setFlag k j b).time = s.time ∧
    (s.setFlag k j b).tins = s.tins ∧ (s.setFlag k j b).ptp = s.ptp ∧ (s.setFlag k j b).angle = s.angle ∧
    (s.setFlag k j b).links = s.links ∧ (s.setFlag k j b).bypass = s.bypass ∧ (s.setFlag k j b).ring = s.ring ∧
    (s.setFlag k j b).bridge = s.bridge ∧ (s.setFlag k j b).ephem = s.ephem ∧ (s.setFlag k j b).pins = s.pins ∧
    (s.setFlag k j b).banks = s.banks ∧ (s.setFlag k j b).engines = s.engines ∧ (s.setFlag k j b).cans = s.cans ∧
    (s.setFlag k j b).canWakes = s.canWakes ∧ (s.setFlag k j b).uarts = s.uarts ∧ (s.setFlag k j b).sw = s.sw ∧
    (s.setFlag k j b).policers = s.policers ∧ (s.setFlag k j b).shapers = s.shapers ∧
    (s.setFlag k j b).stas = s.stas ∧ (s.setFlag k j b).prp = s.prp ∧ (s.setFlag k j b).cores = s.cores ∧
    (s.setFlag k j b).ecc = s.ecc ∧ (s.setFlag k j b).queues = s.queues ∧ (s.setFlag k j b).dram = s.dram ∧
    (s.setFlag k j b).pair = s.pair ∧ (s.setFlag k j b).mramEpochs = s.mramEpochs ∧
    (s.setFlag k j b).power = s.power ∧ (s.setFlag k j b).start = s.start ∧ (s.setFlag k j b).comet = s.comet ∧
    (s.setFlag k j b).cache = s.cache ∧ (s.setFlag k j b).fuses = s.fuses ∧ (s.setFlag k j b).boot = s.boot ∧
    (s.setFlag k j b).host = s.host ∧ (s.setFlag k j b).mgmt = s.mgmt ∧ (s.setFlag k j b).usb = s.usb :=
  ⟨rfl, rfl, rfl, rfl, rfl, rfl, rfl, rfl, rfl, rfl, rfl, rfl, rfl, rfl, rfl, rfl, rfl, rfl, rfl, rfl, rfl, rfl,
  rfl, rfl, rfl, rfl, rfl, rfl, rfl, rfl, rfl, rfl, rfl, rfl, rfl, rfl, rfl, rfl, rfl, rfl, rfl, rfl, rfl, rfl,
  rfl, rfl, rfl, rfl, rfl, rfl, rfl, rfl, rfl⟩
@[simp] theorem State.setFlag_reads (k j : Nat) (b : Bool) :
    (∀ a, (s.setFlag k j b).guard a = s.guard a) ∧ (∀ a, (s.setFlag k j b).queue a = s.queue a) ∧
    (∀ a, (s.setFlag k j b).can a = s.can a) ∧ (∀ a, (s.setFlag k j b).canWakeOf a = s.canWakeOf a) ∧
    (∀ a, (s.setFlag k j b).uart a = s.uart a) ∧ (∀ a, (s.setFlag k j b).eng a = s.eng a) ∧
    (∀ a, (s.setFlag k j b).pin a = s.pin a) ∧ (∀ a, (s.setFlag k j b).bank a = s.bank a) ∧
    (∀ l, (s.setFlag k j b).link l = s.link l) ∧ (∀ a, (s.setFlag k j b).sta a = s.sta a) ∧
    (∀ a, (s.setFlag k j b).core a = s.core a) ∧ (∀ a, (s.setFlag k j b).feed a = s.feed a) ∧
    (∀ a, (s.setFlag k j b).group a = s.group a) ∧ (∀ a, (s.setFlag k j b).sensor a = s.sensor a) ∧
    (∀ a, (s.setFlag k j b).txn a = s.txn a) ∧ (∀ a, (s.setFlag k j b).fetch a = s.fetch a) ∧
    (∀ a, (s.setFlag k j b).sem a = s.sem a) ∧ (∀ a, (s.setFlag k j b).ephInst a = s.ephInst a) ∧
    (∀ a, (s.setFlag k j b).dma a = s.dma a) ∧ (∀ a, (s.setFlag k j b).usbPort a = s.usbPort a) ∧
    (∀ a, (s.setFlag k j b).policer a = s.policer a) ∧ (∀ a, (s.setFlag k j b).shaper a = s.shaper a) ∧
    (s.setFlag k j b).now = s.now ∧ (∀ u, (s.setFlag k j b).isBusy u = s.isBusy u) := by
  simp [State.guard, State.queue, State.can, State.canWakeOf, State.uart, State.eng, State.pin, State.bank,
    State.link, State.sta, State.core, State.feed, State.group, State.sensor, State.txn, State.fetch,
    State.sem, State.ephInst, State.dma, State.usbPort, State.policer, State.shaper, State.now, State.isBusy]

@[simp] theorem State.events_fields (k m : Nat) :
    (s.events k m).frc = s.frc ∧ (s.events k m).clock = s.clock ∧ (s.events k m).mem = s.mem ∧
    (s.events k m).pending = s.pending ∧ (s.events k m).out = s.out ∧ (s.events k m).free = s.free ∧
    (s.events k m).shadows = s.shadows ∧ (s.events k m).staged = s.staged ∧ (s.events k m).guards = s.guards ∧
    (s.events k m).busy = s.busy ∧ (s.events k m).held = s.held ∧ (s.events k m).cfg = s.cfg ∧
    (s.events k m).image = s.image ∧ (s.events k m).fences = s.fences ∧ (s.events k m).fenceCounts = s.fenceCounts ∧
    (s.events k m).hostFence = s.hostFence ∧ (s.events k m).fault = s.fault ∧ (s.events k m).dieLink = s.dieLink ∧
    (s.events k m).time = s.time ∧ (s.events k m).tins = s.tins ∧ (s.events k m).ptp = s.ptp ∧
    (s.events k m).angle = s.angle ∧ (s.events k m).links = s.links ∧ (s.events k m).bypass = s.bypass ∧
    (s.events k m).ring = s.ring ∧ (s.events k m).bridge = s.bridge ∧ (s.events k m).ephem = s.ephem ∧
    (s.events k m).pins = s.pins ∧ (s.events k m).banks = s.banks ∧ (s.events k m).engines = s.engines ∧
    (s.events k m).cans = s.cans ∧ (s.events k m).canWakes = s.canWakes ∧ (s.events k m).uarts = s.uarts ∧
    (s.events k m).sw = s.sw ∧ (s.events k m).policers = s.policers ∧ (s.events k m).shapers = s.shapers ∧
    (s.events k m).stas = s.stas ∧ (s.events k m).prp = s.prp ∧ (s.events k m).cores = s.cores ∧
    (s.events k m).ecc = s.ecc ∧ (s.events k m).queues = s.queues ∧ (s.events k m).dram = s.dram ∧
    (s.events k m).pair = s.pair ∧ (s.events k m).mramEpochs = s.mramEpochs ∧ (s.events k m).power = s.power ∧
    (s.events k m).start = s.start ∧ (s.events k m).comet = s.comet ∧ (s.events k m).cache = s.cache ∧
    (s.events k m).fuses = s.fuses ∧ (s.events k m).boot = s.boot ∧ (s.events k m).host = s.host ∧
    (s.events k m).mgmt = s.mgmt ∧ (s.events k m).usb = s.usb := by
  simp [State.events]
@[simp] theorem State.events_reads (k m : Nat) :
    (∀ a, (s.events k m).guard a = s.guard a) ∧ (∀ a, (s.events k m).queue a = s.queue a) ∧
    (∀ a, (s.events k m).can a = s.can a) ∧ (∀ a, (s.events k m).canWakeOf a = s.canWakeOf a) ∧
    (∀ a, (s.events k m).uart a = s.uart a) ∧ (∀ a, (s.events k m).eng a = s.eng a) ∧
    (∀ a, (s.events k m).pin a = s.pin a) ∧ (∀ a, (s.events k m).bank a = s.bank a) ∧
    (∀ l, (s.events k m).link l = s.link l) ∧ (∀ a, (s.events k m).sta a = s.sta a) ∧
    (∀ a, (s.events k m).core a = s.core a) ∧ (∀ a, (s.events k m).feed a = s.feed a) ∧
    (∀ a, (s.events k m).group a = s.group a) ∧ (∀ a, (s.events k m).sensor a = s.sensor a) ∧
    (∀ a, (s.events k m).txn a = s.txn a) ∧ (∀ a, (s.events k m).fetch a = s.fetch a) ∧
    (∀ a, (s.events k m).sem a = s.sem a) ∧ (∀ a, (s.events k m).ephInst a = s.ephInst a) ∧
    (∀ a, (s.events k m).dma a = s.dma a) ∧ (∀ a, (s.events k m).usbPort a = s.usbPort a) ∧
    (∀ a, (s.events k m).policer a = s.policer a) ∧ (∀ a, (s.events k m).shaper a = s.shaper a) ∧
    (s.events k m).now = s.now ∧ (∀ u, (s.events k m).isBusy u = s.isBusy u) := by
  simp [State.guard, State.queue, State.can, State.canWakeOf, State.uart, State.eng, State.pin, State.bank,
    State.link, State.sta, State.core, State.feed, State.group, State.sensor, State.txn, State.fetch,
    State.sem, State.ephInst, State.dma, State.usbPort, State.policer, State.shaper, State.now, State.isBusy]

@[simp] theorem State.event_fields (k j : Nat) :
    (s.event k j).frc = s.frc ∧ (s.event k j).clock = s.clock ∧ (s.event k j).mem = s.mem ∧
    (s.event k j).pending = s.pending ∧ (s.event k j).out = s.out ∧ (s.event k j).free = s.free ∧
    (s.event k j).shadows = s.shadows ∧ (s.event k j).staged = s.staged ∧ (s.event k j).guards = s.guards ∧
    (s.event k j).busy = s.busy ∧ (s.event k j).held = s.held ∧ (s.event k j).cfg = s.cfg ∧
    (s.event k j).image = s.image ∧ (s.event k j).fences = s.fences ∧ (s.event k j).fenceCounts = s.fenceCounts ∧
    (s.event k j).hostFence = s.hostFence ∧ (s.event k j).fault = s.fault ∧ (s.event k j).dieLink = s.dieLink ∧
    (s.event k j).time = s.time ∧ (s.event k j).tins = s.tins ∧ (s.event k j).ptp = s.ptp ∧
    (s.event k j).angle = s.angle ∧ (s.event k j).links = s.links ∧ (s.event k j).bypass = s.bypass ∧
    (s.event k j).ring = s.ring ∧ (s.event k j).bridge = s.bridge ∧ (s.event k j).ephem = s.ephem ∧
    (s.event k j).pins = s.pins ∧ (s.event k j).banks = s.banks ∧ (s.event k j).engines = s.engines ∧
    (s.event k j).cans = s.cans ∧ (s.event k j).canWakes = s.canWakes ∧ (s.event k j).uarts = s.uarts ∧
    (s.event k j).sw = s.sw ∧ (s.event k j).policers = s.policers ∧ (s.event k j).shapers = s.shapers ∧
    (s.event k j).stas = s.stas ∧ (s.event k j).prp = s.prp ∧ (s.event k j).cores = s.cores ∧
    (s.event k j).ecc = s.ecc ∧ (s.event k j).queues = s.queues ∧ (s.event k j).dram = s.dram ∧
    (s.event k j).pair = s.pair ∧ (s.event k j).mramEpochs = s.mramEpochs ∧ (s.event k j).power = s.power ∧
    (s.event k j).start = s.start ∧ (s.event k j).comet = s.comet ∧ (s.event k j).cache = s.cache ∧
    (s.event k j).fuses = s.fuses ∧ (s.event k j).boot = s.boot ∧ (s.event k j).host = s.host ∧
    (s.event k j).mgmt = s.mgmt ∧ (s.event k j).usb = s.usb := by
  simp [State.event]
@[simp] theorem State.event_reads (k j : Nat) :
    (∀ a, (s.event k j).guard a = s.guard a) ∧ (∀ a, (s.event k j).queue a = s.queue a) ∧
    (∀ a, (s.event k j).can a = s.can a) ∧ (∀ a, (s.event k j).canWakeOf a = s.canWakeOf a) ∧
    (∀ a, (s.event k j).uart a = s.uart a) ∧ (∀ a, (s.event k j).eng a = s.eng a) ∧
    (∀ a, (s.event k j).pin a = s.pin a) ∧ (∀ a, (s.event k j).bank a = s.bank a) ∧
    (∀ l, (s.event k j).link l = s.link l) ∧ (∀ a, (s.event k j).sta a = s.sta a) ∧
    (∀ a, (s.event k j).core a = s.core a) ∧ (∀ a, (s.event k j).feed a = s.feed a) ∧
    (∀ a, (s.event k j).group a = s.group a) ∧ (∀ a, (s.event k j).sensor a = s.sensor a) ∧
    (∀ a, (s.event k j).txn a = s.txn a) ∧ (∀ a, (s.event k j).fetch a = s.fetch a) ∧
    (∀ a, (s.event k j).sem a = s.sem a) ∧ (∀ a, (s.event k j).ephInst a = s.ephInst a) ∧
    (∀ a, (s.event k j).dma a = s.dma a) ∧ (∀ a, (s.event k j).usbPort a = s.usbPort a) ∧
    (∀ a, (s.event k j).policer a = s.policer a) ∧ (∀ a, (s.event k j).shaper a = s.shaper a) ∧
    (s.event k j).now = s.now ∧ (∀ u, (s.event k j).isBusy u = s.isBusy u) := by
  simp [State.guard, State.queue, State.can, State.canWakeOf, State.uart, State.eng, State.pin, State.bank,
    State.link, State.sta, State.core, State.feed, State.group, State.sensor, State.txn, State.fetch,
    State.sem, State.ephInst, State.dma, State.usbPort, State.policer, State.shaper, State.now, State.isBusy]

@[simp] theorem State.addTo_fields (k n : Nat) :
    (s.addTo k n).frc = s.frc ∧ (s.addTo k n).clock = s.clock ∧ (s.addTo k n).mem = s.mem ∧
    (s.addTo k n).pending = s.pending ∧ (s.addTo k n).out = s.out ∧ (s.addTo k n).free = s.free ∧
    (s.addTo k n).shadows = s.shadows ∧ (s.addTo k n).staged = s.staged ∧ (s.addTo k n).guards = s.guards ∧
    (s.addTo k n).busy = s.busy ∧ (s.addTo k n).held = s.held ∧ (s.addTo k n).cfg = s.cfg ∧
    (s.addTo k n).image = s.image ∧ (s.addTo k n).fences = s.fences ∧ (s.addTo k n).fenceCounts = s.fenceCounts ∧
    (s.addTo k n).hostFence = s.hostFence ∧ (s.addTo k n).fault = s.fault ∧ (s.addTo k n).dieLink = s.dieLink ∧
    (s.addTo k n).time = s.time ∧ (s.addTo k n).tins = s.tins ∧ (s.addTo k n).ptp = s.ptp ∧
    (s.addTo k n).angle = s.angle ∧ (s.addTo k n).links = s.links ∧ (s.addTo k n).bypass = s.bypass ∧
    (s.addTo k n).ring = s.ring ∧ (s.addTo k n).bridge = s.bridge ∧ (s.addTo k n).ephem = s.ephem ∧
    (s.addTo k n).pins = s.pins ∧ (s.addTo k n).banks = s.banks ∧ (s.addTo k n).engines = s.engines ∧
    (s.addTo k n).cans = s.cans ∧ (s.addTo k n).canWakes = s.canWakes ∧ (s.addTo k n).uarts = s.uarts ∧
    (s.addTo k n).sw = s.sw ∧ (s.addTo k n).policers = s.policers ∧ (s.addTo k n).shapers = s.shapers ∧
    (s.addTo k n).stas = s.stas ∧ (s.addTo k n).prp = s.prp ∧ (s.addTo k n).cores = s.cores ∧
    (s.addTo k n).ecc = s.ecc ∧ (s.addTo k n).queues = s.queues ∧ (s.addTo k n).dram = s.dram ∧
    (s.addTo k n).pair = s.pair ∧ (s.addTo k n).mramEpochs = s.mramEpochs ∧ (s.addTo k n).power = s.power ∧
    (s.addTo k n).start = s.start ∧ (s.addTo k n).comet = s.comet ∧ (s.addTo k n).cache = s.cache ∧
    (s.addTo k n).fuses = s.fuses ∧ (s.addTo k n).boot = s.boot ∧ (s.addTo k n).host = s.host ∧
    (s.addTo k n).mgmt = s.mgmt ∧ (s.addTo k n).usb = s.usb :=
  ⟨rfl, rfl, rfl, rfl, rfl, rfl, rfl, rfl, rfl, rfl, rfl, rfl, rfl, rfl, rfl, rfl, rfl, rfl, rfl, rfl, rfl, rfl,
  rfl, rfl, rfl, rfl, rfl, rfl, rfl, rfl, rfl, rfl, rfl, rfl, rfl, rfl, rfl, rfl, rfl, rfl, rfl, rfl, rfl, rfl,
  rfl, rfl, rfl, rfl, rfl, rfl, rfl, rfl, rfl⟩
@[simp] theorem State.addTo_reads (k n : Nat) :
    (∀ a, (s.addTo k n).guard a = s.guard a) ∧ (∀ a, (s.addTo k n).queue a = s.queue a) ∧
    (∀ a, (s.addTo k n).can a = s.can a) ∧ (∀ a, (s.addTo k n).canWakeOf a = s.canWakeOf a) ∧
    (∀ a, (s.addTo k n).uart a = s.uart a) ∧ (∀ a, (s.addTo k n).eng a = s.eng a) ∧
    (∀ a, (s.addTo k n).pin a = s.pin a) ∧ (∀ a, (s.addTo k n).bank a = s.bank a) ∧
    (∀ l, (s.addTo k n).link l = s.link l) ∧ (∀ a, (s.addTo k n).sta a = s.sta a) ∧
    (∀ a, (s.addTo k n).core a = s.core a) ∧ (∀ a, (s.addTo k n).feed a = s.feed a) ∧
    (∀ a, (s.addTo k n).group a = s.group a) ∧ (∀ a, (s.addTo k n).sensor a = s.sensor a) ∧
    (∀ a, (s.addTo k n).txn a = s.txn a) ∧ (∀ a, (s.addTo k n).fetch a = s.fetch a) ∧
    (∀ a, (s.addTo k n).sem a = s.sem a) ∧ (∀ a, (s.addTo k n).ephInst a = s.ephInst a) ∧
    (∀ a, (s.addTo k n).dma a = s.dma a) ∧ (∀ a, (s.addTo k n).usbPort a = s.usbPort a) ∧
    (∀ a, (s.addTo k n).policer a = s.policer a) ∧ (∀ a, (s.addTo k n).shaper a = s.shaper a) ∧
    (s.addTo k n).now = s.now ∧ (∀ u, (s.addTo k n).isBusy u = s.isBusy u) := by
  simp [State.guard, State.queue, State.can, State.canWakeOf, State.uart, State.eng, State.pin, State.bank,
    State.link, State.sta, State.core, State.feed, State.group, State.sensor, State.txn, State.fetch,
    State.sem, State.ephInst, State.dma, State.usbPort, State.policer, State.shaper, State.now, State.isBusy]

@[simp] theorem State.inc_fields (k : Nat) :
    (s.inc k).frc = s.frc ∧ (s.inc k).clock = s.clock ∧ (s.inc k).mem = s.mem ∧ (s.inc k).pending = s.pending ∧
    (s.inc k).out = s.out ∧ (s.inc k).free = s.free ∧ (s.inc k).shadows = s.shadows ∧ (s.inc k).staged = s.staged ∧
    (s.inc k).guards = s.guards ∧ (s.inc k).busy = s.busy ∧ (s.inc k).held = s.held ∧ (s.inc k).cfg = s.cfg ∧
    (s.inc k).image = s.image ∧ (s.inc k).fences = s.fences ∧ (s.inc k).fenceCounts = s.fenceCounts ∧
    (s.inc k).hostFence = s.hostFence ∧ (s.inc k).fault = s.fault ∧ (s.inc k).dieLink = s.dieLink ∧
    (s.inc k).time = s.time ∧ (s.inc k).tins = s.tins ∧ (s.inc k).ptp = s.ptp ∧ (s.inc k).angle = s.angle ∧
    (s.inc k).links = s.links ∧ (s.inc k).bypass = s.bypass ∧ (s.inc k).ring = s.ring ∧ (s.inc k).bridge = s.bridge ∧
    (s.inc k).ephem = s.ephem ∧ (s.inc k).pins = s.pins ∧ (s.inc k).banks = s.banks ∧ (s.inc k).engines = s.engines ∧
    (s.inc k).cans = s.cans ∧ (s.inc k).canWakes = s.canWakes ∧ (s.inc k).uarts = s.uarts ∧ (s.inc k).sw = s.sw ∧
    (s.inc k).policers = s.policers ∧ (s.inc k).shapers = s.shapers ∧ (s.inc k).stas = s.stas ∧
    (s.inc k).prp = s.prp ∧ (s.inc k).cores = s.cores ∧ (s.inc k).ecc = s.ecc ∧ (s.inc k).queues = s.queues ∧
    (s.inc k).dram = s.dram ∧ (s.inc k).pair = s.pair ∧ (s.inc k).mramEpochs = s.mramEpochs ∧
    (s.inc k).power = s.power ∧ (s.inc k).start = s.start ∧ (s.inc k).comet = s.comet ∧ (s.inc k).cache = s.cache ∧
    (s.inc k).fuses = s.fuses ∧ (s.inc k).boot = s.boot ∧ (s.inc k).host = s.host ∧ (s.inc k).mgmt = s.mgmt ∧
    (s.inc k).usb = s.usb :=
  ⟨rfl, rfl, rfl, rfl, rfl, rfl, rfl, rfl, rfl, rfl, rfl, rfl, rfl, rfl, rfl, rfl, rfl, rfl, rfl, rfl, rfl, rfl,
  rfl, rfl, rfl, rfl, rfl, rfl, rfl, rfl, rfl, rfl, rfl, rfl, rfl, rfl, rfl, rfl, rfl, rfl, rfl, rfl, rfl, rfl,
  rfl, rfl, rfl, rfl, rfl, rfl, rfl, rfl, rfl⟩
@[simp] theorem State.inc_reads (k : Nat) :
    (∀ a, (s.inc k).guard a = s.guard a) ∧ (∀ a, (s.inc k).queue a = s.queue a) ∧ (∀ a, (s.inc k).can a = s.can a) ∧
    (∀ a, (s.inc k).canWakeOf a = s.canWakeOf a) ∧ (∀ a, (s.inc k).uart a = s.uart a) ∧
    (∀ a, (s.inc k).eng a = s.eng a) ∧ (∀ a, (s.inc k).pin a = s.pin a) ∧ (∀ a, (s.inc k).bank a = s.bank a) ∧
    (∀ l, (s.inc k).link l = s.link l) ∧ (∀ a, (s.inc k).sta a = s.sta a) ∧ (∀ a, (s.inc k).core a = s.core a) ∧
    (∀ a, (s.inc k).feed a = s.feed a) ∧ (∀ a, (s.inc k).group a = s.group a) ∧
    (∀ a, (s.inc k).sensor a = s.sensor a) ∧ (∀ a, (s.inc k).txn a = s.txn a) ∧
    (∀ a, (s.inc k).fetch a = s.fetch a) ∧ (∀ a, (s.inc k).sem a = s.sem a) ∧
    (∀ a, (s.inc k).ephInst a = s.ephInst a) ∧ (∀ a, (s.inc k).dma a = s.dma a) ∧
    (∀ a, (s.inc k).usbPort a = s.usbPort a) ∧ (∀ a, (s.inc k).policer a = s.policer a) ∧
    (∀ a, (s.inc k).shaper a = s.shaper a) ∧ (s.inc k).now = s.now ∧ (∀ u, (s.inc k).isBusy u = s.isBusy u) := by
  simp [State.guard, State.queue, State.can, State.canWakeOf, State.uart, State.eng, State.pin, State.bank,
    State.link, State.sta, State.core, State.feed, State.group, State.sensor, State.txn, State.fetch,
    State.sem, State.ephInst, State.dma, State.usbPort, State.policer, State.shaper, State.now, State.isBusy]

@[simp] theorem State.emit_fields (o : Out) :
    (s.emit o).frc = s.frc ∧ (s.emit o).clock = s.clock ∧ (s.emit o).regs = s.regs ∧ (s.emit o).mem = s.mem ∧
    (s.emit o).pending = s.pending ∧ (s.emit o).free = s.free ∧ (s.emit o).shadows = s.shadows ∧
    (s.emit o).staged = s.staged ∧ (s.emit o).guards = s.guards ∧ (s.emit o).busy = s.busy ∧
    (s.emit o).held = s.held ∧ (s.emit o).cfg = s.cfg ∧ (s.emit o).image = s.image ∧ (s.emit o).fences = s.fences ∧
    (s.emit o).fenceCounts = s.fenceCounts ∧ (s.emit o).hostFence = s.hostFence ∧ (s.emit o).fault = s.fault ∧
    (s.emit o).dieLink = s.dieLink ∧ (s.emit o).time = s.time ∧ (s.emit o).tins = s.tins ∧ (s.emit o).ptp = s.ptp ∧
    (s.emit o).angle = s.angle ∧ (s.emit o).links = s.links ∧ (s.emit o).bypass = s.bypass ∧
    (s.emit o).ring = s.ring ∧ (s.emit o).bridge = s.bridge ∧ (s.emit o).ephem = s.ephem ∧ (s.emit o).pins = s.pins ∧
    (s.emit o).banks = s.banks ∧ (s.emit o).engines = s.engines ∧ (s.emit o).cans = s.cans ∧
    (s.emit o).canWakes = s.canWakes ∧ (s.emit o).uarts = s.uarts ∧ (s.emit o).sw = s.sw ∧
    (s.emit o).policers = s.policers ∧ (s.emit o).shapers = s.shapers ∧ (s.emit o).stas = s.stas ∧
    (s.emit o).prp = s.prp ∧ (s.emit o).cores = s.cores ∧ (s.emit o).ecc = s.ecc ∧ (s.emit o).queues = s.queues ∧
    (s.emit o).dram = s.dram ∧ (s.emit o).pair = s.pair ∧ (s.emit o).mramEpochs = s.mramEpochs ∧
    (s.emit o).power = s.power ∧ (s.emit o).start = s.start ∧ (s.emit o).comet = s.comet ∧
    (s.emit o).cache = s.cache ∧ (s.emit o).fuses = s.fuses ∧ (s.emit o).boot = s.boot ∧ (s.emit o).host = s.host ∧
    (s.emit o).mgmt = s.mgmt ∧ (s.emit o).usb = s.usb :=
  ⟨rfl, rfl, rfl, rfl, rfl, rfl, rfl, rfl, rfl, rfl, rfl, rfl, rfl, rfl, rfl, rfl, rfl, rfl, rfl, rfl, rfl, rfl,
  rfl, rfl, rfl, rfl, rfl, rfl, rfl, rfl, rfl, rfl, rfl, rfl, rfl, rfl, rfl, rfl, rfl, rfl, rfl, rfl, rfl, rfl,
  rfl, rfl, rfl, rfl, rfl, rfl, rfl, rfl, rfl⟩
@[simp] theorem State.emit_reads (o : Out) :
    (∀ a, (s.emit o).reg a = s.reg a) ∧ (∀ a, (s.emit o).guard a = s.guard a) ∧
    (∀ a, (s.emit o).queue a = s.queue a) ∧ (∀ a, (s.emit o).can a = s.can a) ∧
    (∀ a, (s.emit o).canWakeOf a = s.canWakeOf a) ∧ (∀ a, (s.emit o).uart a = s.uart a) ∧
    (∀ a, (s.emit o).eng a = s.eng a) ∧ (∀ a, (s.emit o).pin a = s.pin a) ∧ (∀ a, (s.emit o).bank a = s.bank a) ∧
    (∀ l, (s.emit o).link l = s.link l) ∧ (∀ a, (s.emit o).sta a = s.sta a) ∧ (∀ a, (s.emit o).core a = s.core a) ∧
    (∀ a, (s.emit o).feed a = s.feed a) ∧ (∀ a, (s.emit o).group a = s.group a) ∧
    (∀ a, (s.emit o).sensor a = s.sensor a) ∧ (∀ a, (s.emit o).txn a = s.txn a) ∧
    (∀ a, (s.emit o).fetch a = s.fetch a) ∧ (∀ a, (s.emit o).sem a = s.sem a) ∧
    (∀ a, (s.emit o).ephInst a = s.ephInst a) ∧ (∀ a, (s.emit o).dma a = s.dma a) ∧
    (∀ a, (s.emit o).usbPort a = s.usbPort a) ∧ (∀ a, (s.emit o).policer a = s.policer a) ∧
    (∀ a, (s.emit o).shaper a = s.shaper a) ∧ (∀ a i, (s.emit o).flag a i = s.flag a i) ∧
    (∀ a i n, (s.emit o).field a i n = s.field a i n) ∧ (∀ u, (s.emit o).enabled u = s.enabled u) ∧
    (s.emit o).now = s.now ∧ (∀ u, (s.emit o).isBusy u = s.isBusy u) := by
  simp [State.reg, State.guard, State.queue, State.can, State.canWakeOf, State.uart, State.eng, State.pin,
    State.bank, State.link, State.sta, State.core, State.feed, State.group, State.sensor, State.txn,
    State.fetch, State.sem, State.ephInst, State.dma, State.usbPort, State.policer, State.shaper,
    State.flag, State.field, State.enabled, State.now, State.isBusy]

@[simp] theorem State.nextFree_fields :
    (s.nextFree).frc = s.frc ∧ (s.nextFree).clock = s.clock ∧ (s.nextFree).regs = s.regs ∧ (s.nextFree).mem = s.mem ∧
    (s.nextFree).pending = s.pending ∧ (s.nextFree).out = s.out ∧ (s.nextFree).shadows = s.shadows ∧
    (s.nextFree).staged = s.staged ∧ (s.nextFree).guards = s.guards ∧ (s.nextFree).busy = s.busy ∧
    (s.nextFree).held = s.held ∧ (s.nextFree).cfg = s.cfg ∧ (s.nextFree).image = s.image ∧
    (s.nextFree).fences = s.fences ∧ (s.nextFree).fenceCounts = s.fenceCounts ∧
    (s.nextFree).hostFence = s.hostFence ∧ (s.nextFree).fault = s.fault ∧ (s.nextFree).dieLink = s.dieLink ∧
    (s.nextFree).time = s.time ∧ (s.nextFree).tins = s.tins ∧ (s.nextFree).ptp = s.ptp ∧
    (s.nextFree).angle = s.angle ∧ (s.nextFree).links = s.links ∧ (s.nextFree).bypass = s.bypass ∧
    (s.nextFree).ring = s.ring ∧ (s.nextFree).bridge = s.bridge ∧ (s.nextFree).ephem = s.ephem ∧
    (s.nextFree).pins = s.pins ∧ (s.nextFree).banks = s.banks ∧ (s.nextFree).engines = s.engines ∧
    (s.nextFree).cans = s.cans ∧ (s.nextFree).canWakes = s.canWakes ∧ (s.nextFree).uarts = s.uarts ∧
    (s.nextFree).sw = s.sw ∧ (s.nextFree).policers = s.policers ∧ (s.nextFree).shapers = s.shapers ∧
    (s.nextFree).stas = s.stas ∧ (s.nextFree).prp = s.prp ∧ (s.nextFree).cores = s.cores ∧ (s.nextFree).ecc = s.ecc ∧
    (s.nextFree).queues = s.queues ∧ (s.nextFree).dram = s.dram ∧ (s.nextFree).pair = s.pair ∧
    (s.nextFree).mramEpochs = s.mramEpochs ∧ (s.nextFree).power = s.power ∧ (s.nextFree).start = s.start ∧
    (s.nextFree).comet = s.comet ∧ (s.nextFree).cache = s.cache ∧ (s.nextFree).fuses = s.fuses ∧
    (s.nextFree).boot = s.boot ∧ (s.nextFree).host = s.host ∧ (s.nextFree).mgmt = s.mgmt ∧ (s.nextFree).usb = s.usb :=
  ⟨rfl, rfl, rfl, rfl, rfl, rfl, rfl, rfl, rfl, rfl, rfl, rfl, rfl, rfl, rfl, rfl, rfl, rfl, rfl, rfl, rfl, rfl,
  rfl, rfl, rfl, rfl, rfl, rfl, rfl, rfl, rfl, rfl, rfl, rfl, rfl, rfl, rfl, rfl, rfl, rfl, rfl, rfl, rfl, rfl,
  rfl, rfl, rfl, rfl, rfl, rfl, rfl, rfl, rfl⟩
@[simp] theorem State.nextFree_reads :
    (∀ a, (s.nextFree).reg a = s.reg a) ∧ (∀ a, (s.nextFree).guard a = s.guard a) ∧
    (∀ a, (s.nextFree).queue a = s.queue a) ∧ (∀ a, (s.nextFree).can a = s.can a) ∧
    (∀ a, (s.nextFree).canWakeOf a = s.canWakeOf a) ∧ (∀ a, (s.nextFree).uart a = s.uart a) ∧
    (∀ a, (s.nextFree).eng a = s.eng a) ∧ (∀ a, (s.nextFree).pin a = s.pin a) ∧
    (∀ a, (s.nextFree).bank a = s.bank a) ∧ (∀ l, (s.nextFree).link l = s.link l) ∧
    (∀ a, (s.nextFree).sta a = s.sta a) ∧ (∀ a, (s.nextFree).core a = s.core a) ∧
    (∀ a, (s.nextFree).feed a = s.feed a) ∧ (∀ a, (s.nextFree).group a = s.group a) ∧
    (∀ a, (s.nextFree).sensor a = s.sensor a) ∧ (∀ a, (s.nextFree).txn a = s.txn a) ∧
    (∀ a, (s.nextFree).fetch a = s.fetch a) ∧ (∀ a, (s.nextFree).sem a = s.sem a) ∧
    (∀ a, (s.nextFree).ephInst a = s.ephInst a) ∧ (∀ a, (s.nextFree).dma a = s.dma a) ∧
    (∀ a, (s.nextFree).usbPort a = s.usbPort a) ∧ (∀ a, (s.nextFree).policer a = s.policer a) ∧
    (∀ a, (s.nextFree).shaper a = s.shaper a) ∧ (∀ a i, (s.nextFree).flag a i = s.flag a i) ∧
    (∀ a i n, (s.nextFree).field a i n = s.field a i n) ∧ (∀ u, (s.nextFree).enabled u = s.enabled u) ∧
    (s.nextFree).now = s.now ∧ (∀ u, (s.nextFree).isBusy u = s.isBusy u) := by
  simp [State.reg, State.guard, State.queue, State.can, State.canWakeOf, State.uart, State.eng, State.pin,
    State.bank, State.link, State.sta, State.core, State.feed, State.group, State.sensor, State.txn,
    State.fetch, State.sem, State.ephInst, State.dma, State.usbPort, State.policer, State.shaper,
    State.flag, State.field, State.enabled, State.now, State.isBusy]

@[simp] theorem State.setGuard_fields (k : Nat) (x : Guard) :
    (s.setGuard k x).frc = s.frc ∧ (s.setGuard k x).clock = s.clock ∧ (s.setGuard k x).regs = s.regs ∧
    (s.setGuard k x).mem = s.mem ∧ (s.setGuard k x).pending = s.pending ∧ (s.setGuard k x).out = s.out ∧
    (s.setGuard k x).free = s.free ∧ (s.setGuard k x).shadows = s.shadows ∧ (s.setGuard k x).staged = s.staged ∧
    (s.setGuard k x).busy = s.busy ∧ (s.setGuard k x).held = s.held ∧ (s.setGuard k x).cfg = s.cfg ∧
    (s.setGuard k x).image = s.image ∧ (s.setGuard k x).fences = s.fences ∧
    (s.setGuard k x).fenceCounts = s.fenceCounts ∧ (s.setGuard k x).hostFence = s.hostFence ∧
    (s.setGuard k x).fault = s.fault ∧ (s.setGuard k x).dieLink = s.dieLink ∧ (s.setGuard k x).time = s.time ∧
    (s.setGuard k x).tins = s.tins ∧ (s.setGuard k x).ptp = s.ptp ∧ (s.setGuard k x).angle = s.angle ∧
    (s.setGuard k x).links = s.links ∧ (s.setGuard k x).bypass = s.bypass ∧ (s.setGuard k x).ring = s.ring ∧
    (s.setGuard k x).bridge = s.bridge ∧ (s.setGuard k x).ephem = s.ephem ∧ (s.setGuard k x).pins = s.pins ∧
    (s.setGuard k x).banks = s.banks ∧ (s.setGuard k x).engines = s.engines ∧ (s.setGuard k x).cans = s.cans ∧
    (s.setGuard k x).canWakes = s.canWakes ∧ (s.setGuard k x).uarts = s.uarts ∧ (s.setGuard k x).sw = s.sw ∧
    (s.setGuard k x).policers = s.policers ∧ (s.setGuard k x).shapers = s.shapers ∧ (s.setGuard k x).stas = s.stas ∧
    (s.setGuard k x).prp = s.prp ∧ (s.setGuard k x).cores = s.cores ∧ (s.setGuard k x).ecc = s.ecc ∧
    (s.setGuard k x).queues = s.queues ∧ (s.setGuard k x).dram = s.dram ∧ (s.setGuard k x).pair = s.pair ∧
    (s.setGuard k x).mramEpochs = s.mramEpochs ∧ (s.setGuard k x).power = s.power ∧
    (s.setGuard k x).start = s.start ∧ (s.setGuard k x).comet = s.comet ∧ (s.setGuard k x).cache = s.cache ∧
    (s.setGuard k x).fuses = s.fuses ∧ (s.setGuard k x).boot = s.boot ∧ (s.setGuard k x).host = s.host ∧
    (s.setGuard k x).mgmt = s.mgmt ∧ (s.setGuard k x).usb = s.usb :=
  ⟨rfl, rfl, rfl, rfl, rfl, rfl, rfl, rfl, rfl, rfl, rfl, rfl, rfl, rfl, rfl, rfl, rfl, rfl, rfl, rfl, rfl, rfl,
  rfl, rfl, rfl, rfl, rfl, rfl, rfl, rfl, rfl, rfl, rfl, rfl, rfl, rfl, rfl, rfl, rfl, rfl, rfl, rfl, rfl, rfl,
  rfl, rfl, rfl, rfl, rfl, rfl, rfl, rfl, rfl⟩
@[simp] theorem State.setGuard_reads (k : Nat) (x : Guard) :
    (∀ a, (s.setGuard k x).reg a = s.reg a) ∧ (∀ a i, (s.setGuard k x).flag a i = s.flag a i) ∧
    (∀ a i n, (s.setGuard k x).field a i n = s.field a i n) ∧ (∀ u, (s.setGuard k x).enabled u = s.enabled u) ∧
    (s.setGuard k x).now = s.now ∧ (∀ u, (s.setGuard k x).isBusy u = s.isBusy u) := by
  simp [State.reg, State.flag, State.field, State.enabled, State.now, State.isBusy]
@[simp] theorem State.guard_setGuard (k : Nat) (x : Guard) (a : Nat) : (s.setGuard k x).guard a = if a = k then x else s.guard a := by
  simp [State.guard, State.setGuard]

@[simp] theorem State.setQueue_fields (k : Nat) (x : QueueState) :
    (s.setQueue k x).frc = s.frc ∧ (s.setQueue k x).clock = s.clock ∧ (s.setQueue k x).regs = s.regs ∧
    (s.setQueue k x).mem = s.mem ∧ (s.setQueue k x).pending = s.pending ∧ (s.setQueue k x).out = s.out ∧
    (s.setQueue k x).free = s.free ∧ (s.setQueue k x).shadows = s.shadows ∧ (s.setQueue k x).staged = s.staged ∧
    (s.setQueue k x).guards = s.guards ∧ (s.setQueue k x).busy = s.busy ∧ (s.setQueue k x).held = s.held ∧
    (s.setQueue k x).cfg = s.cfg ∧ (s.setQueue k x).image = s.image ∧ (s.setQueue k x).fences = s.fences ∧
    (s.setQueue k x).fenceCounts = s.fenceCounts ∧ (s.setQueue k x).hostFence = s.hostFence ∧
    (s.setQueue k x).fault = s.fault ∧ (s.setQueue k x).dieLink = s.dieLink ∧ (s.setQueue k x).time = s.time ∧
    (s.setQueue k x).tins = s.tins ∧ (s.setQueue k x).ptp = s.ptp ∧ (s.setQueue k x).angle = s.angle ∧
    (s.setQueue k x).links = s.links ∧ (s.setQueue k x).bypass = s.bypass ∧ (s.setQueue k x).ring = s.ring ∧
    (s.setQueue k x).bridge = s.bridge ∧ (s.setQueue k x).ephem = s.ephem ∧ (s.setQueue k x).pins = s.pins ∧
    (s.setQueue k x).banks = s.banks ∧ (s.setQueue k x).engines = s.engines ∧ (s.setQueue k x).cans = s.cans ∧
    (s.setQueue k x).canWakes = s.canWakes ∧ (s.setQueue k x).uarts = s.uarts ∧ (s.setQueue k x).sw = s.sw ∧
    (s.setQueue k x).policers = s.policers ∧ (s.setQueue k x).shapers = s.shapers ∧ (s.setQueue k x).stas = s.stas ∧
    (s.setQueue k x).prp = s.prp ∧ (s.setQueue k x).cores = s.cores ∧ (s.setQueue k x).ecc = s.ecc ∧
    (s.setQueue k x).dram = s.dram ∧ (s.setQueue k x).pair = s.pair ∧ (s.setQueue k x).mramEpochs = s.mramEpochs ∧
    (s.setQueue k x).power = s.power ∧ (s.setQueue k x).start = s.start ∧ (s.setQueue k x).comet = s.comet ∧
    (s.setQueue k x).cache = s.cache ∧ (s.setQueue k x).fuses = s.fuses ∧ (s.setQueue k x).boot = s.boot ∧
    (s.setQueue k x).host = s.host ∧ (s.setQueue k x).mgmt = s.mgmt ∧ (s.setQueue k x).usb = s.usb :=
  ⟨rfl, rfl, rfl, rfl, rfl, rfl, rfl, rfl, rfl, rfl, rfl, rfl, rfl, rfl, rfl, rfl, rfl, rfl, rfl, rfl, rfl, rfl,
  rfl, rfl, rfl, rfl, rfl, rfl, rfl, rfl, rfl, rfl, rfl, rfl, rfl, rfl, rfl, rfl, rfl, rfl, rfl, rfl, rfl, rfl,
  rfl, rfl, rfl, rfl, rfl, rfl, rfl, rfl, rfl⟩
@[simp] theorem State.setQueue_reads (k : Nat) (x : QueueState) :
    (∀ a, (s.setQueue k x).reg a = s.reg a) ∧ (∀ a i, (s.setQueue k x).flag a i = s.flag a i) ∧
    (∀ a i n, (s.setQueue k x).field a i n = s.field a i n) ∧ (∀ u, (s.setQueue k x).enabled u = s.enabled u) ∧
    (s.setQueue k x).now = s.now ∧ (∀ u, (s.setQueue k x).isBusy u = s.isBusy u) := by
  simp [State.reg, State.flag, State.field, State.enabled, State.now, State.isBusy]
@[simp] theorem State.queue_setQueue (k : Nat) (x : QueueState) (a : Nat) : (s.setQueue k x).queue a = if a = k then x else s.queue a := by
  simp [State.queue, State.setQueue]

@[simp] theorem State.setCan_fields (k : Nat) (x : CanState) :
    (s.setCan k x).frc = s.frc ∧ (s.setCan k x).clock = s.clock ∧ (s.setCan k x).regs = s.regs ∧
    (s.setCan k x).mem = s.mem ∧ (s.setCan k x).pending = s.pending ∧ (s.setCan k x).out = s.out ∧
    (s.setCan k x).free = s.free ∧ (s.setCan k x).shadows = s.shadows ∧ (s.setCan k x).staged = s.staged ∧
    (s.setCan k x).guards = s.guards ∧ (s.setCan k x).busy = s.busy ∧ (s.setCan k x).held = s.held ∧
    (s.setCan k x).cfg = s.cfg ∧ (s.setCan k x).image = s.image ∧ (s.setCan k x).fences = s.fences ∧
    (s.setCan k x).fenceCounts = s.fenceCounts ∧ (s.setCan k x).hostFence = s.hostFence ∧
    (s.setCan k x).fault = s.fault ∧ (s.setCan k x).dieLink = s.dieLink ∧ (s.setCan k x).time = s.time ∧
    (s.setCan k x).tins = s.tins ∧ (s.setCan k x).ptp = s.ptp ∧ (s.setCan k x).angle = s.angle ∧
    (s.setCan k x).links = s.links ∧ (s.setCan k x).bypass = s.bypass ∧ (s.setCan k x).ring = s.ring ∧
    (s.setCan k x).bridge = s.bridge ∧ (s.setCan k x).ephem = s.ephem ∧ (s.setCan k x).pins = s.pins ∧
    (s.setCan k x).banks = s.banks ∧ (s.setCan k x).engines = s.engines ∧ (s.setCan k x).canWakes = s.canWakes ∧
    (s.setCan k x).uarts = s.uarts ∧ (s.setCan k x).sw = s.sw ∧ (s.setCan k x).policers = s.policers ∧
    (s.setCan k x).shapers = s.shapers ∧ (s.setCan k x).stas = s.stas ∧ (s.setCan k x).prp = s.prp ∧
    (s.setCan k x).cores = s.cores ∧ (s.setCan k x).ecc = s.ecc ∧ (s.setCan k x).queues = s.queues ∧
    (s.setCan k x).dram = s.dram ∧ (s.setCan k x).pair = s.pair ∧ (s.setCan k x).mramEpochs = s.mramEpochs ∧
    (s.setCan k x).power = s.power ∧ (s.setCan k x).start = s.start ∧ (s.setCan k x).comet = s.comet ∧
    (s.setCan k x).cache = s.cache ∧ (s.setCan k x).fuses = s.fuses ∧ (s.setCan k x).boot = s.boot ∧
    (s.setCan k x).host = s.host ∧ (s.setCan k x).mgmt = s.mgmt ∧ (s.setCan k x).usb = s.usb :=
  ⟨rfl, rfl, rfl, rfl, rfl, rfl, rfl, rfl, rfl, rfl, rfl, rfl, rfl, rfl, rfl, rfl, rfl, rfl, rfl, rfl, rfl, rfl,
  rfl, rfl, rfl, rfl, rfl, rfl, rfl, rfl, rfl, rfl, rfl, rfl, rfl, rfl, rfl, rfl, rfl, rfl, rfl, rfl, rfl, rfl,
  rfl, rfl, rfl, rfl, rfl, rfl, rfl, rfl, rfl⟩
@[simp] theorem State.setCan_reads (k : Nat) (x : CanState) :
    (∀ a, (s.setCan k x).reg a = s.reg a) ∧ (∀ a i, (s.setCan k x).flag a i = s.flag a i) ∧
    (∀ a i n, (s.setCan k x).field a i n = s.field a i n) ∧ (∀ u, (s.setCan k x).enabled u = s.enabled u) ∧
    (s.setCan k x).now = s.now ∧ (∀ u, (s.setCan k x).isBusy u = s.isBusy u) := by
  simp [State.reg, State.flag, State.field, State.enabled, State.now, State.isBusy]
@[simp] theorem State.can_setCan (k : Nat) (x : CanState) (a : Nat) : (s.setCan k x).can a = if a = k then x else s.can a := by
  simp [State.can, State.setCan]

@[simp] theorem State.setCanWake_fields (k : Nat) (x : CanWake) :
    (s.setCanWake k x).frc = s.frc ∧ (s.setCanWake k x).clock = s.clock ∧ (s.setCanWake k x).regs = s.regs ∧
    (s.setCanWake k x).mem = s.mem ∧ (s.setCanWake k x).pending = s.pending ∧ (s.setCanWake k x).out = s.out ∧
    (s.setCanWake k x).free = s.free ∧ (s.setCanWake k x).shadows = s.shadows ∧
    (s.setCanWake k x).staged = s.staged ∧ (s.setCanWake k x).guards = s.guards ∧ (s.setCanWake k x).busy = s.busy ∧
    (s.setCanWake k x).held = s.held ∧ (s.setCanWake k x).cfg = s.cfg ∧ (s.setCanWake k x).image = s.image ∧
    (s.setCanWake k x).fences = s.fences ∧ (s.setCanWake k x).fenceCounts = s.fenceCounts ∧
    (s.setCanWake k x).hostFence = s.hostFence ∧ (s.setCanWake k x).fault = s.fault ∧
    (s.setCanWake k x).dieLink = s.dieLink ∧ (s.setCanWake k x).time = s.time ∧ (s.setCanWake k x).tins = s.tins ∧
    (s.setCanWake k x).ptp = s.ptp ∧ (s.setCanWake k x).angle = s.angle ∧ (s.setCanWake k x).links = s.links ∧
    (s.setCanWake k x).bypass = s.bypass ∧ (s.setCanWake k x).ring = s.ring ∧ (s.setCanWake k x).bridge = s.bridge ∧
    (s.setCanWake k x).ephem = s.ephem ∧ (s.setCanWake k x).pins = s.pins ∧ (s.setCanWake k x).banks = s.banks ∧
    (s.setCanWake k x).engines = s.engines ∧ (s.setCanWake k x).cans = s.cans ∧ (s.setCanWake k x).uarts = s.uarts ∧
    (s.setCanWake k x).sw = s.sw ∧ (s.setCanWake k x).policers = s.policers ∧
    (s.setCanWake k x).shapers = s.shapers ∧ (s.setCanWake k x).stas = s.stas ∧ (s.setCanWake k x).prp = s.prp ∧
    (s.setCanWake k x).cores = s.cores ∧ (s.setCanWake k x).ecc = s.ecc ∧ (s.setCanWake k x).queues = s.queues ∧
    (s.setCanWake k x).dram = s.dram ∧ (s.setCanWake k x).pair = s.pair ∧
    (s.setCanWake k x).mramEpochs = s.mramEpochs ∧ (s.setCanWake k x).power = s.power ∧
    (s.setCanWake k x).start = s.start ∧ (s.setCanWake k x).comet = s.comet ∧ (s.setCanWake k x).cache = s.cache ∧
    (s.setCanWake k x).fuses = s.fuses ∧ (s.setCanWake k x).boot = s.boot ∧ (s.setCanWake k x).host = s.host ∧
    (s.setCanWake k x).mgmt = s.mgmt ∧ (s.setCanWake k x).usb = s.usb :=
  ⟨rfl, rfl, rfl, rfl, rfl, rfl, rfl, rfl, rfl, rfl, rfl, rfl, rfl, rfl, rfl, rfl, rfl, rfl, rfl, rfl, rfl, rfl,
  rfl, rfl, rfl, rfl, rfl, rfl, rfl, rfl, rfl, rfl, rfl, rfl, rfl, rfl, rfl, rfl, rfl, rfl, rfl, rfl, rfl, rfl,
  rfl, rfl, rfl, rfl, rfl, rfl, rfl, rfl, rfl⟩
@[simp] theorem State.setCanWake_reads (k : Nat) (x : CanWake) :
    (∀ a, (s.setCanWake k x).reg a = s.reg a) ∧ (∀ a i, (s.setCanWake k x).flag a i = s.flag a i) ∧
    (∀ a i n, (s.setCanWake k x).field a i n = s.field a i n) ∧ (∀ u, (s.setCanWake k x).enabled u = s.enabled u) ∧
    (s.setCanWake k x).now = s.now ∧ (∀ u, (s.setCanWake k x).isBusy u = s.isBusy u) := by
  simp [State.reg, State.flag, State.field, State.enabled, State.now, State.isBusy]
@[simp] theorem State.canWakeOf_setCanWake (k : Nat) (x : CanWake) (a : Nat) : (s.setCanWake k x).canWakeOf a = if a = k then x else s.canWakeOf a := by
  simp [State.canWakeOf, State.setCanWake]

@[simp] theorem State.setUart_fields (k : Nat) (x : UartState) :
    (s.setUart k x).frc = s.frc ∧ (s.setUart k x).clock = s.clock ∧ (s.setUart k x).regs = s.regs ∧
    (s.setUart k x).mem = s.mem ∧ (s.setUart k x).pending = s.pending ∧ (s.setUart k x).out = s.out ∧
    (s.setUart k x).free = s.free ∧ (s.setUart k x).shadows = s.shadows ∧ (s.setUart k x).staged = s.staged ∧
    (s.setUart k x).guards = s.guards ∧ (s.setUart k x).busy = s.busy ∧ (s.setUart k x).held = s.held ∧
    (s.setUart k x).cfg = s.cfg ∧ (s.setUart k x).image = s.image ∧ (s.setUart k x).fences = s.fences ∧
    (s.setUart k x).fenceCounts = s.fenceCounts ∧ (s.setUart k x).hostFence = s.hostFence ∧
    (s.setUart k x).fault = s.fault ∧ (s.setUart k x).dieLink = s.dieLink ∧ (s.setUart k x).time = s.time ∧
    (s.setUart k x).tins = s.tins ∧ (s.setUart k x).ptp = s.ptp ∧ (s.setUart k x).angle = s.angle ∧
    (s.setUart k x).links = s.links ∧ (s.setUart k x).bypass = s.bypass ∧ (s.setUart k x).ring = s.ring ∧
    (s.setUart k x).bridge = s.bridge ∧ (s.setUart k x).ephem = s.ephem ∧ (s.setUart k x).pins = s.pins ∧
    (s.setUart k x).banks = s.banks ∧ (s.setUart k x).engines = s.engines ∧ (s.setUart k x).cans = s.cans ∧
    (s.setUart k x).canWakes = s.canWakes ∧ (s.setUart k x).sw = s.sw ∧ (s.setUart k x).policers = s.policers ∧
    (s.setUart k x).shapers = s.shapers ∧ (s.setUart k x).stas = s.stas ∧ (s.setUart k x).prp = s.prp ∧
    (s.setUart k x).cores = s.cores ∧ (s.setUart k x).ecc = s.ecc ∧ (s.setUart k x).queues = s.queues ∧
    (s.setUart k x).dram = s.dram ∧ (s.setUart k x).pair = s.pair ∧ (s.setUart k x).mramEpochs = s.mramEpochs ∧
    (s.setUart k x).power = s.power ∧ (s.setUart k x).start = s.start ∧ (s.setUart k x).comet = s.comet ∧
    (s.setUart k x).cache = s.cache ∧ (s.setUart k x).fuses = s.fuses ∧ (s.setUart k x).boot = s.boot ∧
    (s.setUart k x).host = s.host ∧ (s.setUart k x).mgmt = s.mgmt ∧ (s.setUart k x).usb = s.usb :=
  ⟨rfl, rfl, rfl, rfl, rfl, rfl, rfl, rfl, rfl, rfl, rfl, rfl, rfl, rfl, rfl, rfl, rfl, rfl, rfl, rfl, rfl, rfl,
  rfl, rfl, rfl, rfl, rfl, rfl, rfl, rfl, rfl, rfl, rfl, rfl, rfl, rfl, rfl, rfl, rfl, rfl, rfl, rfl, rfl, rfl,
  rfl, rfl, rfl, rfl, rfl, rfl, rfl, rfl, rfl⟩
@[simp] theorem State.setUart_reads (k : Nat) (x : UartState) :
    (∀ a, (s.setUart k x).reg a = s.reg a) ∧ (∀ a i, (s.setUart k x).flag a i = s.flag a i) ∧
    (∀ a i n, (s.setUart k x).field a i n = s.field a i n) ∧ (∀ u, (s.setUart k x).enabled u = s.enabled u) ∧
    (s.setUart k x).now = s.now ∧ (∀ u, (s.setUart k x).isBusy u = s.isBusy u) := by
  simp [State.reg, State.flag, State.field, State.enabled, State.now, State.isBusy]
@[simp] theorem State.uart_setUart (k : Nat) (x : UartState) (a : Nat) : (s.setUart k x).uart a = if a = k then x else s.uart a := by
  simp [State.uart, State.setUart]

@[simp] theorem State.setEng_fields (k : Nat) (x : EngineState) :
    (s.setEng k x).frc = s.frc ∧ (s.setEng k x).clock = s.clock ∧ (s.setEng k x).regs = s.regs ∧
    (s.setEng k x).mem = s.mem ∧ (s.setEng k x).pending = s.pending ∧ (s.setEng k x).out = s.out ∧
    (s.setEng k x).free = s.free ∧ (s.setEng k x).shadows = s.shadows ∧ (s.setEng k x).staged = s.staged ∧
    (s.setEng k x).guards = s.guards ∧ (s.setEng k x).busy = s.busy ∧ (s.setEng k x).held = s.held ∧
    (s.setEng k x).cfg = s.cfg ∧ (s.setEng k x).image = s.image ∧ (s.setEng k x).fences = s.fences ∧
    (s.setEng k x).fenceCounts = s.fenceCounts ∧ (s.setEng k x).hostFence = s.hostFence ∧
    (s.setEng k x).fault = s.fault ∧ (s.setEng k x).dieLink = s.dieLink ∧ (s.setEng k x).time = s.time ∧
    (s.setEng k x).tins = s.tins ∧ (s.setEng k x).ptp = s.ptp ∧ (s.setEng k x).angle = s.angle ∧
    (s.setEng k x).links = s.links ∧ (s.setEng k x).bypass = s.bypass ∧ (s.setEng k x).ring = s.ring ∧
    (s.setEng k x).bridge = s.bridge ∧ (s.setEng k x).ephem = s.ephem ∧ (s.setEng k x).pins = s.pins ∧
    (s.setEng k x).banks = s.banks ∧ (s.setEng k x).cans = s.cans ∧ (s.setEng k x).canWakes = s.canWakes ∧
    (s.setEng k x).uarts = s.uarts ∧ (s.setEng k x).sw = s.sw ∧ (s.setEng k x).policers = s.policers ∧
    (s.setEng k x).shapers = s.shapers ∧ (s.setEng k x).stas = s.stas ∧ (s.setEng k x).prp = s.prp ∧
    (s.setEng k x).cores = s.cores ∧ (s.setEng k x).ecc = s.ecc ∧ (s.setEng k x).queues = s.queues ∧
    (s.setEng k x).dram = s.dram ∧ (s.setEng k x).pair = s.pair ∧ (s.setEng k x).mramEpochs = s.mramEpochs ∧
    (s.setEng k x).power = s.power ∧ (s.setEng k x).start = s.start ∧ (s.setEng k x).comet = s.comet ∧
    (s.setEng k x).cache = s.cache ∧ (s.setEng k x).fuses = s.fuses ∧ (s.setEng k x).boot = s.boot ∧
    (s.setEng k x).host = s.host ∧ (s.setEng k x).mgmt = s.mgmt ∧ (s.setEng k x).usb = s.usb :=
  ⟨rfl, rfl, rfl, rfl, rfl, rfl, rfl, rfl, rfl, rfl, rfl, rfl, rfl, rfl, rfl, rfl, rfl, rfl, rfl, rfl, rfl, rfl,
  rfl, rfl, rfl, rfl, rfl, rfl, rfl, rfl, rfl, rfl, rfl, rfl, rfl, rfl, rfl, rfl, rfl, rfl, rfl, rfl, rfl, rfl,
  rfl, rfl, rfl, rfl, rfl, rfl, rfl, rfl, rfl⟩
@[simp] theorem State.setEng_reads (k : Nat) (x : EngineState) :
    (∀ a, (s.setEng k x).reg a = s.reg a) ∧ (∀ a i, (s.setEng k x).flag a i = s.flag a i) ∧
    (∀ a i n, (s.setEng k x).field a i n = s.field a i n) ∧ (∀ u, (s.setEng k x).enabled u = s.enabled u) ∧
    (s.setEng k x).now = s.now ∧ (∀ u, (s.setEng k x).isBusy u = s.isBusy u) := by
  simp [State.reg, State.flag, State.field, State.enabled, State.now, State.isBusy]
@[simp] theorem State.eng_setEng (k : Nat) (x : EngineState) (a : Nat) : (s.setEng k x).eng a = if a = k then x else s.eng a := by
  simp [State.eng, State.setEng]

@[simp] theorem State.setPin_fields (k : Nat) (x : PinState) :
    (s.setPin k x).frc = s.frc ∧ (s.setPin k x).clock = s.clock ∧ (s.setPin k x).regs = s.regs ∧
    (s.setPin k x).mem = s.mem ∧ (s.setPin k x).pending = s.pending ∧ (s.setPin k x).out = s.out ∧
    (s.setPin k x).free = s.free ∧ (s.setPin k x).shadows = s.shadows ∧ (s.setPin k x).staged = s.staged ∧
    (s.setPin k x).guards = s.guards ∧ (s.setPin k x).busy = s.busy ∧ (s.setPin k x).held = s.held ∧
    (s.setPin k x).cfg = s.cfg ∧ (s.setPin k x).image = s.image ∧ (s.setPin k x).fences = s.fences ∧
    (s.setPin k x).fenceCounts = s.fenceCounts ∧ (s.setPin k x).hostFence = s.hostFence ∧
    (s.setPin k x).fault = s.fault ∧ (s.setPin k x).dieLink = s.dieLink ∧ (s.setPin k x).time = s.time ∧
    (s.setPin k x).tins = s.tins ∧ (s.setPin k x).ptp = s.ptp ∧ (s.setPin k x).angle = s.angle ∧
    (s.setPin k x).links = s.links ∧ (s.setPin k x).bypass = s.bypass ∧ (s.setPin k x).ring = s.ring ∧
    (s.setPin k x).bridge = s.bridge ∧ (s.setPin k x).ephem = s.ephem ∧ (s.setPin k x).banks = s.banks ∧
    (s.setPin k x).engines = s.engines ∧ (s.setPin k x).cans = s.cans ∧ (s.setPin k x).canWakes = s.canWakes ∧
    (s.setPin k x).uarts = s.uarts ∧ (s.setPin k x).sw = s.sw ∧ (s.setPin k x).policers = s.policers ∧
    (s.setPin k x).shapers = s.shapers ∧ (s.setPin k x).stas = s.stas ∧ (s.setPin k x).prp = s.prp ∧
    (s.setPin k x).cores = s.cores ∧ (s.setPin k x).ecc = s.ecc ∧ (s.setPin k x).queues = s.queues ∧
    (s.setPin k x).dram = s.dram ∧ (s.setPin k x).pair = s.pair ∧ (s.setPin k x).mramEpochs = s.mramEpochs ∧
    (s.setPin k x).power = s.power ∧ (s.setPin k x).start = s.start ∧ (s.setPin k x).comet = s.comet ∧
    (s.setPin k x).cache = s.cache ∧ (s.setPin k x).fuses = s.fuses ∧ (s.setPin k x).boot = s.boot ∧
    (s.setPin k x).host = s.host ∧ (s.setPin k x).mgmt = s.mgmt ∧ (s.setPin k x).usb = s.usb :=
  ⟨rfl, rfl, rfl, rfl, rfl, rfl, rfl, rfl, rfl, rfl, rfl, rfl, rfl, rfl, rfl, rfl, rfl, rfl, rfl, rfl, rfl, rfl,
  rfl, rfl, rfl, rfl, rfl, rfl, rfl, rfl, rfl, rfl, rfl, rfl, rfl, rfl, rfl, rfl, rfl, rfl, rfl, rfl, rfl, rfl,
  rfl, rfl, rfl, rfl, rfl, rfl, rfl, rfl, rfl⟩
@[simp] theorem State.setPin_reads (k : Nat) (x : PinState) :
    (∀ a, (s.setPin k x).reg a = s.reg a) ∧ (∀ a i, (s.setPin k x).flag a i = s.flag a i) ∧
    (∀ a i n, (s.setPin k x).field a i n = s.field a i n) ∧ (∀ u, (s.setPin k x).enabled u = s.enabled u) ∧
    (s.setPin k x).now = s.now ∧ (∀ u, (s.setPin k x).isBusy u = s.isBusy u) := by
  simp [State.reg, State.flag, State.field, State.enabled, State.now, State.isBusy]
@[simp] theorem State.pin_setPin (k : Nat) (x : PinState) (a : Nat) : (s.setPin k x).pin a = if a = k then x else s.pin a := by
  simp [State.pin, State.setPin]

@[simp] theorem State.setBank_fields (k : Nat) (x : BankState) :
    (s.setBank k x).frc = s.frc ∧ (s.setBank k x).clock = s.clock ∧ (s.setBank k x).regs = s.regs ∧
    (s.setBank k x).mem = s.mem ∧ (s.setBank k x).pending = s.pending ∧ (s.setBank k x).out = s.out ∧
    (s.setBank k x).free = s.free ∧ (s.setBank k x).shadows = s.shadows ∧ (s.setBank k x).staged = s.staged ∧
    (s.setBank k x).guards = s.guards ∧ (s.setBank k x).busy = s.busy ∧ (s.setBank k x).held = s.held ∧
    (s.setBank k x).cfg = s.cfg ∧ (s.setBank k x).image = s.image ∧ (s.setBank k x).fences = s.fences ∧
    (s.setBank k x).fenceCounts = s.fenceCounts ∧ (s.setBank k x).hostFence = s.hostFence ∧
    (s.setBank k x).fault = s.fault ∧ (s.setBank k x).dieLink = s.dieLink ∧ (s.setBank k x).time = s.time ∧
    (s.setBank k x).tins = s.tins ∧ (s.setBank k x).ptp = s.ptp ∧ (s.setBank k x).angle = s.angle ∧
    (s.setBank k x).links = s.links ∧ (s.setBank k x).bypass = s.bypass ∧ (s.setBank k x).ring = s.ring ∧
    (s.setBank k x).bridge = s.bridge ∧ (s.setBank k x).ephem = s.ephem ∧ (s.setBank k x).pins = s.pins ∧
    (s.setBank k x).engines = s.engines ∧ (s.setBank k x).cans = s.cans ∧ (s.setBank k x).canWakes = s.canWakes ∧
    (s.setBank k x).uarts = s.uarts ∧ (s.setBank k x).sw = s.sw ∧ (s.setBank k x).policers = s.policers ∧
    (s.setBank k x).shapers = s.shapers ∧ (s.setBank k x).stas = s.stas ∧ (s.setBank k x).prp = s.prp ∧
    (s.setBank k x).cores = s.cores ∧ (s.setBank k x).ecc = s.ecc ∧ (s.setBank k x).queues = s.queues ∧
    (s.setBank k x).dram = s.dram ∧ (s.setBank k x).pair = s.pair ∧ (s.setBank k x).mramEpochs = s.mramEpochs ∧
    (s.setBank k x).power = s.power ∧ (s.setBank k x).start = s.start ∧ (s.setBank k x).comet = s.comet ∧
    (s.setBank k x).cache = s.cache ∧ (s.setBank k x).fuses = s.fuses ∧ (s.setBank k x).boot = s.boot ∧
    (s.setBank k x).host = s.host ∧ (s.setBank k x).mgmt = s.mgmt ∧ (s.setBank k x).usb = s.usb :=
  ⟨rfl, rfl, rfl, rfl, rfl, rfl, rfl, rfl, rfl, rfl, rfl, rfl, rfl, rfl, rfl, rfl, rfl, rfl, rfl, rfl, rfl, rfl,
  rfl, rfl, rfl, rfl, rfl, rfl, rfl, rfl, rfl, rfl, rfl, rfl, rfl, rfl, rfl, rfl, rfl, rfl, rfl, rfl, rfl, rfl,
  rfl, rfl, rfl, rfl, rfl, rfl, rfl, rfl, rfl⟩
@[simp] theorem State.setBank_reads (k : Nat) (x : BankState) :
    (∀ a, (s.setBank k x).reg a = s.reg a) ∧ (∀ a i, (s.setBank k x).flag a i = s.flag a i) ∧
    (∀ a i n, (s.setBank k x).field a i n = s.field a i n) ∧ (∀ u, (s.setBank k x).enabled u = s.enabled u) ∧
    (s.setBank k x).now = s.now ∧ (∀ u, (s.setBank k x).isBusy u = s.isBusy u) := by
  simp [State.reg, State.flag, State.field, State.enabled, State.now, State.isBusy]
@[simp] theorem State.bank_setBank (k : Nat) (x : BankState) (a : Nat) : (s.setBank k x).bank a = if a = k then x else s.bank a := by
  simp [State.bank, State.setBank]

@[simp] theorem State.setLink_fields (k : Port) (x : LinkState) :
    (s.setLink k x).frc = s.frc ∧ (s.setLink k x).clock = s.clock ∧ (s.setLink k x).regs = s.regs ∧
    (s.setLink k x).mem = s.mem ∧ (s.setLink k x).pending = s.pending ∧ (s.setLink k x).out = s.out ∧
    (s.setLink k x).free = s.free ∧ (s.setLink k x).shadows = s.shadows ∧ (s.setLink k x).staged = s.staged ∧
    (s.setLink k x).guards = s.guards ∧ (s.setLink k x).busy = s.busy ∧ (s.setLink k x).held = s.held ∧
    (s.setLink k x).cfg = s.cfg ∧ (s.setLink k x).image = s.image ∧ (s.setLink k x).fences = s.fences ∧
    (s.setLink k x).fenceCounts = s.fenceCounts ∧ (s.setLink k x).hostFence = s.hostFence ∧
    (s.setLink k x).fault = s.fault ∧ (s.setLink k x).dieLink = s.dieLink ∧ (s.setLink k x).time = s.time ∧
    (s.setLink k x).tins = s.tins ∧ (s.setLink k x).ptp = s.ptp ∧ (s.setLink k x).angle = s.angle ∧
    (s.setLink k x).bypass = s.bypass ∧ (s.setLink k x).ring = s.ring ∧ (s.setLink k x).bridge = s.bridge ∧
    (s.setLink k x).ephem = s.ephem ∧ (s.setLink k x).pins = s.pins ∧ (s.setLink k x).banks = s.banks ∧
    (s.setLink k x).engines = s.engines ∧ (s.setLink k x).cans = s.cans ∧ (s.setLink k x).canWakes = s.canWakes ∧
    (s.setLink k x).uarts = s.uarts ∧ (s.setLink k x).sw = s.sw ∧ (s.setLink k x).policers = s.policers ∧
    (s.setLink k x).shapers = s.shapers ∧ (s.setLink k x).stas = s.stas ∧ (s.setLink k x).prp = s.prp ∧
    (s.setLink k x).cores = s.cores ∧ (s.setLink k x).ecc = s.ecc ∧ (s.setLink k x).queues = s.queues ∧
    (s.setLink k x).dram = s.dram ∧ (s.setLink k x).pair = s.pair ∧ (s.setLink k x).mramEpochs = s.mramEpochs ∧
    (s.setLink k x).power = s.power ∧ (s.setLink k x).start = s.start ∧ (s.setLink k x).comet = s.comet ∧
    (s.setLink k x).cache = s.cache ∧ (s.setLink k x).fuses = s.fuses ∧ (s.setLink k x).boot = s.boot ∧
    (s.setLink k x).host = s.host ∧ (s.setLink k x).mgmt = s.mgmt ∧ (s.setLink k x).usb = s.usb :=
  ⟨rfl, rfl, rfl, rfl, rfl, rfl, rfl, rfl, rfl, rfl, rfl, rfl, rfl, rfl, rfl, rfl, rfl, rfl, rfl, rfl, rfl, rfl,
  rfl, rfl, rfl, rfl, rfl, rfl, rfl, rfl, rfl, rfl, rfl, rfl, rfl, rfl, rfl, rfl, rfl, rfl, rfl, rfl, rfl, rfl,
  rfl, rfl, rfl, rfl, rfl, rfl, rfl, rfl, rfl⟩
@[simp] theorem State.setLink_reads (k : Port) (x : LinkState) :
    (∀ a, (s.setLink k x).reg a = s.reg a) ∧ (∀ a i, (s.setLink k x).flag a i = s.flag a i) ∧
    (∀ a i n, (s.setLink k x).field a i n = s.field a i n) ∧ (∀ u, (s.setLink k x).enabled u = s.enabled u) ∧
    (s.setLink k x).now = s.now ∧ (∀ u, (s.setLink k x).isBusy u = s.isBusy u) := by
  simp [State.reg, State.flag, State.field, State.enabled, State.now, State.isBusy]

@[simp] theorem State.setSta_fields (k : Nat) (x : StaState) :
    (s.setSta k x).frc = s.frc ∧ (s.setSta k x).clock = s.clock ∧ (s.setSta k x).regs = s.regs ∧
    (s.setSta k x).mem = s.mem ∧ (s.setSta k x).pending = s.pending ∧ (s.setSta k x).out = s.out ∧
    (s.setSta k x).free = s.free ∧ (s.setSta k x).shadows = s.shadows ∧ (s.setSta k x).staged = s.staged ∧
    (s.setSta k x).guards = s.guards ∧ (s.setSta k x).busy = s.busy ∧ (s.setSta k x).held = s.held ∧
    (s.setSta k x).cfg = s.cfg ∧ (s.setSta k x).image = s.image ∧ (s.setSta k x).fences = s.fences ∧
    (s.setSta k x).fenceCounts = s.fenceCounts ∧ (s.setSta k x).hostFence = s.hostFence ∧
    (s.setSta k x).fault = s.fault ∧ (s.setSta k x).dieLink = s.dieLink ∧ (s.setSta k x).time = s.time ∧
    (s.setSta k x).tins = s.tins ∧ (s.setSta k x).ptp = s.ptp ∧ (s.setSta k x).angle = s.angle ∧
    (s.setSta k x).links = s.links ∧ (s.setSta k x).bypass = s.bypass ∧ (s.setSta k x).ring = s.ring ∧
    (s.setSta k x).bridge = s.bridge ∧ (s.setSta k x).ephem = s.ephem ∧ (s.setSta k x).pins = s.pins ∧
    (s.setSta k x).banks = s.banks ∧ (s.setSta k x).engines = s.engines ∧ (s.setSta k x).cans = s.cans ∧
    (s.setSta k x).canWakes = s.canWakes ∧ (s.setSta k x).uarts = s.uarts ∧ (s.setSta k x).sw = s.sw ∧
    (s.setSta k x).policers = s.policers ∧ (s.setSta k x).shapers = s.shapers ∧ (s.setSta k x).prp = s.prp ∧
    (s.setSta k x).cores = s.cores ∧ (s.setSta k x).ecc = s.ecc ∧ (s.setSta k x).queues = s.queues ∧
    (s.setSta k x).dram = s.dram ∧ (s.setSta k x).pair = s.pair ∧ (s.setSta k x).mramEpochs = s.mramEpochs ∧
    (s.setSta k x).power = s.power ∧ (s.setSta k x).start = s.start ∧ (s.setSta k x).comet = s.comet ∧
    (s.setSta k x).cache = s.cache ∧ (s.setSta k x).fuses = s.fuses ∧ (s.setSta k x).boot = s.boot ∧
    (s.setSta k x).host = s.host ∧ (s.setSta k x).mgmt = s.mgmt ∧ (s.setSta k x).usb = s.usb :=
  ⟨rfl, rfl, rfl, rfl, rfl, rfl, rfl, rfl, rfl, rfl, rfl, rfl, rfl, rfl, rfl, rfl, rfl, rfl, rfl, rfl, rfl, rfl,
  rfl, rfl, rfl, rfl, rfl, rfl, rfl, rfl, rfl, rfl, rfl, rfl, rfl, rfl, rfl, rfl, rfl, rfl, rfl, rfl, rfl, rfl,
  rfl, rfl, rfl, rfl, rfl, rfl, rfl, rfl, rfl⟩
@[simp] theorem State.setSta_reads (k : Nat) (x : StaState) :
    (∀ a, (s.setSta k x).reg a = s.reg a) ∧ (∀ a i, (s.setSta k x).flag a i = s.flag a i) ∧
    (∀ a i n, (s.setSta k x).field a i n = s.field a i n) ∧ (∀ u, (s.setSta k x).enabled u = s.enabled u) ∧
    (s.setSta k x).now = s.now ∧ (∀ u, (s.setSta k x).isBusy u = s.isBusy u) := by
  simp [State.reg, State.flag, State.field, State.enabled, State.now, State.isBusy]
@[simp] theorem State.sta_setSta (k : Nat) (x : StaState) (a : Nat) : (s.setSta k x).sta a = if a = k then x else s.sta a := by
  simp [State.sta, State.setSta]

@[simp] theorem State.setCore_fields (k : Nat) (x : CoreState) :
    (s.setCore k x).frc = s.frc ∧ (s.setCore k x).clock = s.clock ∧ (s.setCore k x).regs = s.regs ∧
    (s.setCore k x).mem = s.mem ∧ (s.setCore k x).pending = s.pending ∧ (s.setCore k x).out = s.out ∧
    (s.setCore k x).free = s.free ∧ (s.setCore k x).shadows = s.shadows ∧ (s.setCore k x).staged = s.staged ∧
    (s.setCore k x).guards = s.guards ∧ (s.setCore k x).busy = s.busy ∧ (s.setCore k x).held = s.held ∧
    (s.setCore k x).cfg = s.cfg ∧ (s.setCore k x).image = s.image ∧ (s.setCore k x).fences = s.fences ∧
    (s.setCore k x).fenceCounts = s.fenceCounts ∧ (s.setCore k x).hostFence = s.hostFence ∧
    (s.setCore k x).fault = s.fault ∧ (s.setCore k x).dieLink = s.dieLink ∧ (s.setCore k x).time = s.time ∧
    (s.setCore k x).tins = s.tins ∧ (s.setCore k x).ptp = s.ptp ∧ (s.setCore k x).angle = s.angle ∧
    (s.setCore k x).links = s.links ∧ (s.setCore k x).bypass = s.bypass ∧ (s.setCore k x).ring = s.ring ∧
    (s.setCore k x).bridge = s.bridge ∧ (s.setCore k x).ephem = s.ephem ∧ (s.setCore k x).pins = s.pins ∧
    (s.setCore k x).banks = s.banks ∧ (s.setCore k x).engines = s.engines ∧ (s.setCore k x).cans = s.cans ∧
    (s.setCore k x).canWakes = s.canWakes ∧ (s.setCore k x).uarts = s.uarts ∧ (s.setCore k x).sw = s.sw ∧
    (s.setCore k x).policers = s.policers ∧ (s.setCore k x).shapers = s.shapers ∧ (s.setCore k x).stas = s.stas ∧
    (s.setCore k x).prp = s.prp ∧ (s.setCore k x).ecc = s.ecc ∧ (s.setCore k x).queues = s.queues ∧
    (s.setCore k x).dram = s.dram ∧ (s.setCore k x).pair = s.pair ∧ (s.setCore k x).mramEpochs = s.mramEpochs ∧
    (s.setCore k x).power = s.power ∧ (s.setCore k x).start = s.start ∧ (s.setCore k x).comet = s.comet ∧
    (s.setCore k x).cache = s.cache ∧ (s.setCore k x).fuses = s.fuses ∧ (s.setCore k x).boot = s.boot ∧
    (s.setCore k x).host = s.host ∧ (s.setCore k x).mgmt = s.mgmt ∧ (s.setCore k x).usb = s.usb :=
  ⟨rfl, rfl, rfl, rfl, rfl, rfl, rfl, rfl, rfl, rfl, rfl, rfl, rfl, rfl, rfl, rfl, rfl, rfl, rfl, rfl, rfl, rfl,
  rfl, rfl, rfl, rfl, rfl, rfl, rfl, rfl, rfl, rfl, rfl, rfl, rfl, rfl, rfl, rfl, rfl, rfl, rfl, rfl, rfl, rfl,
  rfl, rfl, rfl, rfl, rfl, rfl, rfl, rfl, rfl⟩
@[simp] theorem State.setCore_reads (k : Nat) (x : CoreState) :
    (∀ a, (s.setCore k x).reg a = s.reg a) ∧ (∀ a i, (s.setCore k x).flag a i = s.flag a i) ∧
    (∀ a i n, (s.setCore k x).field a i n = s.field a i n) ∧ (∀ u, (s.setCore k x).enabled u = s.enabled u) ∧
    (s.setCore k x).now = s.now ∧ (∀ u, (s.setCore k x).isBusy u = s.isBusy u) := by
  simp [State.reg, State.flag, State.field, State.enabled, State.now, State.isBusy]
@[simp] theorem State.core_setCore (k : Nat) (x : CoreState) (a : Nat) : (s.setCore k x).core a = if a = k then x else s.core a := by
  simp [State.core, State.setCore]

@[simp] theorem State.setFeed_fields (k : Nat) (x : FeedState) :
    (s.setFeed k x).frc = s.frc ∧ (s.setFeed k x).clock = s.clock ∧ (s.setFeed k x).regs = s.regs ∧
    (s.setFeed k x).mem = s.mem ∧ (s.setFeed k x).pending = s.pending ∧ (s.setFeed k x).out = s.out ∧
    (s.setFeed k x).free = s.free ∧ (s.setFeed k x).shadows = s.shadows ∧ (s.setFeed k x).staged = s.staged ∧
    (s.setFeed k x).guards = s.guards ∧ (s.setFeed k x).busy = s.busy ∧ (s.setFeed k x).held = s.held ∧
    (s.setFeed k x).cfg = s.cfg ∧ (s.setFeed k x).image = s.image ∧ (s.setFeed k x).fences = s.fences ∧
    (s.setFeed k x).fenceCounts = s.fenceCounts ∧ (s.setFeed k x).hostFence = s.hostFence ∧
    (s.setFeed k x).fault = s.fault ∧ (s.setFeed k x).dieLink = s.dieLink ∧ (s.setFeed k x).time = s.time ∧
    (s.setFeed k x).tins = s.tins ∧ (s.setFeed k x).ptp = s.ptp ∧ (s.setFeed k x).angle = s.angle ∧
    (s.setFeed k x).links = s.links ∧ (s.setFeed k x).bypass = s.bypass ∧ (s.setFeed k x).ring = s.ring ∧
    (s.setFeed k x).bridge = s.bridge ∧ (s.setFeed k x).ephem = s.ephem ∧ (s.setFeed k x).pins = s.pins ∧
    (s.setFeed k x).banks = s.banks ∧ (s.setFeed k x).engines = s.engines ∧ (s.setFeed k x).cans = s.cans ∧
    (s.setFeed k x).canWakes = s.canWakes ∧ (s.setFeed k x).uarts = s.uarts ∧ (s.setFeed k x).sw = s.sw ∧
    (s.setFeed k x).policers = s.policers ∧ (s.setFeed k x).shapers = s.shapers ∧ (s.setFeed k x).stas = s.stas ∧
    (s.setFeed k x).prp = s.prp ∧ (s.setFeed k x).cores = s.cores ∧ (s.setFeed k x).ecc = s.ecc ∧
    (s.setFeed k x).queues = s.queues ∧ (s.setFeed k x).dram = s.dram ∧ (s.setFeed k x).pair = s.pair ∧
    (s.setFeed k x).mramEpochs = s.mramEpochs ∧ (s.setFeed k x).start = s.start ∧ (s.setFeed k x).comet = s.comet ∧
    (s.setFeed k x).cache = s.cache ∧ (s.setFeed k x).fuses = s.fuses ∧ (s.setFeed k x).boot = s.boot ∧
    (s.setFeed k x).host = s.host ∧ (s.setFeed k x).mgmt = s.mgmt ∧ (s.setFeed k x).usb = s.usb :=
  ⟨rfl, rfl, rfl, rfl, rfl, rfl, rfl, rfl, rfl, rfl, rfl, rfl, rfl, rfl, rfl, rfl, rfl, rfl, rfl, rfl, rfl, rfl,
  rfl, rfl, rfl, rfl, rfl, rfl, rfl, rfl, rfl, rfl, rfl, rfl, rfl, rfl, rfl, rfl, rfl, rfl, rfl, rfl, rfl, rfl,
  rfl, rfl, rfl, rfl, rfl, rfl, rfl, rfl, rfl⟩
@[simp] theorem State.setFeed_reads (k : Nat) (x : FeedState) :
    (∀ a, (s.setFeed k x).reg a = s.reg a) ∧ (∀ a i, (s.setFeed k x).flag a i = s.flag a i) ∧
    (∀ a i n, (s.setFeed k x).field a i n = s.field a i n) ∧ (∀ u, (s.setFeed k x).enabled u = s.enabled u) ∧
    (s.setFeed k x).now = s.now ∧ (∀ u, (s.setFeed k x).isBusy u = s.isBusy u) := by
  simp [State.reg, State.flag, State.field, State.enabled, State.now, State.isBusy]
@[simp] theorem State.feed_setFeed (k : Nat) (x : FeedState) (a : Nat) : (s.setFeed k x).feed a = if a = k then x else s.feed a := by
  simp [State.feed, State.setFeed]

@[simp] theorem State.setGroup_fields (k : Nat) (x : GroupState) :
    (s.setGroup k x).frc = s.frc ∧ (s.setGroup k x).clock = s.clock ∧ (s.setGroup k x).regs = s.regs ∧
    (s.setGroup k x).mem = s.mem ∧ (s.setGroup k x).pending = s.pending ∧ (s.setGroup k x).out = s.out ∧
    (s.setGroup k x).free = s.free ∧ (s.setGroup k x).shadows = s.shadows ∧ (s.setGroup k x).staged = s.staged ∧
    (s.setGroup k x).guards = s.guards ∧ (s.setGroup k x).busy = s.busy ∧ (s.setGroup k x).held = s.held ∧
    (s.setGroup k x).cfg = s.cfg ∧ (s.setGroup k x).image = s.image ∧ (s.setGroup k x).fences = s.fences ∧
    (s.setGroup k x).fenceCounts = s.fenceCounts ∧ (s.setGroup k x).hostFence = s.hostFence ∧
    (s.setGroup k x).fault = s.fault ∧ (s.setGroup k x).dieLink = s.dieLink ∧ (s.setGroup k x).time = s.time ∧
    (s.setGroup k x).tins = s.tins ∧ (s.setGroup k x).ptp = s.ptp ∧ (s.setGroup k x).angle = s.angle ∧
    (s.setGroup k x).links = s.links ∧ (s.setGroup k x).bypass = s.bypass ∧ (s.setGroup k x).ring = s.ring ∧
    (s.setGroup k x).bridge = s.bridge ∧ (s.setGroup k x).ephem = s.ephem ∧ (s.setGroup k x).pins = s.pins ∧
    (s.setGroup k x).banks = s.banks ∧ (s.setGroup k x).engines = s.engines ∧ (s.setGroup k x).cans = s.cans ∧
    (s.setGroup k x).canWakes = s.canWakes ∧ (s.setGroup k x).uarts = s.uarts ∧ (s.setGroup k x).sw = s.sw ∧
    (s.setGroup k x).policers = s.policers ∧ (s.setGroup k x).shapers = s.shapers ∧ (s.setGroup k x).stas = s.stas ∧
    (s.setGroup k x).prp = s.prp ∧ (s.setGroup k x).cores = s.cores ∧ (s.setGroup k x).ecc = s.ecc ∧
    (s.setGroup k x).queues = s.queues ∧ (s.setGroup k x).dram = s.dram ∧ (s.setGroup k x).pair = s.pair ∧
    (s.setGroup k x).mramEpochs = s.mramEpochs ∧ (s.setGroup k x).start = s.start ∧
    (s.setGroup k x).comet = s.comet ∧ (s.setGroup k x).cache = s.cache ∧ (s.setGroup k x).fuses = s.fuses ∧
    (s.setGroup k x).boot = s.boot ∧ (s.setGroup k x).host = s.host ∧ (s.setGroup k x).mgmt = s.mgmt ∧
    (s.setGroup k x).usb = s.usb :=
  ⟨rfl, rfl, rfl, rfl, rfl, rfl, rfl, rfl, rfl, rfl, rfl, rfl, rfl, rfl, rfl, rfl, rfl, rfl, rfl, rfl, rfl, rfl,
  rfl, rfl, rfl, rfl, rfl, rfl, rfl, rfl, rfl, rfl, rfl, rfl, rfl, rfl, rfl, rfl, rfl, rfl, rfl, rfl, rfl, rfl,
  rfl, rfl, rfl, rfl, rfl, rfl, rfl, rfl, rfl⟩
@[simp] theorem State.setGroup_reads (k : Nat) (x : GroupState) :
    (∀ a, (s.setGroup k x).reg a = s.reg a) ∧ (∀ a i, (s.setGroup k x).flag a i = s.flag a i) ∧
    (∀ a i n, (s.setGroup k x).field a i n = s.field a i n) ∧ (∀ u, (s.setGroup k x).enabled u = s.enabled u) ∧
    (s.setGroup k x).now = s.now ∧ (∀ u, (s.setGroup k x).isBusy u = s.isBusy u) := by
  simp [State.reg, State.flag, State.field, State.enabled, State.now, State.isBusy]
@[simp] theorem State.group_setGroup (k : Nat) (x : GroupState) (a : Nat) : (s.setGroup k x).group a = if a = k then x else s.group a := by
  simp [State.group, State.setGroup]

@[simp] theorem State.setSensor_fields (k : Nat) (x : Sensor) :
    (s.setSensor k x).frc = s.frc ∧ (s.setSensor k x).clock = s.clock ∧ (s.setSensor k x).regs = s.regs ∧
    (s.setSensor k x).mem = s.mem ∧ (s.setSensor k x).pending = s.pending ∧ (s.setSensor k x).out = s.out ∧
    (s.setSensor k x).free = s.free ∧ (s.setSensor k x).shadows = s.shadows ∧ (s.setSensor k x).staged = s.staged ∧
    (s.setSensor k x).guards = s.guards ∧ (s.setSensor k x).busy = s.busy ∧ (s.setSensor k x).held = s.held ∧
    (s.setSensor k x).cfg = s.cfg ∧ (s.setSensor k x).image = s.image ∧ (s.setSensor k x).fences = s.fences ∧
    (s.setSensor k x).fenceCounts = s.fenceCounts ∧ (s.setSensor k x).hostFence = s.hostFence ∧
    (s.setSensor k x).fault = s.fault ∧ (s.setSensor k x).dieLink = s.dieLink ∧ (s.setSensor k x).time = s.time ∧
    (s.setSensor k x).tins = s.tins ∧ (s.setSensor k x).ptp = s.ptp ∧ (s.setSensor k x).angle = s.angle ∧
    (s.setSensor k x).links = s.links ∧ (s.setSensor k x).bypass = s.bypass ∧ (s.setSensor k x).ring = s.ring ∧
    (s.setSensor k x).bridge = s.bridge ∧ (s.setSensor k x).ephem = s.ephem ∧ (s.setSensor k x).pins = s.pins ∧
    (s.setSensor k x).banks = s.banks ∧ (s.setSensor k x).engines = s.engines ∧ (s.setSensor k x).cans = s.cans ∧
    (s.setSensor k x).canWakes = s.canWakes ∧ (s.setSensor k x).uarts = s.uarts ∧ (s.setSensor k x).sw = s.sw ∧
    (s.setSensor k x).policers = s.policers ∧ (s.setSensor k x).shapers = s.shapers ∧
    (s.setSensor k x).stas = s.stas ∧ (s.setSensor k x).prp = s.prp ∧ (s.setSensor k x).cores = s.cores ∧
    (s.setSensor k x).ecc = s.ecc ∧ (s.setSensor k x).queues = s.queues ∧ (s.setSensor k x).dram = s.dram ∧
    (s.setSensor k x).pair = s.pair ∧ (s.setSensor k x).mramEpochs = s.mramEpochs ∧
    (s.setSensor k x).start = s.start ∧ (s.setSensor k x).comet = s.comet ∧ (s.setSensor k x).cache = s.cache ∧
    (s.setSensor k x).fuses = s.fuses ∧ (s.setSensor k x).boot = s.boot ∧ (s.setSensor k x).host = s.host ∧
    (s.setSensor k x).mgmt = s.mgmt ∧ (s.setSensor k x).usb = s.usb :=
  ⟨rfl, rfl, rfl, rfl, rfl, rfl, rfl, rfl, rfl, rfl, rfl, rfl, rfl, rfl, rfl, rfl, rfl, rfl, rfl, rfl, rfl, rfl,
  rfl, rfl, rfl, rfl, rfl, rfl, rfl, rfl, rfl, rfl, rfl, rfl, rfl, rfl, rfl, rfl, rfl, rfl, rfl, rfl, rfl, rfl,
  rfl, rfl, rfl, rfl, rfl, rfl, rfl, rfl, rfl⟩
@[simp] theorem State.setSensor_reads (k : Nat) (x : Sensor) :
    (∀ a, (s.setSensor k x).reg a = s.reg a) ∧ (∀ a i, (s.setSensor k x).flag a i = s.flag a i) ∧
    (∀ a i n, (s.setSensor k x).field a i n = s.field a i n) ∧ (∀ u, (s.setSensor k x).enabled u = s.enabled u) ∧
    (s.setSensor k x).now = s.now ∧ (∀ u, (s.setSensor k x).isBusy u = s.isBusy u) := by
  simp [State.reg, State.flag, State.field, State.enabled, State.now, State.isBusy]
@[simp] theorem State.sensor_setSensor (k : Nat) (x : Sensor) (a : Nat) : (s.setSensor k x).sensor a = if a = k then x else s.sensor a := by
  simp [State.sensor, State.setSensor]

@[simp] theorem State.setTxn_fields (k : Nat) (x : Option Txn) :
    (s.setTxn k x).frc = s.frc ∧ (s.setTxn k x).clock = s.clock ∧ (s.setTxn k x).regs = s.regs ∧
    (s.setTxn k x).mem = s.mem ∧ (s.setTxn k x).pending = s.pending ∧ (s.setTxn k x).out = s.out ∧
    (s.setTxn k x).free = s.free ∧ (s.setTxn k x).shadows = s.shadows ∧ (s.setTxn k x).staged = s.staged ∧
    (s.setTxn k x).guards = s.guards ∧ (s.setTxn k x).busy = s.busy ∧ (s.setTxn k x).held = s.held ∧
    (s.setTxn k x).cfg = s.cfg ∧ (s.setTxn k x).image = s.image ∧ (s.setTxn k x).fences = s.fences ∧
    (s.setTxn k x).fenceCounts = s.fenceCounts ∧ (s.setTxn k x).hostFence = s.hostFence ∧
    (s.setTxn k x).fault = s.fault ∧ (s.setTxn k x).dieLink = s.dieLink ∧ (s.setTxn k x).time = s.time ∧
    (s.setTxn k x).tins = s.tins ∧ (s.setTxn k x).ptp = s.ptp ∧ (s.setTxn k x).angle = s.angle ∧
    (s.setTxn k x).links = s.links ∧ (s.setTxn k x).bypass = s.bypass ∧ (s.setTxn k x).ring = s.ring ∧
    (s.setTxn k x).ephem = s.ephem ∧ (s.setTxn k x).pins = s.pins ∧ (s.setTxn k x).banks = s.banks ∧
    (s.setTxn k x).engines = s.engines ∧ (s.setTxn k x).cans = s.cans ∧ (s.setTxn k x).canWakes = s.canWakes ∧
    (s.setTxn k x).uarts = s.uarts ∧ (s.setTxn k x).sw = s.sw ∧ (s.setTxn k x).policers = s.policers ∧
    (s.setTxn k x).shapers = s.shapers ∧ (s.setTxn k x).stas = s.stas ∧ (s.setTxn k x).prp = s.prp ∧
    (s.setTxn k x).cores = s.cores ∧ (s.setTxn k x).ecc = s.ecc ∧ (s.setTxn k x).queues = s.queues ∧
    (s.setTxn k x).dram = s.dram ∧ (s.setTxn k x).pair = s.pair ∧ (s.setTxn k x).mramEpochs = s.mramEpochs ∧
    (s.setTxn k x).power = s.power ∧ (s.setTxn k x).start = s.start ∧ (s.setTxn k x).comet = s.comet ∧
    (s.setTxn k x).cache = s.cache ∧ (s.setTxn k x).fuses = s.fuses ∧ (s.setTxn k x).boot = s.boot ∧
    (s.setTxn k x).host = s.host ∧ (s.setTxn k x).mgmt = s.mgmt ∧ (s.setTxn k x).usb = s.usb :=
  ⟨rfl, rfl, rfl, rfl, rfl, rfl, rfl, rfl, rfl, rfl, rfl, rfl, rfl, rfl, rfl, rfl, rfl, rfl, rfl, rfl, rfl, rfl,
  rfl, rfl, rfl, rfl, rfl, rfl, rfl, rfl, rfl, rfl, rfl, rfl, rfl, rfl, rfl, rfl, rfl, rfl, rfl, rfl, rfl, rfl,
  rfl, rfl, rfl, rfl, rfl, rfl, rfl, rfl, rfl⟩
@[simp] theorem State.setTxn_reads (k : Nat) (x : Option Txn) :
    (∀ a, (s.setTxn k x).reg a = s.reg a) ∧ (∀ a i, (s.setTxn k x).flag a i = s.flag a i) ∧
    (∀ a i n, (s.setTxn k x).field a i n = s.field a i n) ∧ (∀ u, (s.setTxn k x).enabled u = s.enabled u) ∧
    (s.setTxn k x).now = s.now ∧ (∀ u, (s.setTxn k x).isBusy u = s.isBusy u) := by
  simp [State.reg, State.flag, State.field, State.enabled, State.now, State.isBusy]
@[simp] theorem State.txn_setTxn (k : Nat) (x : Option Txn) (a : Nat) : (s.setTxn k x).txn a = if a = k then x else s.txn a := by
  simp [State.txn, State.setTxn]

@[simp] theorem State.setFetch_fields (k : Nat) (x : Option Fetch) :
    (s.setFetch k x).frc = s.frc ∧ (s.setFetch k x).clock = s.clock ∧ (s.setFetch k x).regs = s.regs ∧
    (s.setFetch k x).mem = s.mem ∧ (s.setFetch k x).pending = s.pending ∧ (s.setFetch k x).out = s.out ∧
    (s.setFetch k x).free = s.free ∧ (s.setFetch k x).shadows = s.shadows ∧ (s.setFetch k x).staged = s.staged ∧
    (s.setFetch k x).guards = s.guards ∧ (s.setFetch k x).busy = s.busy ∧ (s.setFetch k x).held = s.held ∧
    (s.setFetch k x).cfg = s.cfg ∧ (s.setFetch k x).image = s.image ∧ (s.setFetch k x).fences = s.fences ∧
    (s.setFetch k x).fenceCounts = s.fenceCounts ∧ (s.setFetch k x).hostFence = s.hostFence ∧
    (s.setFetch k x).fault = s.fault ∧ (s.setFetch k x).dieLink = s.dieLink ∧ (s.setFetch k x).time = s.time ∧
    (s.setFetch k x).tins = s.tins ∧ (s.setFetch k x).ptp = s.ptp ∧ (s.setFetch k x).angle = s.angle ∧
    (s.setFetch k x).links = s.links ∧ (s.setFetch k x).bypass = s.bypass ∧ (s.setFetch k x).ring = s.ring ∧
    (s.setFetch k x).ephem = s.ephem ∧ (s.setFetch k x).pins = s.pins ∧ (s.setFetch k x).banks = s.banks ∧
    (s.setFetch k x).engines = s.engines ∧ (s.setFetch k x).cans = s.cans ∧ (s.setFetch k x).canWakes = s.canWakes ∧
    (s.setFetch k x).uarts = s.uarts ∧ (s.setFetch k x).sw = s.sw ∧ (s.setFetch k x).policers = s.policers ∧
    (s.setFetch k x).shapers = s.shapers ∧ (s.setFetch k x).stas = s.stas ∧ (s.setFetch k x).prp = s.prp ∧
    (s.setFetch k x).cores = s.cores ∧ (s.setFetch k x).ecc = s.ecc ∧ (s.setFetch k x).queues = s.queues ∧
    (s.setFetch k x).dram = s.dram ∧ (s.setFetch k x).pair = s.pair ∧ (s.setFetch k x).mramEpochs = s.mramEpochs ∧
    (s.setFetch k x).power = s.power ∧ (s.setFetch k x).start = s.start ∧ (s.setFetch k x).comet = s.comet ∧
    (s.setFetch k x).cache = s.cache ∧ (s.setFetch k x).fuses = s.fuses ∧ (s.setFetch k x).boot = s.boot ∧
    (s.setFetch k x).host = s.host ∧ (s.setFetch k x).mgmt = s.mgmt ∧ (s.setFetch k x).usb = s.usb :=
  ⟨rfl, rfl, rfl, rfl, rfl, rfl, rfl, rfl, rfl, rfl, rfl, rfl, rfl, rfl, rfl, rfl, rfl, rfl, rfl, rfl, rfl, rfl,
  rfl, rfl, rfl, rfl, rfl, rfl, rfl, rfl, rfl, rfl, rfl, rfl, rfl, rfl, rfl, rfl, rfl, rfl, rfl, rfl, rfl, rfl,
  rfl, rfl, rfl, rfl, rfl, rfl, rfl, rfl, rfl⟩
@[simp] theorem State.setFetch_reads (k : Nat) (x : Option Fetch) :
    (∀ a, (s.setFetch k x).reg a = s.reg a) ∧ (∀ a i, (s.setFetch k x).flag a i = s.flag a i) ∧
    (∀ a i n, (s.setFetch k x).field a i n = s.field a i n) ∧ (∀ u, (s.setFetch k x).enabled u = s.enabled u) ∧
    (s.setFetch k x).now = s.now ∧ (∀ u, (s.setFetch k x).isBusy u = s.isBusy u) := by
  simp [State.reg, State.flag, State.field, State.enabled, State.now, State.isBusy]
@[simp] theorem State.fetch_setFetch (k : Nat) (x : Option Fetch) (a : Nat) : (s.setFetch k x).fetch a = if a = k then x else s.fetch a := by
  simp [State.fetch, State.setFetch]

@[simp] theorem State.setSem_fields (k : Nat) (x : Option SemOwner) :
    (s.setSem k x).frc = s.frc ∧ (s.setSem k x).clock = s.clock ∧ (s.setSem k x).regs = s.regs ∧
    (s.setSem k x).mem = s.mem ∧ (s.setSem k x).pending = s.pending ∧ (s.setSem k x).out = s.out ∧
    (s.setSem k x).free = s.free ∧ (s.setSem k x).shadows = s.shadows ∧ (s.setSem k x).staged = s.staged ∧
    (s.setSem k x).guards = s.guards ∧ (s.setSem k x).busy = s.busy ∧ (s.setSem k x).held = s.held ∧
    (s.setSem k x).cfg = s.cfg ∧ (s.setSem k x).image = s.image ∧ (s.setSem k x).fences = s.fences ∧
    (s.setSem k x).fenceCounts = s.fenceCounts ∧ (s.setSem k x).hostFence = s.hostFence ∧
    (s.setSem k x).fault = s.fault ∧ (s.setSem k x).dieLink = s.dieLink ∧ (s.setSem k x).time = s.time ∧
    (s.setSem k x).tins = s.tins ∧ (s.setSem k x).ptp = s.ptp ∧ (s.setSem k x).angle = s.angle ∧
    (s.setSem k x).links = s.links ∧ (s.setSem k x).bypass = s.bypass ∧ (s.setSem k x).ring = s.ring ∧
    (s.setSem k x).ephem = s.ephem ∧ (s.setSem k x).pins = s.pins ∧ (s.setSem k x).banks = s.banks ∧
    (s.setSem k x).engines = s.engines ∧ (s.setSem k x).cans = s.cans ∧ (s.setSem k x).canWakes = s.canWakes ∧
    (s.setSem k x).uarts = s.uarts ∧ (s.setSem k x).sw = s.sw ∧ (s.setSem k x).policers = s.policers ∧
    (s.setSem k x).shapers = s.shapers ∧ (s.setSem k x).stas = s.stas ∧ (s.setSem k x).prp = s.prp ∧
    (s.setSem k x).cores = s.cores ∧ (s.setSem k x).ecc = s.ecc ∧ (s.setSem k x).queues = s.queues ∧
    (s.setSem k x).dram = s.dram ∧ (s.setSem k x).pair = s.pair ∧ (s.setSem k x).mramEpochs = s.mramEpochs ∧
    (s.setSem k x).power = s.power ∧ (s.setSem k x).start = s.start ∧ (s.setSem k x).comet = s.comet ∧
    (s.setSem k x).cache = s.cache ∧ (s.setSem k x).fuses = s.fuses ∧ (s.setSem k x).boot = s.boot ∧
    (s.setSem k x).host = s.host ∧ (s.setSem k x).mgmt = s.mgmt ∧ (s.setSem k x).usb = s.usb :=
  ⟨rfl, rfl, rfl, rfl, rfl, rfl, rfl, rfl, rfl, rfl, rfl, rfl, rfl, rfl, rfl, rfl, rfl, rfl, rfl, rfl, rfl, rfl,
  rfl, rfl, rfl, rfl, rfl, rfl, rfl, rfl, rfl, rfl, rfl, rfl, rfl, rfl, rfl, rfl, rfl, rfl, rfl, rfl, rfl, rfl,
  rfl, rfl, rfl, rfl, rfl, rfl, rfl, rfl, rfl⟩
@[simp] theorem State.setSem_reads (k : Nat) (x : Option SemOwner) :
    (∀ a, (s.setSem k x).reg a = s.reg a) ∧ (∀ a i, (s.setSem k x).flag a i = s.flag a i) ∧
    (∀ a i n, (s.setSem k x).field a i n = s.field a i n) ∧ (∀ u, (s.setSem k x).enabled u = s.enabled u) ∧
    (s.setSem k x).now = s.now ∧ (∀ u, (s.setSem k x).isBusy u = s.isBusy u) := by
  simp [State.reg, State.flag, State.field, State.enabled, State.now, State.isBusy]
@[simp] theorem State.sem_setSem (k : Nat) (x : Option SemOwner) (a : Nat) : (s.setSem k x).sem a = if a = k then x else s.sem a := by
  simp [State.sem, State.setSem]

@[simp] theorem State.setEphInst_fields (k : Nat) (x : EphEntry) :
    (s.setEphInst k x).frc = s.frc ∧ (s.setEphInst k x).clock = s.clock ∧ (s.setEphInst k x).regs = s.regs ∧
    (s.setEphInst k x).mem = s.mem ∧ (s.setEphInst k x).pending = s.pending ∧ (s.setEphInst k x).out = s.out ∧
    (s.setEphInst k x).free = s.free ∧ (s.setEphInst k x).shadows = s.shadows ∧
    (s.setEphInst k x).staged = s.staged ∧ (s.setEphInst k x).guards = s.guards ∧ (s.setEphInst k x).busy = s.busy ∧
    (s.setEphInst k x).held = s.held ∧ (s.setEphInst k x).cfg = s.cfg ∧ (s.setEphInst k x).image = s.image ∧
    (s.setEphInst k x).fences = s.fences ∧ (s.setEphInst k x).fenceCounts = s.fenceCounts ∧
    (s.setEphInst k x).hostFence = s.hostFence ∧ (s.setEphInst k x).fault = s.fault ∧
    (s.setEphInst k x).dieLink = s.dieLink ∧ (s.setEphInst k x).time = s.time ∧ (s.setEphInst k x).tins = s.tins ∧
    (s.setEphInst k x).ptp = s.ptp ∧ (s.setEphInst k x).angle = s.angle ∧ (s.setEphInst k x).links = s.links ∧
    (s.setEphInst k x).bypass = s.bypass ∧ (s.setEphInst k x).ring = s.ring ∧ (s.setEphInst k x).bridge = s.bridge ∧
    (s.setEphInst k x).pins = s.pins ∧ (s.setEphInst k x).banks = s.banks ∧ (s.setEphInst k x).engines = s.engines ∧
    (s.setEphInst k x).cans = s.cans ∧ (s.setEphInst k x).canWakes = s.canWakes ∧
    (s.setEphInst k x).uarts = s.uarts ∧ (s.setEphInst k x).sw = s.sw ∧ (s.setEphInst k x).policers = s.policers ∧
    (s.setEphInst k x).shapers = s.shapers ∧ (s.setEphInst k x).stas = s.stas ∧ (s.setEphInst k x).prp = s.prp ∧
    (s.setEphInst k x).cores = s.cores ∧ (s.setEphInst k x).ecc = s.ecc ∧ (s.setEphInst k x).queues = s.queues ∧
    (s.setEphInst k x).dram = s.dram ∧ (s.setEphInst k x).pair = s.pair ∧
    (s.setEphInst k x).mramEpochs = s.mramEpochs ∧ (s.setEphInst k x).power = s.power ∧
    (s.setEphInst k x).start = s.start ∧ (s.setEphInst k x).comet = s.comet ∧ (s.setEphInst k x).cache = s.cache ∧
    (s.setEphInst k x).fuses = s.fuses ∧ (s.setEphInst k x).boot = s.boot ∧ (s.setEphInst k x).host = s.host ∧
    (s.setEphInst k x).mgmt = s.mgmt ∧ (s.setEphInst k x).usb = s.usb :=
  ⟨rfl, rfl, rfl, rfl, rfl, rfl, rfl, rfl, rfl, rfl, rfl, rfl, rfl, rfl, rfl, rfl, rfl, rfl, rfl, rfl, rfl, rfl,
  rfl, rfl, rfl, rfl, rfl, rfl, rfl, rfl, rfl, rfl, rfl, rfl, rfl, rfl, rfl, rfl, rfl, rfl, rfl, rfl, rfl, rfl,
  rfl, rfl, rfl, rfl, rfl, rfl, rfl, rfl, rfl⟩
@[simp] theorem State.setEphInst_reads (k : Nat) (x : EphEntry) :
    (∀ a, (s.setEphInst k x).reg a = s.reg a) ∧ (∀ a i, (s.setEphInst k x).flag a i = s.flag a i) ∧
    (∀ a i n, (s.setEphInst k x).field a i n = s.field a i n) ∧ (∀ u, (s.setEphInst k x).enabled u = s.enabled u) ∧
    (s.setEphInst k x).now = s.now ∧ (∀ u, (s.setEphInst k x).isBusy u = s.isBusy u) := by
  simp [State.reg, State.flag, State.field, State.enabled, State.now, State.isBusy]
@[simp] theorem State.ephInst_setEphInst (k : Nat) (x : EphEntry) (a : Nat) : (s.setEphInst k x).ephInst a = if a = k then x else s.ephInst a := by
  simp [State.ephInst, State.setEphInst]

@[simp] theorem State.setDma_fields (k : Nat) (x : DmaState) :
    (s.setDma k x).frc = s.frc ∧ (s.setDma k x).clock = s.clock ∧ (s.setDma k x).regs = s.regs ∧
    (s.setDma k x).mem = s.mem ∧ (s.setDma k x).pending = s.pending ∧ (s.setDma k x).out = s.out ∧
    (s.setDma k x).free = s.free ∧ (s.setDma k x).shadows = s.shadows ∧ (s.setDma k x).staged = s.staged ∧
    (s.setDma k x).guards = s.guards ∧ (s.setDma k x).busy = s.busy ∧ (s.setDma k x).held = s.held ∧
    (s.setDma k x).cfg = s.cfg ∧ (s.setDma k x).image = s.image ∧ (s.setDma k x).fences = s.fences ∧
    (s.setDma k x).fenceCounts = s.fenceCounts ∧ (s.setDma k x).hostFence = s.hostFence ∧
    (s.setDma k x).fault = s.fault ∧ (s.setDma k x).dieLink = s.dieLink ∧ (s.setDma k x).time = s.time ∧
    (s.setDma k x).tins = s.tins ∧ (s.setDma k x).ptp = s.ptp ∧ (s.setDma k x).angle = s.angle ∧
    (s.setDma k x).links = s.links ∧ (s.setDma k x).bypass = s.bypass ∧ (s.setDma k x).ring = s.ring ∧
    (s.setDma k x).bridge = s.bridge ∧ (s.setDma k x).ephem = s.ephem ∧ (s.setDma k x).pins = s.pins ∧
    (s.setDma k x).banks = s.banks ∧ (s.setDma k x).engines = s.engines ∧ (s.setDma k x).cans = s.cans ∧
    (s.setDma k x).canWakes = s.canWakes ∧ (s.setDma k x).uarts = s.uarts ∧ (s.setDma k x).sw = s.sw ∧
    (s.setDma k x).policers = s.policers ∧ (s.setDma k x).shapers = s.shapers ∧ (s.setDma k x).stas = s.stas ∧
    (s.setDma k x).prp = s.prp ∧ (s.setDma k x).cores = s.cores ∧ (s.setDma k x).ecc = s.ecc ∧
    (s.setDma k x).queues = s.queues ∧ (s.setDma k x).dram = s.dram ∧ (s.setDma k x).pair = s.pair ∧
    (s.setDma k x).mramEpochs = s.mramEpochs ∧ (s.setDma k x).power = s.power ∧ (s.setDma k x).start = s.start ∧
    (s.setDma k x).comet = s.comet ∧ (s.setDma k x).cache = s.cache ∧ (s.setDma k x).fuses = s.fuses ∧
    (s.setDma k x).boot = s.boot ∧ (s.setDma k x).mgmt = s.mgmt ∧ (s.setDma k x).usb = s.usb :=
  ⟨rfl, rfl, rfl, rfl, rfl, rfl, rfl, rfl, rfl, rfl, rfl, rfl, rfl, rfl, rfl, rfl, rfl, rfl, rfl, rfl, rfl, rfl,
  rfl, rfl, rfl, rfl, rfl, rfl, rfl, rfl, rfl, rfl, rfl, rfl, rfl, rfl, rfl, rfl, rfl, rfl, rfl, rfl, rfl, rfl,
  rfl, rfl, rfl, rfl, rfl, rfl, rfl, rfl, rfl⟩
@[simp] theorem State.setDma_reads (k : Nat) (x : DmaState) :
    (∀ a, (s.setDma k x).reg a = s.reg a) ∧ (∀ a i, (s.setDma k x).flag a i = s.flag a i) ∧
    (∀ a i n, (s.setDma k x).field a i n = s.field a i n) ∧ (∀ u, (s.setDma k x).enabled u = s.enabled u) ∧
    (s.setDma k x).now = s.now ∧ (∀ u, (s.setDma k x).isBusy u = s.isBusy u) := by
  simp [State.reg, State.flag, State.field, State.enabled, State.now, State.isBusy]
@[simp] theorem State.dma_setDma (k : Nat) (x : DmaState) (a : Nat) : (s.setDma k x).dma a = if a = k then x else s.dma a := by
  simp [State.dma, State.setDma]

@[simp] theorem State.setUsb_fields (x : UsbState) :
    (s.setUsb x).frc = s.frc ∧ (s.setUsb x).clock = s.clock ∧ (s.setUsb x).regs = s.regs ∧ (s.setUsb x).mem = s.mem ∧
    (s.setUsb x).pending = s.pending ∧ (s.setUsb x).out = s.out ∧ (s.setUsb x).free = s.free ∧
    (s.setUsb x).shadows = s.shadows ∧ (s.setUsb x).staged = s.staged ∧ (s.setUsb x).guards = s.guards ∧
    (s.setUsb x).busy = s.busy ∧ (s.setUsb x).held = s.held ∧ (s.setUsb x).cfg = s.cfg ∧
    (s.setUsb x).image = s.image ∧ (s.setUsb x).fences = s.fences ∧ (s.setUsb x).fenceCounts = s.fenceCounts ∧
    (s.setUsb x).hostFence = s.hostFence ∧ (s.setUsb x).fault = s.fault ∧ (s.setUsb x).dieLink = s.dieLink ∧
    (s.setUsb x).time = s.time ∧ (s.setUsb x).tins = s.tins ∧ (s.setUsb x).ptp = s.ptp ∧
    (s.setUsb x).angle = s.angle ∧ (s.setUsb x).links = s.links ∧ (s.setUsb x).bypass = s.bypass ∧
    (s.setUsb x).ring = s.ring ∧ (s.setUsb x).bridge = s.bridge ∧ (s.setUsb x).ephem = s.ephem ∧
    (s.setUsb x).pins = s.pins ∧ (s.setUsb x).banks = s.banks ∧ (s.setUsb x).engines = s.engines ∧
    (s.setUsb x).cans = s.cans ∧ (s.setUsb x).canWakes = s.canWakes ∧ (s.setUsb x).uarts = s.uarts ∧
    (s.setUsb x).sw = s.sw ∧ (s.setUsb x).policers = s.policers ∧ (s.setUsb x).shapers = s.shapers ∧
    (s.setUsb x).stas = s.stas ∧ (s.setUsb x).prp = s.prp ∧ (s.setUsb x).cores = s.cores ∧ (s.setUsb x).ecc = s.ecc ∧
    (s.setUsb x).queues = s.queues ∧ (s.setUsb x).dram = s.dram ∧ (s.setUsb x).pair = s.pair ∧
    (s.setUsb x).mramEpochs = s.mramEpochs ∧ (s.setUsb x).power = s.power ∧ (s.setUsb x).start = s.start ∧
    (s.setUsb x).comet = s.comet ∧ (s.setUsb x).cache = s.cache ∧ (s.setUsb x).fuses = s.fuses ∧
    (s.setUsb x).boot = s.boot ∧ (s.setUsb x).host = s.host ∧ (s.setUsb x).mgmt = s.mgmt :=
  ⟨rfl, rfl, rfl, rfl, rfl, rfl, rfl, rfl, rfl, rfl, rfl, rfl, rfl, rfl, rfl, rfl, rfl, rfl, rfl, rfl, rfl, rfl,
  rfl, rfl, rfl, rfl, rfl, rfl, rfl, rfl, rfl, rfl, rfl, rfl, rfl, rfl, rfl, rfl, rfl, rfl, rfl, rfl, rfl, rfl,
  rfl, rfl, rfl, rfl, rfl, rfl, rfl, rfl, rfl⟩
@[simp] theorem State.setUsb_reads (x : UsbState) :
    (∀ a, (s.setUsb x).reg a = s.reg a) ∧ (∀ a i, (s.setUsb x).flag a i = s.flag a i) ∧
    (∀ a i n, (s.setUsb x).field a i n = s.field a i n) ∧ (∀ u, (s.setUsb x).enabled u = s.enabled u) ∧
    (s.setUsb x).now = s.now ∧ (∀ u, (s.setUsb x).isBusy u = s.isBusy u) := by
  simp [State.reg, State.flag, State.field, State.enabled, State.now, State.isBusy]

@[simp] theorem State.setUsbPort_fields (k : Nat) (x : UsbPort) :
    (s.setUsbPort k x).frc = s.frc ∧ (s.setUsbPort k x).clock = s.clock ∧ (s.setUsbPort k x).regs = s.regs ∧
    (s.setUsbPort k x).mem = s.mem ∧ (s.setUsbPort k x).pending = s.pending ∧ (s.setUsbPort k x).out = s.out ∧
    (s.setUsbPort k x).free = s.free ∧ (s.setUsbPort k x).shadows = s.shadows ∧
    (s.setUsbPort k x).staged = s.staged ∧ (s.setUsbPort k x).guards = s.guards ∧ (s.setUsbPort k x).busy = s.busy ∧
    (s.setUsbPort k x).held = s.held ∧ (s.setUsbPort k x).cfg = s.cfg ∧ (s.setUsbPort k x).image = s.image ∧
    (s.setUsbPort k x).fences = s.fences ∧ (s.setUsbPort k x).fenceCounts = s.fenceCounts ∧
    (s.setUsbPort k x).hostFence = s.hostFence ∧ (s.setUsbPort k x).fault = s.fault ∧
    (s.setUsbPort k x).dieLink = s.dieLink ∧ (s.setUsbPort k x).time = s.time ∧ (s.setUsbPort k x).tins = s.tins ∧
    (s.setUsbPort k x).ptp = s.ptp ∧ (s.setUsbPort k x).angle = s.angle ∧ (s.setUsbPort k x).links = s.links ∧
    (s.setUsbPort k x).bypass = s.bypass ∧ (s.setUsbPort k x).ring = s.ring ∧ (s.setUsbPort k x).bridge = s.bridge ∧
    (s.setUsbPort k x).ephem = s.ephem ∧ (s.setUsbPort k x).pins = s.pins ∧ (s.setUsbPort k x).banks = s.banks ∧
    (s.setUsbPort k x).engines = s.engines ∧ (s.setUsbPort k x).cans = s.cans ∧
    (s.setUsbPort k x).canWakes = s.canWakes ∧ (s.setUsbPort k x).uarts = s.uarts ∧ (s.setUsbPort k x).sw = s.sw ∧
    (s.setUsbPort k x).policers = s.policers ∧ (s.setUsbPort k x).shapers = s.shapers ∧
    (s.setUsbPort k x).stas = s.stas ∧ (s.setUsbPort k x).prp = s.prp ∧ (s.setUsbPort k x).cores = s.cores ∧
    (s.setUsbPort k x).ecc = s.ecc ∧ (s.setUsbPort k x).queues = s.queues ∧ (s.setUsbPort k x).dram = s.dram ∧
    (s.setUsbPort k x).pair = s.pair ∧ (s.setUsbPort k x).mramEpochs = s.mramEpochs ∧
    (s.setUsbPort k x).power = s.power ∧ (s.setUsbPort k x).start = s.start ∧ (s.setUsbPort k x).comet = s.comet ∧
    (s.setUsbPort k x).cache = s.cache ∧ (s.setUsbPort k x).fuses = s.fuses ∧ (s.setUsbPort k x).boot = s.boot ∧
    (s.setUsbPort k x).host = s.host ∧ (s.setUsbPort k x).mgmt = s.mgmt :=
  ⟨rfl, rfl, rfl, rfl, rfl, rfl, rfl, rfl, rfl, rfl, rfl, rfl, rfl, rfl, rfl, rfl, rfl, rfl, rfl, rfl, rfl, rfl,
  rfl, rfl, rfl, rfl, rfl, rfl, rfl, rfl, rfl, rfl, rfl, rfl, rfl, rfl, rfl, rfl, rfl, rfl, rfl, rfl, rfl, rfl,
  rfl, rfl, rfl, rfl, rfl, rfl, rfl, rfl, rfl⟩
@[simp] theorem State.setUsbPort_reads (k : Nat) (x : UsbPort) :
    (∀ a, (s.setUsbPort k x).reg a = s.reg a) ∧ (∀ a i, (s.setUsbPort k x).flag a i = s.flag a i) ∧
    (∀ a i n, (s.setUsbPort k x).field a i n = s.field a i n) ∧ (∀ u, (s.setUsbPort k x).enabled u = s.enabled u) ∧
    (s.setUsbPort k x).now = s.now ∧ (∀ u, (s.setUsbPort k x).isBusy u = s.isBusy u) := by
  simp [State.reg, State.flag, State.field, State.enabled, State.now, State.isBusy]

@[simp] theorem State.link_setLink (k l : Port) (x : LinkState) :
    (s.setLink k x).link l = if l = k then x else s.link l := by
  cases k <;> cases l <;> simp [State.link, State.setLink, portIdx]

@[simp] theorem State.reg_setField (k x n v a : Nat) :
    (s.setField k x n v).reg a = if a = k then setBits (s.reg k) x n v else s.reg a := by
  simp [State.setField]

@[simp] theorem State.reg_setFlag (k j : Nat) (b : Bool) (a : Nat) :
    (s.setFlag k j b).reg a = if a = k then setBit (s.reg k) j b else s.reg a := by
  simp [State.setFlag]

@[simp] theorem State.reg_addTo (k n a : Nat) :
    (s.addTo k n).reg a = if a = k then satAdd (s.reg k) n else s.reg a := by
  simp [State.addTo]

@[simp] theorem State.reg_inc (k a : Nat) : (s.inc k).reg a = if a = k then satAdd (s.reg k) 1 else s.reg a := by
  simp [State.inc]

/-- The status word after an event with flags `m` (R46). -/
def eventWord (w : Word) (m : Nat) : Word := setBits (word (w.toNat ||| m)) 24 8 (bits w 24 8 + 1)

@[simp] theorem State.reg_events (k m a : Nat) :
    (s.events k m).reg a = if a = k then eventWord (s.reg k) m else s.reg a := by
  simp [State.events, eventWord]

@[simp] theorem State.reg_event (k j a : Nat) :
    (s.event k j).reg a = if a = k then eventWord (s.reg k) (2 ^ j) else s.reg a := by
  simp [State.event]

end Sys2Proof.Machine
end

