-- ==== Sys2Proof/Laws/Access.lean ====
section
/-! SUPPORT. What a register access does, once for all commands that are one: a refused access, a ready one, and the
three ends of a ready write (an ordinary word, a value word and a complement of a guarded pair). -/

namespace Sys2Proof.Machine

/-- An access of KIND `k` is a bus error, whatever else holds (R38). -/
theorem State.access_refused {s : State} {i : Initiator} {a size : Nat} {w : Bool} {k : Nat}
    (h : s.accessKind i a size w = some k) (fa : FabricAddr) (v : Word) :
    s.access i fa a size w v = s.refuseAccess i fa w k := by
  simp [State.access, State.accessAs, State.refuseAccess, h]

/-- What a ready access may rely on. -/
theorem State.ready_iff (s : State) (i : Initiator) (a : Nat) (w : Bool) :
    s.ready i a w = true ↔ s.accessKind i a 4 w = none ∧ ∃ b o, locate a = some (b, o)
      ∧ (s.start.logicUp = true ∨ b = .comet) ∧ s.mustHold i b a s.bridge.order = false
      ∧ ¬(powerBlock b = true ∧ s.fault.inject.armed = true ∧ s.fault.inject.target = 6) := by
  unfold State.ready
  cases hl : locate a with
  | none => simp
  | some p =>
    obtain ⟨b, o⟩ := p
    simp only [Bool.and_eq_true, Option.isNone_iff_eq_none, Bool.or_eq_true, beq_iff_eq, Bool.not_eq_true',
      Bool.and_eq_false_iff, Option.some.injEq, Prod.mk.injEq]
    constructor
    · rintro ⟨hk, ⟨hu, hb⟩, hp⟩
      refine ⟨hk, b, o, ⟨rfl, rfl⟩, hu, hb, ?_⟩
      rintro ⟨h1, h2, h3⟩
      simp_all
    · rintro ⟨hk, b', o', ⟨rfl, rfl⟩, hu, hb, hp⟩
      refine ⟨hk, ⟨hu, hb⟩, ?_⟩
      by_cases h1 : powerBlock b = true <;> by_cases h2 : s.fault.inject.armed = true <;> simp_all

/-- A ready access is carried out at once (R12, R39, R246). -/
theorem State.access_ready {s : State} {i : Initiator} {a o : Nat} {b : Block} {w : Bool} (h : s.ready i a w = true)
    (hl : locate a = some (b, o)) (fa : FabricAddr) (v : Word) :
    s.access i fa a 4 w v =
      match (if w then s.writeReg i b a v else s.readReg i b a) with
      | (.err k, t) => t.refuseAt i fa w k s.bridge.order
      | p => p := by
  obtain ⟨hk, b', o', hl', hu, hb, hp⟩ := (s.ready_iff i a w).1 h
  obtain ⟨rfl, rfl⟩ : b' = b ∧ o' = o := by simpa [hl] using hl'.symm
  have hup : (!s.start.logicUp && b' != .comet) = false := by
    rcases hu with hu | hu <;> simp [hu]
  have hinj : (if powerBlock b' then s.injectLink else s) = s := by
    by_cases hpb : powerBlock b' = true
    · have : ¬(s.fault.inject.armed = true ∧ s.fault.inject.target = 6) := fun x => hp ⟨hpb, x.1, x.2⟩
      simp [hpb, State.injectLink]
      intro h1 h2; exact absurd ⟨h1, h2⟩ this
    · simp [hpb]
  simp only [State.access, State.accessAs, hk, hl, hup, Bool.false_eq_true, if_false, hb, State.perform, hinj]
  generalize (if w = true then s.writeReg i b' a v else s.readReg i b' a) = p
  obtain ⟨r, t⟩ := p
  cases r <;> rfl

/-- A ready write whose end is `t` is answered with success (R39). -/
theorem State.writeAnswer_done {s t : State} {i : Initiator} {a o : Nat} {b : Block} {v : Word}
    (h : s.ready i a true = true) (hl : locate a = some (b, o)) (hw : s.writeReg i b a v = (.done, t)) :
    s.writeAnswer i a 4 v = { t with out := .access i a .done :: t.out } := by
  simp [State.writeAnswer, State.access_ready h hl, hw, State.answer, State.emit]

/-- A ready read that shows `x` and leaves `t` is answered with `x` (R39). -/
theorem State.readAnswer_data {s t : State} {i : Initiator} {a o : Nat} {b : Block} {x : Word}
    (h : s.ready i a false = true) (hl : locate a = some (b, o)) (hr : s.readReg i b a = (.data x, t)) :
    s.readAnswer i a 4 = { t with out := .access i a (.data x) :: t.out } := by
  simp [State.readAnswer, State.access_ready h hl, hr, State.answer, State.emit]

/-- What `i` latched at `a` is gone (R42). -/
def State.unlatched (s : State) (i : Initiator) (a : Nat) : State :=
  { s with shadows := s.shadows.filter fun e => !(e.who == i && e.addr == a) }

/-- The end of a write to an ordinary word of a present unit: its block's write (R6). -/
theorem State.writeReg_ordinary {s : State} {i : Initiator} {b : Block} {a : Nat} {v : Word} {r : RegRow} {u : HubUnit}
    (hr : regRow a = some r) (hg : r.acc ≠ .gd) (hw : r.acc ≠ .gword) (hu : blockOwner b = some u)
    (hp : s.unitAbsent u = false) (ha : a ≠ unitCtrl u) (hs : a ≠ Addr.bootSetData) :
    s.writeReg i b a v = (.done, (s.unlatched i a).writeBlock i b a v) := by
  simp only [State.writeReg, hr, hu]
  rw [if_neg fun hx => absurd (hx.symm.trans hp) (by decide)]
  simp [State.unlatched, hg, hw, ha, hs]

/-- The end of a write to a word of no unit. -/
theorem State.writeReg_unowned {s : State} {i : Initiator} {b : Block} {a : Nat} {v : Word} {r : RegRow}
    (hr : regRow a = some r) (hg : r.acc ≠ .gd) (hw : r.acc ≠ .gword) (hu : blockOwner b = none) :
    s.writeReg i b a v = (.done, (s.unlatched i a).writeBlock i b a v) := by
  simp [State.writeReg, State.unlatched, hr, hg, hw, hu]

/-- The end of a write to the value word of a guarded pair (R50). -/
theorem State.writeReg_guard {s : State} {i : Initiator} {b : Block} {a : Nat} {v : Word} {r : RegRow} {u : HubUnit}
    (hr : regRow a = some r) (hg : r.acc = .gd) (hu : blockOwner b = some u) (hp : s.unitAbsent u = false) :
    s.writeReg i b a v = (.done, (s.unlatched i a).guardValue i a v) := by
  simp only [State.writeReg, hr, hu]
  rw [if_neg fun hx => absurd (hx.symm.trans hp) (by decide)]
  simp [State.unlatched, hg]

end Sys2Proof.Machine
end

