-- ==== Sys2Proof/Laws/Core.lean ====
section
/-! SUPPORT. What a service core does at an instruction boundary when it issues an instruction, and what the shared ends of
an instruction leave. -/

namespace Sys2Proof.Machine

theorem State.eccLoad_clean (s : State) (u : HubUnit) (a : Nat) (h : Store.get 0 s.ecc a = 0) : s.eccLoad u a = s := by
  simp [State.eccLoad, State.eccSeen, h]

theorem State.coreFetch_issues (s : State) (n : Fin 4) (i : SInstr) (h : s.issues n i = true) :
    s.coreFetch n.val = (.inr (s.fetched n, i), s) := by
  simp only [State.issues, Bool.and_eq_true, beq_iff_eq, decide_eq_true_eq, Bool.not_eq_true'] at h
  obtain ⟨⟨⟨_, hal⟩, hlt⟩, hecc⟩ := h.1
  have hd := h.2
  have hpc : ¬((s.corePc n.val).toNat % 4 ≠ 0 ∨ 0x2_0000 ≤ (s.corePc n.val).toNat) := by omega
  simp only [State.coreFetch, if_neg hpc, State.coreRamRead, hecc, State.eccLoad_clean _ _ _ hecc, hd,
    State.fetched]
  simp

/-- The state in which core `n` carries out the instruction that it has fetched. -/
def State.begun (s : State) (n : Fin 4) : State := s.setCore n.val { s.core n.val with cur := s.fetched n }

@[simp] theorem State.greg_begun (s : State) (n : Fin 4) (k : Nat) (r : Reg) : (s.begun n).greg k r = s.greg k r := by
  simp [State.greg, State.begun]
@[simp] theorem State.corePc_begun (s : State) (n : Fin 4) (k : Nat) : (s.begun n).corePc k = s.corePc k := by
  simp [State.corePc, State.begun]
@[simp] theorem State.ctxBit_begun (s : State) (n : Fin 4) (k i : Nat) : (s.begun n).ctxBit k i = s.ctxBit k i := by
  simp [State.ctxBit, State.begun]
@[simp] theorem State.reg_begun (s : State) (n : Fin 4) (a : Nat) : (s.begun n).reg a = s.reg a := by
  simp [State.begun]
@[simp] theorem State.field_begun (s : State) (n : Fin 4) (a i k : Nat) : (s.begun n).field a i k = s.field a i k := by
  simp [State.begun]

/-- A core that issues `i` does what `i` does, with its word kept as the instruction that may stall (R311). -/
theorem State.sClock_issues (s : State) (n : Fin 4) (i : SInstr) (want : SInstr → Bool) (h : s.issues n i = true)
    (hw : want i = true) :
    s.sClock n.val want = (s.begun n).coreExec n.val i := by
  have hf := State.coreFetch_issues s n i h
  simp only [State.issues, Bool.and_eq_true, beq_iff_eq, decide_eq_true_eq, Bool.not_eq_true'] at h
  obtain ⟨⟨⟨⟨⟨⟨⟨⟨⟨⟨hup, hrun⟩, hbp⟩, hbad⟩, hint⟩, _⟩, _⟩, _⟩, _⟩, _⟩, _⟩ := h
  simp [State.begun, State.sClock, hup, hrun, hbp, hbad, hint, hf, hw]

/-- Core `n` is inside the instruction that it issued in `s`: `u` differs from `s` in the words of `l` and in what core `n`
keeps of the instruction. -/
def CoreMid (n : Fin 4) (l : List Nat) (s u : State) : Prop :=
  u = { s with regs := u.regs, cores := u.cores } ∧ RegsBut l s u ∧ (∀ m, m ≠ n.val → u.core m = s.core m)
    ∧ u.core n.val = { s.core n.val with cur := s.fetched n }

@[simp] theorem RegsBut.refl (l : List Nat) (s : State) : RegsBut l s s := fun _ _ => rfl

theorem CoreMid.start (n : Fin 4) (s : State) :
    CoreMid n [] s (s.begun n) := by
  refine ⟨rfl, fun a _ => by simp, fun m hm => ?_, ?_⟩
  · simp [State.begun, hm]
  · simp [State.begun]

theorem CoreMid.setReg {n : Fin 4} {l : List Nat} {s u : State} (h : CoreMid n l s u) (a : Nat) (v : Word) :
    CoreMid n (a :: l) s (u.setReg a v) := by
  obtain ⟨h1, h2, h3, h4⟩ := h
  refine ⟨?_, fun b hb => ?_, fun m hm => ?_, ?_⟩
  · rw [h1]; rfl
  · simp only [List.mem_cons, not_or] at hb
    rw [State.reg_setReg, if_neg hb.1]; exact h2 b hb.2
  · rw [← h3 m hm]; simp
  · rw [← h4]; simp

theorem CoreMid.setGreg {n : Fin 4} {l : List Nat} {s u : State} (h : CoreMid n l s u) (rd : Reg) (v : Word) :
    CoreMid n (gregWords n rd ++ l) s (u.setGreg n.val rd v) := by
  unfold State.setGreg gregWords
  split
  · exact h
  · exact h.setReg _ _

/-- The end of an instruction that goes on at `a`. -/
theorem CoreMid.jump {n : Fin 4} {l : List Nat} {s u : State} {i : SInstr} (h : CoreMid n l s u)
    (hs : s.issues n i = true) (a : Word) :
    CoreRan n (Addr.svcPc n.val :: l) s (u.coreJump n.val a) ∧ (u.coreJump n.val a).reg (Addr.svcPc n.val) = a
      ∧ ∀ b, b ≠ Addr.svcPc n.val → (u.coreJump n.val a).reg b = u.reg b := by
  have h' := h.setReg (Addr.svcPc n.val) a
  simp only [State.issues, Bool.and_eq_true, beq_iff_eq, decide_eq_true_eq, Bool.not_eq_true'] at hs
  obtain ⟨⟨⟨⟨⟨⟨⟨⟨⟨⟨_, hrun⟩, _⟩, _⟩, _⟩, hst⟩, hh⟩, _⟩, _⟩, _⟩, _⟩ := hs
  obtain ⟨h1, h2, h3, h4⟩ := h'
  have hb : (u.coreJump n.val a) = (u.setReg (Addr.svcPc n.val) a).setCore n.val
      { s.core n.val with cur := s.fetched n, sync := .running, stall := 0, skipBp := false } := by
    simp [State.coreJump, State.coreBoundary, State.setCorePc, h4, hst, hh]
  rw [hb]
  refine ⟨⟨?_, fun b hb => ?_, fun m hm => ?_, ?_⟩, ?_, fun b hb => ?_⟩
  · rw [h1]; rfl
  · rw [← h2 b hb]; simp
  · rw [← h3 m hm]; simp [State.core_setCore, hm]
  · simp [State.core_setCore, hrun]
  · simp
  · simp [hb]

theorem State.coreNext_eq (s : State) (n : Nat) : s.coreNext n = s.coreJump n (s.corePc n + 4) := rfl

theorem CoreMid.pc {n : Fin 4} {l : List Nat} {s u : State} (h : CoreMid n l s u) (hl : Addr.svcPc n.val ∉ l) :
    u.corePc n.val = s.corePc n.val := h.2.1 _ hl

theorem Addr.svcPc_ne_greg (n : Nat) (r : Reg) : Addr.svcGreg n r.toNat ≠ Addr.svcPc n := by
  simp only [Addr.svcGreg, Addr.svcPc]; omega

theorem svcPc_not_gregWords (n : Fin 4) (rd : Reg) : Addr.svcPc n.val ∉ gregWords n rd := by
  unfold gregWords
  split
  · simp
  · simpa using (Addr.svcPc_ne_greg n.val rd).symm

theorem State.greg_setGreg (s : State) (n : Nat) (rd : Reg) (v : Word) (h : rd ≠ 0) :
    (s.setGreg n rd v).reg (Addr.svcGreg n rd.toNat) = v := by
  unfold State.setGreg
  rw [if_neg h, State.reg_setReg, if_pos rfl]

theorem State.greg_ne (s : State) (n : Nat) (r : Reg) (h : r ≠ 0) : s.greg n r = s.reg (Addr.svcGreg n r.toNat) := by
  unfold State.greg; rw [if_neg h]

theorem State.reg_setGreg_of (s : State) (n : Fin 4) (rd : Reg) (v : Word) (b : Nat) (h : b ∉ gregWords n rd) :
    (s.setGreg n.val rd v).reg b = s.reg b := by
  unfold gregWords at h
  unfold State.setGreg
  split
  · rfl
  · next hr => rw [State.reg_setReg, if_neg]; rw [if_neg hr] at h; exact fun e => h (e ▸ List.mem_singleton_self _)

/-- The end of an instruction with the result `v` in rd. -/
theorem CoreMid.result {n : Fin 4} {l : List Nat} {s u : State} {i : SInstr} (h : CoreMid n l s u)
    (hl : Addr.svcPc n.val ∉ l) (hs : s.issues n i = true) (rd : Reg) (v : Word) :
    CoreRan n (Addr.svcPc n.val :: (gregWords n rd ++ l)) s (u.coreResult n.val rd v)
      ∧ (u.coreResult n.val rd v).corePc n.val = s.corePc n.val + 4
      ∧ (rd ≠ 0 → (u.coreResult n.val rd v).greg n.val rd = v)
      ∧ ∀ b, b ∉ Addr.svcPc n.val :: gregWords n rd → (u.coreResult n.val rd v).reg b = u.reg b := by
  have h' := h.setGreg rd v
  have hp : Addr.svcPc n.val ∉ gregWords n rd ++ l := by
    rw [List.mem_append, not_or]; exact ⟨svcPc_not_gregWords n rd, hl⟩
  have hpc := h'.pc hp
  have hj := h'.jump hs (s.corePc n.val + 4)
  have he : u.coreResult n.val rd v = (u.setGreg n.val rd v).coreJump n.val (s.corePc n.val + 4) := by
    rw [State.coreResult, State.coreNext_eq, hpc]
  rw [he]
  refine ⟨hj.1, hj.2.1, fun hr => ?_, fun b hb => ?_⟩
  · rw [State.greg_ne _ _ _ hr, hj.2.2 _ (Addr.svcPc_ne_greg n.val rd), State.greg_setGreg _ _ _ _ hr]
  · rw [List.mem_cons, not_or] at hb
    rw [hj.2.2 b hb.1, State.reg_setGreg_of _ _ _ _ _ hb.2]

end Sys2Proof.Machine
end

