-- ==== Sys2Proof/WellFormed.lean ====
section
/-! DEFINITION. Well-formed commands: what the operands of a command must be for the world outside to be able to send it.
A meaning is given for ill-formed ones too. -/

namespace Sys2Proof

/-- A ring frame holds at most 511 payload words and 3 transaction words (R214, R215). -/
def frameOk (f : RingFrame) : Bool := decide (f.payload.length ≤ 511 ∧ f.hdr.length ≤ 3)

/-- A CAN frame holds at most 8 bytes, an FD frame 64 and no remote request (R171). -/
def canFrameOk (f : CanFrame) : Bool :=
  decide (f.data.length ≤ if f.fdf then 64 else 8) && !(f.fdf && f.rtr) && (f.fdf || !f.brs)

/-- The command is well-formed. -/
def Instr.wf : Instr → Bool
  | .registerWrite _ _ size _ => decide (1 ≤ size ∧ size ≤ 64)
  | .unitReset _ _ _ => true
  | .unitResetComplete _ => true
  | .unitEnableWrite _ _ _ => true
  | .readLowWordLatch _ _ => true
  | .writeLowWordStage _ _ _ => true
  | .writeHighWordCommit _ _ _ => true
  | .sqClearWrite _ _ _ => true
  | .guardValueWrite _ _ _ => true
  | .guardExpiry _ => true
  | .cfgCrcScanComplete => true
  | .cfgCrcRefCommit _ _ => true
  | .regionFence _ _ => true
  | .regionRelease _ _ => true
  | .regionReloadComplete _ => true
  | .dieLinkParityError _ => true
  | .dieLinkLost => true
  | .linkLossHoldExpiry => true
  | .dieLinkRecover => true
  | .fenceL _ => true
  | .fenceLComplete _ => true
  | .fenceF _ => true
  | .fenceFComplete _ => true
  | .hostFenceMark _ => true
  | .hostFenceRead => true
  | .hostFenceReadComplete => true
  | .timeStep _ _ => true
  | .timeRateWrite _ _ => true
  | .timeNowRead _ => true
  | .timeSourceWrite _ _ => true
  | .servoMeasurement _ _ => true
  | .slewTermExpiry => true
  | .timeSourceLossTimeout => true
  | .clockLaneLoss _ => true
  | .clockLaneReturn _ => true
  | .clockDirReturn => true
  | .lineWindowComplete count => count != 0
  | .timeBeaconSend => true
  | .timeBeaconReceive _ => true
  | .ptpMessageReceive _ _ _ => true
  | .ptpMessageSend _ => true
  | .irigBFrameReceive _ _ _ => true
  | .tinPpsEdge _ _ => true
  | .ppsOutSecond => true
  | .ppsOutWidthEnd => true
  | .anglePinCrossing _ _ => true
  | .angleSvStageWrite _ addr _ => addr.toNat % 4 == 0
  | .angleSvPush _ _ => true
  | .angleTrackTimeout => true
  | .angleBeaconReceive => true
  | .angleBeaconLossTimeout => true
  | .angleNowRead _ => true
  | .angleCtrlWrite _ _ => true
  | .ephemW0Write _ _ _ => true
  | .ephemWordWrite _ _ w _ => w != 0
  | .ephemStage _ => true
  | .ephemInstanceFire _ => true
  | .pinPulseEnd _ => true
  | .ephemCtrlWrite _ _ => true
  | .pinCfgWrite _ _ _ => true
  | .pinInputChange _ _ => true
  | .pinEdgeAccept _ => true
  | .eventRecordDrain _ => true
  | .chatterWindowExpiry _ => true
  | .chatterRelease _ => true
  | .bankVmismatch _ => true
  | .bankVokRecover _ => true
  | .bankEngStart _ _ _ => true
  | .bankEngStop _ _ _ => true
  | .pNop _ => true
  | .pStop _ => true
  | .pSho _ => true
  | .pShi _ _ => true
  | .pFetch _ => true
  | .pStore _ => true
  | .pWait _ => true
  | .pJmp _ => true
  | .pAddi _ => true
  | .pMov _ => true
  | .pSetp _ => true
  | .pClkset _ => true
  | .pEvt _ => true
  | .pStamp _ => true
  | .engineWaitResume _ => true
  | .engineStallResume _ _ => true
  | .engPcWrite _ _ _ => true
  | .engCtrlWrite _ _ _ => true
  | .engInjectWrite _ _ _ => true
  | .injectedInstructionExecute _ _ => true
  | .engTxfWrite _ _ _ => true
  | .engRxfRead _ _ => true
  | .engTxqFill _ => true
  | .engRxqDrain _ => true
  | .canInitSet _ _ _ => true
  | .canInitClear _ _ _ => true
  | .canRecover _ _ _ => true
  | .canSleepReq _ _ _ => true
  | .canSleepReqClear _ _ _ => true
  | .canIntegrationComplete _ => true
  | .canRecoveryComplete _ => true
  | .canSleepEnter _ => true
  | .canTxStart _ => true
  | .canArbitrationLost _ => true
  | .canTxComplete _ _ => true
  | .canProtocolError _ lec _ => decide (1 ≤ lec.val ∧ lec.val ≤ 6)
  | .canFrameReceive _ f _ => canFrameOk f
  | .canTxadd _ _ _ => true
  | .canTxcancel _ _ _ => true
  | .canRxWord0Read _ _ => true
  | .canRxLastWordRead _ _ => true
  | .canWakeDominant _ => true
  | .canWakeFrameDecode _ f => f.all canFrameOk
  | .uartTxfWrite _ _ _ => true
  | .uartRxfRead _ _ => true
  | .uartTxFrameStart _ => true
  | .uartCharSent _ => true
  | .uartDeLagEnd _ => true
  | .uartCharReceive _ _ _ => true
  | .uartEchoTimeout _ => true
  | .uartFrameGapExpiry _ => true
  | .uartTxqFill _ => true
  | .linkTrainStart _ _ _ => true
  | .linkClockLocked _ => true
  | .linkBitAlignDone _ => true
  | .linkSymbolLocked _ => true
  | .linkDeskewed _ lanes _ => decide (lanes.length ≤ 4 ∧ lanes.Nodup)
  | .linkConfigDone _ _ => true
  | .linkTrainTimeout _ => true
  | .linkTrainQuietEnd _ => true
  | .linkTs1Receive _ => true
  | .linkSkpSend _ => true
  | .linkSkpReceive _ _ => true
  | .linkAmSend _ _ => true
  | .linkAmReceive _ _ _ _ => true
  | .linkFrameReceive _ _ _ f => frameOk f
  | .linkAckReceive _ lanes => decide (lanes.length ≤ 4)
  | .linkNakReceive _ lanes => decide (lanes.length ≤ 4)
  | .linkReplayTimerExpiry _ => true
  | .linkReplayExhausted _ => true
  | .linkBerWindowEnd _ lanes => decide (lanes.length ≤ 4)
  | .linkLoopbackWrite _ _ _ => true
  | .linkTestWrite _ _ _ => true
  | .bypassCtrlWrite _ _ => true
  | .bypassJoinStart => true
  | .bypassSettleEnd => true
  | .bypassJoinTimeout => true
  | .bypassDownHoldExpiry => true
  | .ringFrameArrive _ x _ _ => frameOk x.frame
  | .ringFrameCommit _ => true
  | .ringJoinReceive => true
  | .ringLeaveReceive => true
  | .ringBreakReceive => true
  | .ringHealReceive => true
  | .ringRejoin _ _ => true
  | .ringLeave _ _ => true
  | .ringLeaveComplete => true
  | .reorderHoldExpiry => true
  | .bridgePairFrameReceive x => frameOk x.frame
  | .bridgeRecordExpiry => true
  | .ringRequestReceive => true
  | .bridgeFetchRetry _ => true
  | .bridgeFetchComplete _ _ => true
  | .bridgeHoldExpiry _ => true
  | .bridgeWriteBufferAccept _ => true
  | .ringResponseReceive => true
  | .bridgeRetryGapExpiry _ => true
  | .txnResponseTimeout _ => true
  | .txnDeadlineExpiry _ => true
  | .tagQuarantineEnd _ => true
  | .semaphoreRead _ _ => true
  | .semaphoreWrite _ _ _ => true
  | .semaphoreLeaseExpiry _ => true
  | .switchFrameArrive _ _ bytes => decide (14 ≤ bytes.length)
  | .switchFrameEnd _ _ => true
  | .redIdleUpdate _ => true
  | .egressTxStart _ => true
  | .switchQueueDeliver _ _ => true
  | .queueSwitchWaitExpiry _ _ => true
  | .captureQueuePacket _ => true
  | .capRdWrite _ _ _ => true
  | .capCtrlWrite _ _ _ => true
  | .policerConfigWrite _ _ _ _ => true
  | .shaperConfigWrite _ _ _ _ => true
  | .shaperEligible _ => true
  | .gateEntryBoundary _ => true
  | .gateOverrideExpiry _ _ => true
  | .configChange _ _ _ => true
  | .gateChangeTime _ => true
  | .prpFrameReceive _ bytes _ => decide (14 ≤ bytes.length)
  | .prpSupervisionSend => true
  | .staLinkChange _ _ _ _ _ => true
  | .add _ => true
  | .sub _ => true
  | .and _ => true
  | .or _ => true
  | .xor _ => true
  | .sll _ => true
  | .srl _ => true
  | .sra _ => true
  | .clt _ => true
  | .cltu _ => true
  | .mul _ => true
  | .mulhs _ => true
  | .mulhu _ => true
  | .div _ => true
  | .divu _ => true
  | .rem _ => true
  | .remu _ => true
  | .clz _ => true
  | .popc _ => true
  | .bswap _ => true
  | .slli _ => true
  | .srli _ => true
  | .srai _ => true
  | .addi _ => true
  | .andi _ => true
  | .ori _ => true
  | .xori _ => true
  | .clti _ => true
  | .cltiu _ => true
  | .ldhi _ => true
  | .ldw _ => true
  | .ldh _ => true
  | .ldhu _ => true
  | .ldb _ => true
  | .ldbu _ => true
  | .stw _ => true
  | .sth _ => true
  | .stb _ => true
  | .beq _ => true
  | .bne _ => true
  | .blt _ => true
  | .bge _ => true
  | .bltu _ => true
  | .bgeu _ => true
  | .jmp _ => true
  | .call _ => true
  | .jr _ => true
  | .callr _ => true
  | .ret _ => true
  | .ldf _ => true
  | .stf _ => true
  | .stfp _ => true
  | .stamp _ => true
  | .lookup _ => true
  | .crc32cB _ => true
  | .crc32cH _ => true
  | .crc32cW _ => true
  | .crc16B _ => true
  | .send _ => true
  | .recv _ => true
  | .droppkt _ => true
  | .gets _ => true
  | .puts _ => true
  | .rtt _ => true
  | .wfe _ => true
  | .brk _ => true
  | .svcStallComplete _ => true
  | .impreciseAccessException _ => true
  | .interruptEntry _ => true
  | .svcTimerCompare _ => true
  | .svcDoorbellWrite _ _ _ => true
  | .start _ _ _ => true
  | .halt _ _ _ => true
  | .step _ _ _ => true
  | .breakpointHit _ => true
  | .watchdog _ => true
  | .memoryScrubRead _ addr => decide (addr < 0x6_0000 ∧ addr % 4 = 0)
  | .qPush _ _ _ => true
  | .qPushEnd _ _ _ => true
  | .qPushAbort _ _ _ => true
  | .qPop _ _ => true
  | .qPopHostStallExpiry _ => true
  | .qDroppkt _ _ _ => true
  | .dramInitComplete => true
  | .dramTrainingComplete => true
  | .dramFillComplete _ => true
  | .dramBringupFail _ => true
  | .dramScrubRead addr _ => decide (addr < 2 ^ 34)
  | .endpointReply => true
  | .endpointFetchLimitExpiry _ => true
  | .pairHeartbeatSend => true
  | .pairHeartbeatReceive _ => true
  | .pairPathSilence _ => true
  | .pairLinkLost => true
  | .pairStartWaitExpiry => true
  | .pairSilence100us => true
  | .pairSilence250us => true
  | .pairedCommandIssue => true
  | .m2RecordAccept _ => true
  | .m2RecordReceive r => r.all fun ws => ws.length == 4
  | .mirrorRecordReceive _ => true
  | .m3PeriodSend => true
  | .pairSnapshotComplete => true
  | .switchover _ _ => true
  | .resync _ _ => true
  | .handoverSend => true
  | .takebackHoldExpiry => true
  | .enableRise => true
  | .feedEnableQualified _ _ => true
  | .feedRampComplete _ _ => true
  | .enableFall => true
  | .feedReverseTurnoff _ _ => true
  | .feedReverseRecover _ _ => true
  | .feedUv _ _ => true
  | .feedUvRecover _ _ _ => true
  | .feedSwitchoverStart _ => true
  | .feedDeadTimeEnd _ => true
  | .feedReturnHoldEnd _ => true
  | .feedDisableWrite _ _ _ => true
  | .powerDieReset _ _ => true
  | .grpOn _ => true
  | .grpOff _ => true
  | .grpRampComplete _ _ => true
  | .shortDuringRamp _ _ => true
  | .grpLimitEnter _ _ => true
  | .grpLimitExit _ _ => true
  | .groupFastTrip _ _ => true
  | .groupSlowTrip _ _ => true
  | .groupEnergyLimit _ _ _ => true
  | .grpRetryExpiry _ => true
  | .grpRetriesClear _ => true
  | .tmemBlockEnd => true
  | .thermalWarn _ _ => true
  | .thermalShut _ _ => true
  | .thermalClear _ _ => true
  | .logicPorRelease _ => true
  | .logicSupplyLoss => true
  | .resetNAssert => true
  | .cometPor => true
  | .vaonLoss => true
  | .warm _ _ => true
  | .perstAssert => true
  | .fuseLoadComplete _ => true
  | .imageLoadComplete _ => true
  | .applyComplete _ => true
  | .checkScanComplete => true
  | .release => true
  | .cacheWriteComplete => true
  | .pcieCrsLimit => true
  | .anchorStore => true
  | .xtalStop => true
  | .enter _ _ => true
  | .hibernateEntryComplete => true
  | .wakePinAssert _ _ => true
  | .ktAlarm => true
  | .begin _ _ => true
  | .program _ _ => true
  | .commit _ _ => true
  | .abort _ _ => true
  | .bootCmdComplete => true
  | .ownerLock _ _ => true
  | .bootProtectWrite _ _ => true
  | .confirm _ _ => true
  | .trialSecond => true
  | .trialWindowExpiry => true
  | .bootSetDataAccess _ _ => true
  | .faultRecordCommit => true
  | .mirrorWrite => true
  | .faultQuietExpiry => true
  | .faultWindowExpiry => true
  | .faultInject _ _ => true
  | .hostFabricRequest _ isWrite bytes _ data => decide (1 ≤ bytes) && (!isWrite || decide (data.length = (bytes + 3) / 4))
  | .msixSend _ => true
  | .hostDmaTailWrite _ _ _ => true
  | .hostDmaCtrlWrite _ _ _ => true
  | .dmaToHostBuffer _ _ _ => true
  | .dmaToQueueBuffer _ _ ctl bytes => bytes.length == ctl.toNat % 2 ^ 16
  | .dmaError _ cause => cause != 0
  | .hostDoorbellWrite _ _ => true
  | .mgmtRead _ _ => true
  | .mgmtWrite _ _ _ => true
  | .mgmtPairedWrite _ _ _ _ => true
  | .mgmtStatus _ => true
  | .mgmtCsRiseEarly _ => true
  | .logicRestart _ _ => true
  | .logicRestartRaise => true
  | .usbBusReset _ => true
  | .setConfiguration _ _ => true
  | .setInterface itf alt => itf == 2 || alt == 0
  | .clearFeatureEndpointHalt _ _ => true
  | .portFeatureRequest _ _ _ => true
  | .usbPortConnectDebounced _ => true
  | .usbPortResetEnd _ => true
  | .usbPortResumeEnd _ => true
  | .usbOvercurrent _ => true
  | .usbSuspend _ => true
  | .usbRead _ _ _ _ => true
  | .usbWrite _ len _ data => decide (data.length ≤ len.toNat)
  | .usbPairedWrite _ len _ data => decide (data.length ≤ len.toNat)
  | .faultRead _ _ _ => true
  | .imageBlock _ len _ data => decide (data.length ≤ len.toNat)
  | .imageCmd _ _ _ => true
  | .audioInTransfer => true
  | .audioFeedbackTransfer => true
  | .usbRemoteWakeRequest _ => true
  | .usbRemoteWakeKEnd => true
  | .cardRailLoss => true
  | .perstDeassert => true
  | .pcieLinkChange _ _ => true
  | .usbHostResume => true
  | .usbPortDisconnect _ => true
  | .usbPortBabble _ => true
  | .usbPortDeviceResume _ => true
  | .setAddress _ => true

end Sys2Proof
end

