-- ==== Sys2Proof/Tests/Slice0.lean ====
section
/-! SUPPORT. Tests of the model: ill-formed commands are refused; single steps and operations give what the worked examples
of the spec say; and for every statement with hypotheses a state and operands that meet them, clause by clause. -/

open Sys2Proof Sys2Proof.Machine

namespace Sys2Proof.Tests

/-- The hub after its release, with everything else as at reset. -/
def base : State := { State.reset with start := { State.reset.start with released := true } }

/-- `s` with EN of unit `u` set. -/
def en (s : State) (u : HubUnit) : State := s.setFlag (unitCtrl u) 0 true

/-- `s` with queue `q` enabled with 32 entries, producer `p` and consumer `c`. -/
def openQ (s : State) (q : Nat) (p c : SourceId) : State :=
  (((s.setReg (Addr.qUnitCtrl q) 1).setReg (Addr.qCfg q) (word (2 * q + 2 * 2 ^ 12))).setReg (Addr.qEnds q)
    (word (p.toNat + c.toNat * 2 ^ 16)))

/-- `s` with core `n` running, and instruction `i` at its PC 0x100. -/
def coreAt (s : State) (n : Nat) (i : SInstr) : State :=
  let s := (s.setCorePc n 0x100).setCore n { s.core n with sync := .running }
  { s with mem := Memory.setWord s.mem (Addr.coreRam n + 0x100) (encodeS i) }

/-- `s` with general register `r` of core `n` set. -/
def greg (s : State) (n : Nat) (r : Reg) (v : Word) : State := s.setGreg n r v

/-- `s` with engine `e` running, and instruction `i` at its PC 0. -/
def engAt (s : State) (e : Nat) (i : PInstr) : State :=
  (s.setEng e { s.eng e with sync := .running }).setReg (Addr.prog (e / 8) (s.eng e).pc.toNat) (word (encodeP i).toNat)

/-- `s` with value `v` armed at the guarded pair `x`. -/
def arm (s : State) (x : Nat) (v : Word) : State := s.setGuard x { commits := 255, failCode := 3, armed := some ⟨.core 0, v, s.now⟩ }

end Sys2Proof.Tests

namespace Sys2Proof.Tests

set_option linter.constructorNameAsVariable false
set_option Elab.async false

/-! Ill-formed commands, one for each check of WellFormed.lean. -/

def badFrame : RingFrame :=
  ⟨.c, 0, 0, 0, 0, 0, false, .east, false, 0, 0, 0, 0, 0, 0, 0, [0, 0, 0, 0], [], true, 0⟩
def longFrame : RingFrame := { badFrame with hdr := [], payload := List.replicate 512 0 }
def canData (fdf rtr brs : Bool) (n : Nat) : CanFrame := ⟨false, false, rtr, 0, fdf, brs, 0, List.replicate n 0⟩

theorem test_wf_size : (Instr.registerWrite .host 0 0 0).wf = false ∧ (Instr.registerWrite .host 0 65 0).wf = false
    ∧ (Instr.registerWrite .host 0 64 0).wf = true := by decide
theorem test_wf_count : (Instr.lineWindowComplete 0).wf = false := by decide
theorem test_wf_aligned : (Instr.angleSvStageWrite .host 2 0).wf = false ∧ (Instr.memoryScrubRead 0 2).wf = false
    ∧ (Instr.memoryScrubRead 0 0x6_0000).wf = false ∧ (Instr.dramScrubRead (2 ^ 34) 1).wf = false := by decide
theorem test_wf_word : (Instr.ephemWordWrite .host 0 0 0).wf = false := by decide
theorem test_wf_lec : (Instr.canProtocolError 0 0 ⟨.inFrame, none⟩).wf = false
    ∧ (Instr.canProtocolError 0 7 ⟨.flag, none⟩).wf = false := by decide
theorem test_wf_can : (Instr.canFrameReceive 0 (canData false false false 9) 0).wf = false
    ∧ (Instr.canFrameReceive 0 (canData true false true 65) 0).wf = false
    ∧ (Instr.canFrameReceive 0 (canData true true false 8) 0).wf = false
    ∧ (Instr.canFrameReceive 0 (canData false false true 8) 0).wf = false
    ∧ (Instr.canWakeFrameDecode 0 (some (canData false false true 8))).wf = false
    ∧ (Instr.canFrameReceive 0 (canData true false true 64) 0).wf = true := by decide
theorem test_wf_lanes : (Instr.linkDeskewed .east [0, 0] 0).wf = false
    ∧ (Instr.linkBerWindowEnd .east (List.replicate 5 ⟨[], 0⟩)).wf = false := by decide
theorem test_wf_ring : (Instr.linkFrameReceive .east true 0 badFrame).wf = false
    ∧ (Instr.ringFrameArrive .east ⟨false, 0, badFrame⟩ 0 0).wf = false
    ∧ (Instr.bridgePairFrameReceive ⟨false, 0, badFrame⟩).wf = false := by
  decide
theorem test_wf_payload : frameOk longFrame = false := by decide +kernel
theorem test_wf_ethernet : (Instr.switchFrameArrive 0 0 (List.replicate 13 0)).wf = false
    ∧ (Instr.prpFrameReceive 0 (List.replicate 13 0) true).wf = false := by decide
theorem test_wf_m2 : (Instr.m2RecordReceive (some [1, 2, 3])).wf = false := by decide
theorem test_wf_host : (Instr.hostFabricRequest 0 true 0 true []).wf = false
    ∧ (Instr.hostFabricRequest 0 true 8 true [1]).wf = false ∧ (Instr.dmaToQueueBuffer 0 0 2 [1]).wf = false
    ∧ (Instr.dmaError 0 0).wf = false := by decide
theorem test_wf_usb : (Instr.setInterface 1 1).wf = false ∧ (Instr.usbWrite 0 0 0 [1]).wf = false
    ∧ (Instr.usbPairedWrite 0 0 0 [1]).wf = false ∧ (Instr.imageBlock 0 0 0 [1]).wf = false := by decide

/-! Worked examples of the spec. -/

/-- Chapter 1, source IDs. -/
theorem test_source_ids : sourceId (.engine 29) = 0x3045 ∧ sourceId (.core 2) = 0x4142 ∧ sourceId (.group 6) = 0x8846 := by
  decide

/-- Chapter 2, sequence-cleared status: the register after the further error, which a write with the old SEQ meets. -/
def staleBase : State := base.setReg Addr.regifBerrStatus 0x2B00_0003

theorem test_stale_clear : (staleBase.sqWrite Addr.regifBerrStatus 0x2A00_0003).reg Addr.regifStaleClearCount = 1
    ∧ (staleBase.sqWrite Addr.regifBerrStatus 0x2A00_0003).reg Addr.regifStaleClearAddr = 0x0001_0010 := by
  decide +kernel
theorem test_fresh_clear :
    (staleBase.sqWrite Addr.regifBerrStatus 0x2B00_0003).reg Addr.regifBerrStatus = 0x2B00_0000 := by decide +kernel

/-- Chapter 2, guarded pairs: the complement of GLOBAL_REGION_FENCE commits its value, another word does not. -/
theorem test_region_fence : ((base.writeLocal .host 0x100 2).2.guardCompl 0x100 0xFFFF_FFFD).1 = some 2
    ∧ ((base.writeLocal .host 0x100 2).2.guardCompl 0x100 0x0000_000D).1 = none := by decide +kernel

/-- Chapter 4: RATE for an oscillator that runs 12.5 ppm fast, and the time that one second then reads. -/
theorem test_rate : ({ base.setReg Addr.timeRate 0xFF2E_4994 with frc := 400_005_000 }).timeNs = 999_999_999 := by
  decide +kernel

/-- Chapter 4, mains angle: the time of 90° in cycle 412,305. -/
theorem test_angle_time :
    ({ base with angle := { base.angle with
        freq := 0x31F8_51EC, cycle := 412_300, t0 := BitVec.ofNat 80 (1_760_000_000_123_456_789 * 65536) } }).angleTime
      412_305 0x4000_0000 = some (1_760_000_000_228_519_826 * 65536 + 49_973) := by decide +kernel

/-- Chapter 6, the SSI encoder's program. -/
theorem test_ssi_words : [0xA001, 0x5C04, 0xC200, 0xA000, 0x2C10, 0x4800, 0x6041].map (fun w : Nat => decodeP (BitVec.ofNat 16 w))
    = [some (.clkset true), some (.wait 6 4), some (.stamp 0 true), some (.clkset false), some (.shi 24 0 true),
       some (.store true), some (.jmp 0 0x41)] := by decide

/-- Chapter 13, two posted writes and a fence: words of its program. -/
theorem test_core_words : decodeS 0x007A_0288 = some (.ldhi 10 0x7A) ∧ decodeS 0x0100_5284 = some (.imm .ori 10 10 0x100)
    ∧ decodeS 0x0060_6170 = some (.stfp 5 12) ∧ decodeS 0x0120_01B0 = some (.fenceF 6) := by decide

/-- Chapter 20, the fabric window 3. -/
theorem test_window : ((base.setReg 0xB1_011C 0x0000_0091).setReg 0xB1_0118 0x0100_0001).windowAddr 0x313_0008
    = 0x0091_0113_0008 := by decide +kernel

/-- Chapter 21: FB of a laptop that records 256 samples per cycle. -/
theorem test_feedback : ({ base.setReg Addr.usbAudCtrl 0x0110_07C0 with angle := { base.angle with freq := 838_357_484 } }).usbFb
    = 0x0001_995B := by decide +kernel

/-! What a few commands do. -/

/-- A step takes the front command: DIVU by zero sets DZ (R314, R322). -/
theorem test_divide_by_zero :
    (match step { coreAt (greg base 1 3 7) 1 (.alu .divu 5 3 4) with pending := [.divu 1] } with
      | .next t => t.greg 1 5 == 0 && t.ctxBit 1 3 && t.corePc 1 == 0x104 && t.pending.isEmpty
      | _ => false) = true := by decide +kernel

/-- SUB wraps, with the destination among the sources (R314). -/
theorem test_sub_wraps :
    (match execSub 0 (coreAt (greg base 0 3 1) 0 (.alu .sub 3 0 3)) with
      | .next t => t.greg 0 3 == 0xFFFF_FFFF && t.corePc 0 == 0x104
      | _ => false) = true := by decide +kernel

/-- An idle period counts FRC (R81). -/
theorem test_idle : (match step base with | .next t => t.frc == 1 && t.clock == 1 | _ => false) = true := by decide +kernel

/-- D21.5 at both disparities, from R187; K28.5 at both, from the table of R189 and its complement. -/
theorem test_line_codes : dataCode false 0xB5 = clkCode ∧ dataCode true 0xB5 = clkCode
    ∧ specialCode false 0xBC = 0b0011111010 ∧ specialCode true 0xBC = 0b1100000101 := by decide +kernel
/-- The check value of CRC-32C, with which R214 forms the FCS: 0xE306_9283 for the ASCII digits 1 to 9. -/
theorem test_fcs : crc32c [0x31, 0x32, 0x33, 0x34, 0x35, 0x36, 0x37, 0x38, 0x39] = 0xE306_9283 := by decide +kernel

/-- A misaligned load traps with MISALIGNED, code 3, and its address (R321). -/
theorem test_misaligned :
    (match execLdw 2 (coreAt (greg base 2 3 0x2_0001) 2 (.load .word 5 3 0)) with
      | .next t => t.reg (Addr.svcSreg 2 2) == 3 && t.reg (Addr.svcSreg 2 3) == 0x2_0001
      | _ => false) = true := by decide +kernel

/-! For every statement that has hypotheses, a state and operands that meet them, for each of its clauses. -/

/-- The reference word is not scanned (R41). -/
theorem scanCrc_setRef (s : State) (v : Word) : (s.setReg Addr.regifCfgCrcRef v).scanCrc = s.scanCrc := by
  have h : ∀ a ∈ scanSet, (s.setReg Addr.regifCfgCrcRef v).scanWord a = s.scanWord a := by
    intro a ha
    have hne : a ≠ Addr.regifCfgCrcRef := by
      rintro rfl
      have hr := (List.mem_filter.1 ha).2
      revert hr; decide +kernel
    have hv (u : HubUnit) : (s.setReg Addr.regifCfgCrcRef v).unitCtrlView u = s.unitCtrlView u := by
      have : unitCtrl u ≠ Addr.regifCfgCrcRef := by cases u <;> decide +revert
      simp [State.unitCtrlView, State.enabled, State.flag, State.isBusy, this]
    simp [State.scanWord, hne, hv]
  unfold State.scanCrc; rw [List.map_congr_left h]

/-- A hub whose scan is on and whose reference is `v`. -/
def scanning (v : Word) : State := (base.setReg Addr.regifCfgCrcCtrl 1).setReg Addr.regifCfgCrcRef v

theorem scanning_ready (v : Word) : (scanning v).start.logicUp = true ∧ (scanning v).flag Addr.regifCfgCrcCtrl 0 = true
    ∧ (scanning v).scanSuspended = false ∧ (scanning v).cfg.tainted = false ∧ (scanning v).fault.inject.armed = false
    ∧ (scanning v).fault.inject.done = false ∧ (scanning v).cfg.drifted = false := by
  have h (a : Nat) (ha : a ≠ Addr.regifCfgCrcRef) : (scanning v).reg a = (base.setReg Addr.regifCfgCrcCtrl 1).reg a := by
    simp [scanning, ha]
  have hf (a i : Nat) (ha : a ≠ Addr.regifCfgCrcRef) :
      (scanning v).flag a i = (base.setReg Addr.regifCfgCrcCtrl 1).flag a i := by simp [State.flag, h a ha]
  have hs : (scanning v).scanSuspended = (base.setReg Addr.regifCfgCrcCtrl 1).scanSuspended := by
    simp only [State.scanSuspended, State.field, hf Addr.regifCfgCrcCtrl _ (by decide),
      h Addr.globalRegionState (by decide)]
  exact ⟨rfl, by rw [hf _ _ (by decide)]; decide +kernel, by rw [hs]; decide +kernel, rfl, rfl, rfl, rfl⟩

namespace P10

def c1 : State := greg (greg (greg base 1 3 0x80000000) 1 4 0xFFFFFFFF) 1 0 7
def alu (op : AluOp) : State := coreAt c1 1 (.alu op 5 3 4)
def alu0 (op : AluOp) : State := coreAt c1 1 (.alu op 3 3 0)
def alug0 (op : AluOp) : State := coreAt c1 1 (.alu op 0 3 4)

theorem witness_AluInstructionsRun :
    ∃ (s : State) (n : Fin 4) (op : AluOp) (rd : Reg) (ra : Reg) (rb : Reg), s.issues n (.alu op rd ra rb) = true :=
  ⟨(alu .add), 1, .add, 5, 3, 4, by decide +kernel⟩

theorem witness_ImmediateAndCrcInstructionsRun :
    (∃ (s : State) (n : Fin 4) (op : ImmOp) (rd : Reg) (ra : Reg) (v : Half), s.issues n (.imm op rd ra v) = true)
    ∧ (∃ (s : State) (n : Fin 4) (rd : Reg) (v : Half), s.issues n (.ldhi rd v) = true)
    ∧ (∃ (s : State) (n : Fin 4) (op : CrcOp) (rd : Reg) (ra : Reg) (rb : Reg), s.issues n (.crc op rd ra rb) = true) :=
  ⟨⟨(coreAt c1 1 (.imm .addi 4 4 0xFFFF)), 1, .addi, 4, 4, 0xFFFF, by decide +kernel⟩,
   ⟨(coreAt c1 1 (.ldhi 9 0x8001)), 1, 9, 0x8001, by decide +kernel⟩,
   ⟨(coreAt c1 1 (.crc .c32w 9 3 4)), 1, .c32w, 9, 3, 4, by decide +kernel⟩⟩

theorem witness_LoadInstructionsRun :
    (∃ (s : State) (n : Fin 4) (op : LoadOp) (rd : Reg) (ra : Reg) (v : Half) (a : Nat), s.issues n (.load op rd ra
      v) = true ∧ a = (s.greg n.val ra + v.signExtend 32).toNat ∧ a % loadSize op = 0 ∧ a < 0x6_0000 ∧ (0x2_0000
      ≤ a ∨ op = .word) ∧ Store.get 0 s.ecc (Addr.coreRam n.val + a / 4 * 4) = 0)
    ∧ (∃ (s : State) (n : Fin 4) (rd : Reg) (ra : Reg) (v : Half) (a : Nat) (w : Word) (u : State), s.issues n (.load
      .word rd ra v) = true ∧ (s.greg n.val ra + v.signExtend 32).toNat = 0x1000_0000 + a ∧ a < 0x100_0000 ∧ a %
      4 = 0 ∧ s.coreHeld n.val a false = false ∧ (s.setCore n.val { s.core n.val with cur := s.fetched n
      }).readLocal (.core n) a = (.data w, u)) :=
  ⟨⟨((let s := coreAt (greg base 2 3 0x20004) 2 (.load .half 5 3 0xFFFE); {s with mem := Memory.setWord s.mem (Addr.coreRam 2 + 0x20000) 0x80FF1234})), 2, .half, 5, 3, 0xFFFE, 0x20002, by decide +kernel⟩,
   ⟨(coreAt (greg base 2 3 0x10010010) 2 (.load .word 5 3 0x20)), 2, 5, 3, 0x20, 0x10030, 0, ((let s := coreAt (greg base 2 3 0x10010010) 2 (.load .word 5 3 0x20); s.setCore 2 { s.core 2 with cur := s.fetched 2 })), by decide +kernel⟩⟩

theorem witness_StoreInstructionsRun :
    ∃ (s : State) (n : Fin 4) (op : StoreOp) (rs : Reg) (ra : Reg) (v : Half) (a : Nat), s.issues n (.store op rs ra
      v) = true ∧ a = (s.greg n.val ra + v.signExtend 32).toNat ∧ a % storeSize op = 0 ∧ 0x2_0000 ≤ a ∧ a <
      0x5_F000 ∧ s.fault.inject.armed = false ∧ (op = .word ∨ Store.get 0 s.ecc (Addr.coreRam n.val + a / 4 * 4)
      = 0) :=
  ⟨(coreAt (greg (greg base 2 3 0x20004) 2 5 0xDEADBEEF) 2 (.store .half 5 3 0xFFFE)), 2, .half, 5, 3, 0xFFFE, 0x20002, by decide +kernel⟩

theorem witness_ControlFlowInstructionsRun :
    (∃ (s : State) (n : Fin 4) (c : Cond) (ra : Reg) (rb : Reg) (off : Half), s.issues n (.branch c ra rb off) = true)
    ∧ (∃ (s : State) (n : Fin 4) (off : BitVec 26), s.issues n (.jmp off) = true)
    ∧ (∃ (s : State) (n : Fin 4) (ra : Reg) (v : Half), s.issues n (.jr ra v) = true)
    ∧ (∃ (s : State) (n : Fin 4) (off : BitVec 26), s.issues n (.call off) = true ∧ (s.core n.val).rstack.length < 16)
    ∧ (∃ (s : State) (n : Fin 4) (ra : Reg) (v : Half), s.issues n (.callr ra v) = true ∧ (s.core n.val).rstack.length
      < 16)
    ∧ (∃ (s : State) (n : Fin 4) (a : Word) (r : List Word), s.issues n .ret = true ∧ (s.core n.val).rstack = a :: r) :=
  ⟨⟨(coreAt c1 1 (.branch .lt 3 4 0xFFF0)), 1, .lt, 3, 4, 0xFFF0, by decide +kernel⟩,
   ⟨(coreAt c1 1 (.jmp 0x3FFFFFF)), 1, 0x3FFFFFF, by decide +kernel⟩,
   ⟨(coreAt c1 1 (.jr 3 7)), 1, 3, 7, by decide +kernel⟩,
   ⟨(coreAt c1 1 (.call 4)), 1, 4, by decide +kernel⟩,
   ⟨(coreAt c1 1 (.callr 3 7)), 1, 3, 7, by decide +kernel⟩,
   ⟨((coreAt (c1.setCore 1 { c1.core 1 with rstack := [0x200, 0x300] }) 1 .ret)), 1, 0x200, ([0x300]), by decide +kernel⟩⟩

end P10

namespace P11

def c1 : State := greg (greg (greg base 1 3 0x80000000) 1 4 0xFFFFFFFF) 1 0 7
def mem : State := { c1 with ring := { c1.ring with sync := .member } }
def farA (s : State) : State := greg (greg s 1 6 0x1234) 1 7 0x50
def stall1 (s : State) (i : SInstr) (k : Nat) : State := (s.setCorePc 1 0x100).setCore 1 { s.core 1 with sync := .stalled, stall := k, cur := encodeS i }
def tx (k : TxnKind) (a : FabricAddr) : Txn := ⟨.own, 5, k, .core 1, a, 1, [], .c, 3, 0, none, 0, true, 0, 0, 0, 0, 0, 0⟩
def withTx (s : State) (a : FabricAddr) : State := { s with bridge := { s.bridge with tags := [(0, some (tx .posted a))], order := 4 } }

theorem witness_FencesRun :
    (∃ (s : State) (n : Fin 4), s.issues n .fenceL = true ∧ s.fenceLDone n.val = true)
    ∧ (∃ (s : State) (n : Fin 4), s.issues n .fenceL = true ∧ s.fenceLDone n.val = false)
    ∧ (∃ (s : State) (n : Fin 4) (rd : Reg) (c : FenceCount), s.issues n (.fenceF rd) = true ∧ s.fenceFDone n.val
      s.bridge.order = true ∧ c = (assocGet s.fenceCounts (.core n)).getD {})
    ∧ (∃ (s : State) (n : Fin 4) (rd : Reg), s.issues n (.fenceF rd) = true ∧ s.fenceFDone n.val s.bridge.order = false)
    ∧ (∃ (s : State) (n : Fin 4), s.start.logicUp = true ∧ (s.core n.val).sync = .stalled ∧ decodeS (s.core n.val).cur
      = some .fenceL ∧ (s.core n.val).badStores = [] ∧ (s.core n.val).haltDue = false ∧ (s.core n.val).stepping
      = false ∧ s.fenceLDone n.val = true)
    ∧ (∃ (s : State) (n : Fin 4) (rd : Reg) (f : Fence) (c : FenceCount), s.start.logicUp = true ∧ (s.core n.val).sync
      = .stalled ∧ decodeS (s.core n.val).cur = some (.fenceF rd) ∧ (s.core n.val).haltDue = false ∧ (s.core
      n.val).stepping = false ∧ assocGet s.fences (.core n) = some f ∧ s.fenceFDone n.val f.point = true ∧ c =
      (assocGet s.fenceCounts (.core n)).getD {}) :=
  ⟨⟨(coreAt c1 1 .fenceL), 1, by decide +kernel⟩,
   ⟨(withTx (coreAt c1 1 .fenceL) 0xFF000000000), 1, by decide +kernel⟩,
   ⟨(coreAt {c1 with fenceCounts := [(.core 1, ⟨70000, true, 4, false⟩)]} 1 (.fenceF 8)), 1, 8, (⟨70000, true, 4, false⟩), by decide +kernel⟩,
   ⟨(withTx (coreAt c1 1 (.fenceF 8)) 0x5000000000), 1, 8, by decide +kernel⟩,
   ⟨(stall1 c1 .fenceL 4), 1, by decide +kernel⟩,
   ⟨({ stall1 c1 (.fenceF 8) 4 with fences := [(.core 1, ⟨true, 0⟩)], fenceCounts := [(.core 1, ⟨3, true, 4, false⟩)] }), 1, 8, (⟨true, 0⟩), (⟨3, true, 4, false⟩), by decide +kernel⟩⟩

theorem witness_StampLookupAndSpecialRegistersRun :
    (∃ (s : State) (n : Fin 4) (rd : Reg) (what : Fin 4), s.issues n (.stamp rd what) = true)
    ∧ (∃ (s : State) (n : Fin 4) (rd : Reg) (ra : Reg) (k : Fin 3) (key : Nat), s.issues n (.lookup rd ra k) = true ∧
      key = (s.greg n.val ra).toNat + (s.greg n.val (ra + 1)).toNat * 2 ^ 32 ∧ (∀ e j, Store.get 0 s.ecc
      (Addr.classEntry e j) = 0))
    ∧ (∃ (s : State) (n : Fin 4) (rd : Reg) (i : Fin 18), s.issues n (.gets rd i) = true ∧ i.val ≠ 8 ∧ i.val ≠ 9 ∧
      i.val ≠ 17)
    ∧ (∃ (s : State) (n : Fin 4) (rd : Reg) (v : Word) (r : List Word), s.issues n (.gets rd 17) = true ∧ (s.core
      n.val).rstack = v :: r)
    ∧ (∃ (s : State) (n : Fin 4) (rd : Reg), s.issues n (.gets rd 8) = true)
    ∧ (∃ (s : State) (n : Fin 4) (rd : Reg), s.issues n (.gets rd 9) = true)
    ∧ (∃ (s : State) (n : Fin 4) (i : Fin 18) (ra : Reg), s.issues n (.puts i ra) = true ∧ (i.val = 1 ∨ i.val = 5 ∨
      i.val = 6 ∨ i.val = 10 ∨ i.val = 12))
    ∧ (∃ (s : State) (n : Fin 4) (ra : Reg), s.issues n (.puts 17 ra) = true ∧ (s.core n.val).rstack.length < 16)
    ∧ (∃ (s : State) (n : Fin 4) (rd : Reg) (ra : Reg) (a : FabricAddr) (g : Nat), s.issues n (.ldf rd ra) = true ∧ a =
      s.pairAddr n.val ra ∧ s.refusesAddr a .read = false ∧ s.isOwn a = false ∧ faNode a ≠ 254 ∧ (s.liveTxns.any
      fun e => e.2.kind == .read && e.2.who == .core n) = false ∧ s.freeTag = some g ∧ s.ring.sync = .member)
    ∧ (∃ (s : State) (n : Fin 4) (rs : Reg) (ra : Reg) (a : FabricAddr) (g : Nat), s.issues n (.stf rs ra) = true ∧ a =
      s.pairAddr n.val ra ∧ s.refusesAddr a .write = false ∧ s.isOwn a = false ∧ faNode a ≠ 254 ∧
      (s.liveTxns.any fun e => e.2.kind == .read && e.2.who == .core n) = false ∧ s.freeTag = some g ∧
      s.ring.sync = .member)
    ∧ (∃ (s : State) (n : Fin 4) (rs : Reg) (ra : Reg) (a : FabricAddr) (g : Nat), s.issues n (.stfp rs ra) = true ∧ a
      = s.pairAddr n.val ra ∧ s.refusesAddr a .posted = false ∧ s.isOwn a = false ∧ faNode a ≠ 254 ∧
      (s.pairSelected (.core n) && s.pair.role != .off) = false ∧ (s.liveTxns.any fun e => e.2.kind == .read &&
      e.2.who == .core n) = false ∧ s.bridge.waiting = [] ∧ s.freeTag = some g ∧ s.ring.sync = .member)
    ∧ (∃ (s : State) (n : Fin 4) (rd : Reg) (ra : Reg) (d : TxnDone), s.start.logicUp = true ∧ (s.core n.val).sync =
      .stalled ∧ decodeS (s.core n.val).cur = some (.ldf rd ra) ∧ (s.core n.val).haltDue = false ∧ (s.core
      n.val).stepping = false ∧ (s.isOwn (s.pairAddr n.val ra) && faSpace (s.pairAddr n.val ra) == 0) = false ∧
      (s.bridge.ended.find? fun e => e.who == .core n) = some d ∧ d.cause = 0) :=
  ⟨⟨(coreAt {c1 with frc := 12345678} 1 (.stamp 5 2)), 1, 5, 2, by decide +kernel⟩,
   ⟨(((coreAt c1 1 (.lookup 5 4 1)).setReg (Addr.classEntry (4 * bucketOf 1 0x00000000FFFFFFFF + 2) 0) 0x80000001 |> fun s => (s.setReg (Addr.classEntry (4 * bucketOf 1 0x00000000FFFFFFFF + 2) 1) 0).setReg (Addr.classEntry (4 * bucketOf 1 0x00000000FFFFFFFF + 2) 2) 0xFFFFFFFF)), 1, 5, 4, 1, 0x00000000FFFFFFFF, by decide +kernel, by decide +kernel, fun _ _ => rfl⟩,
   ⟨(coreAt c1 1 (.gets 5 16)), 1, 5, 16, by decide +kernel⟩,
   ⟨(coreAt (c1.setCore 1 { c1.core 1 with rstack := [0x200] }) 1 (.gets 5 17)), 1, 5, 0x200, ([]), by decide +kernel⟩,
   ⟨(coreAt (({c1 with frc := 77 }).setCore 1 { c1.core 1 with cycles := 0x200000005 }) 1 (.gets 5 8)), 1, 5, by decide +kernel⟩,
   ⟨(coreAt (c1.setCore 1 { c1.core 1 with cycleHi := 9 }) 1 (.gets 5 9)), 1, 5, by decide +kernel⟩,
   ⟨(coreAt c1 1 (.puts 5 4)), 1, 5, 4, by decide +kernel⟩,
   ⟨(coreAt c1 1 (.puts 17 4)), 1, 4, by decide +kernel⟩,
   ⟨(farA (coreAt mem 1 (.ldf 5 6))), 1, 5, 6, 0x5000001234, 0, by decide +kernel⟩,
   ⟨(farA (coreAt mem 1 (.stf 4 6))), 1, 4, 6, 0x5000001234, 0, by decide +kernel⟩,
   ⟨(farA (coreAt mem 1 (.stfp 4 6))), 1, 4, 6, 0x5000001234, 0, by decide +kernel⟩,
   ⟨({ farA (stall1 mem (.ldf 5 6) 3) with bridge := { mem.bridge with ended := [⟨.core 1, 0x5000001234, 0, 0, [77]⟩] } }), 1, 5, 6, (⟨.core 1, 0x5000001234, 0, 0, [77]⟩), by decide +kernel⟩⟩

theorem witness_QueueInstructionsRun :
    (∃ (s : State) (n : Fin 4) (rs : Reg) (rr : Reg) (q : QSel) (nb : Bool) (m : Fin 3) (k : Nat) (mark : Mark),
      s.issues n (.send rs rr q nb m) = true ∧ k = s.queueOf n.val q ∧ mark = ([Mark.data, .last, .abort].getD
      m.val .data) ∧ s.qOpen k = true ∧ s.qProducer k = sourceId (.core n) ∧ (s.queue k).dropping = false ∧
      (s.queue k).popWait = 0 ∧ (s.queue k).words.length < (if mark = .abort then s.qSize k else s.qSize k - 1)
      ∧ s.fault.inject.armed = false)
    ∧ (∃ (s : State) (n : Fin 4) (rs : Reg) (rr : Reg) (q : QSel) (nb : Bool) (m : Fin 3) (k : Nat) (mark : Mark),
      s.issues n (.send rs rr q nb m) = true ∧ k = s.queueOf n.val q ∧ mark = ([Mark.data, .last, .abort].getD
      m.val .data) ∧ s.qOpen k = true ∧ s.qProducer k = sourceId (.core n) ∧ (s.queue k).dropping = false ∧ (if
      mark = .abort then s.qSize k else s.qSize k - 1) ≤ (s.queue k).words.length)
    ∧ (∃ (s : State) (n : Fin 4) (rd : Reg) (rm : Reg) (q : QSel) (nb : Bool) (k : Nat) (w : QWord) (r : List QWord),
      s.issues n (.recv rd rm q nb) = true ∧ k = s.queueOf n.val q ∧ s.qConsumer k = sourceId (.core n) ∧
      s.qAvail k = true ∧ (s.queue k).words = w :: r ∧ w.ecc = 0)
    ∧ (∃ (s : State) (n : Fin 4) (rd : Reg) (rm : Reg) (q : QSel) (nb : Bool), s.issues n (.recv rd rm q nb) = true ∧
      (s.qConsumer (s.queueOf n.val q) ≠ sourceId (.core n) ∨ s.qAvail (s.queueOf n.val q) = false))
    ∧ (∃ (s : State) (n : Fin 4) (q : QSel) (k : Nat) (a : List QWord) (w : QWord) (r : List QWord), s.issues n
      (.droppkt q) = true ∧ k = s.queueOf n.val q ∧ s.qConsumer k = sourceId (.core n) ∧ (s.queue k).words = a
      ++ w :: r ∧ (∀ x ∈ a, x.mark = .data) ∧ w.mark ≠ .data) :=
  ⟨⟨(coreAt (openQ c1 5 (sourceId (.core 1)) 0) 1 (.send 4 9 ⟨false, 0, 5⟩ true 1)), 1, 4, 9, (⟨false, 0, 5⟩), true, 1, 5, .last, by decide +kernel⟩,
   ⟨((coreAt (openQ c1 5 (sourceId (.core 1)) 0) 1 (.send 4 9 ⟨false, 0, 5⟩ false 1)).setQueue 5 { words := List.replicate 31 ⟨1, .data, 0⟩ }), 1, 4, 9, (⟨false, 0, 5⟩), false, 1, 5, .last, by decide +kernel⟩,
   ⟨((coreAt (openQ c1 5 0 (sourceId (.core 1))) 1 (.recv 4 9 ⟨false, 0, 5⟩ false)).setQueue 5 { words := [⟨7, .last, 0⟩, ⟨8, .data, 0⟩] }), 1, 4, 9, (⟨false, 0, 5⟩), false, 5, (⟨7, .last, 0⟩), ([⟨8, .data, 0⟩]), by decide +kernel⟩,
   ⟨((coreAt (openQ c1 5 0 (sourceId (.core 1))) 1 (.recv 4 9 ⟨false, 0, 5⟩ false))), 1, 4, 9, (⟨false, 0, 5⟩), false, by decide +kernel⟩,
   ⟨((coreAt (openQ c1 5 0 (sourceId (.core 1))) 1 (.droppkt ⟨false, 0, 5⟩)).setQueue 5 { words := [⟨7, .data, 0⟩, ⟨8, .last, 0⟩, ⟨9, .data, 0⟩] }), 1, (⟨false, 0, 5⟩), 5, ([⟨7, .data, 0⟩]), (⟨8, .last, 0⟩), ([⟨9, .data, 0⟩]), by decide +kernel⟩⟩

theorem witness_SystemInstructionsRun :
    (∃ (s : State) (n : Fin 4), s.issues n .rtt = true ∧ s.ctxBit n.val 2 = true)
    ∧ (∃ (s : State) (n : Fin 4), s.issues n .wfe = true ∧ s.interrupts n.val = [])
    ∧ (∃ (s : State) (n : Fin 4), s.issues n .wfe = true ∧ s.interrupts n.val ≠ [])
    ∧ (∃ (s : State) (n : Fin 4), s.issues n .brk = true ∧ s.flag (Addr.svcCtrl n.val) 0 = true)
    ∧ (∃ (s : State) (n : Fin 4), s.issues n .brk = true ∧ s.flag (Addr.svcCtrl n.val) 0 = false ∧ s.ctxBit n.val 2 =
      false) :=
  ⟨⟨((coreAt c1 1 .rtt).setReg (Addr.svcSreg 1 0) 6), 1, by decide +kernel⟩,
   ⟨(coreAt c1 1 .wfe), 1, by decide +kernel⟩,
   ⟨(((coreAt c1 1 .wfe).setReg (Addr.svcSreg 1 7) 2).setReg (Addr.svcSreg 1 6) 2), 1, by decide +kernel⟩,
   ⟨((coreAt c1 1 .brk).setReg (Addr.svcCtrl 1) 1), 1, by decide +kernel⟩,
   ⟨((coreAt c1 1 .brk).setReg (Addr.svcCtrl 1) 0), 1, by decide +kernel⟩⟩

end P11

namespace P12

def c1 : State := greg (greg (greg base 1 3 0x80000000) 1 4 0xFFFFFFFF) 1 0 7
def run1 (s : State) : State := (s.setCorePc 1 0x100).setCore 1 { s.core 1 with sync := .running }
def vec (s : State) : State := s.setReg (Addr.svcSreg 1 5) 0x400

theorem witness_TrapsAreTaken :
    (∃ (s : State) (n : Fin 4) (b : Nat) (r : List Nat), s.start.logicUp = true ∧ (s.core n.val).sync = .running ∧
      s.bpMatch n.val = false ∧ (s.core n.val).badStores = [] ∧ (s.core n.val).haltDue = false ∧ (s.core
      n.val).stepping = false ∧ s.interrupts n.val = b :: r ∧ s.ctxBit n.val 0 = true ∧ s.ctxBit n.val 2 = false)
    ∧ (∃ (s : State) (n : Fin 4) (a : Word) (r : List Word), s.start.logicUp = true ∧ (s.core n.val).sync = .running ∧
      (s.core n.val).haltDue = false ∧ (s.core n.val).stepping = false ∧ (s.core n.val).badStores = a :: r ∧
      s.ctxBit n.val 2 = false) :=
  ⟨⟨(vec (((run1 c1).setReg (Addr.svcSreg 1 7) 3).setReg (Addr.svcSreg 1 6) 2) |> fun s => s.setReg (Addr.svcSreg 1 0) 1), 1, 1, ([]), by decide +kernel⟩,
   ⟨(vec ((run1 c1).setCore 1 { (run1 c1).core 1 with badStores := [0x10001230, 4] }) |> fun s => s.setReg (Addr.svcSreg 1 0) 1), 1, 0x10001230, ([4]), by decide +kernel⟩⟩

theorem witness_PreciseExceptionsAreTaken :
    (∃ (s : State) (n : Fin 4) (op : LoadOp) (rd : Reg) (ra : Reg) (v : Half) (a : Word), s.issues n (.load op rd ra
      v) = true ∧ a = s.greg n.val ra + v.signExtend 32 ∧ s.ctxBit n.val 2 = false ∧ (a.toNat % loadSize op ≠ 0
      ∨ (0x6_0000 ≤ a.toNat ∧ a.toNat < 0x1000_0000)))
    ∧ (∃ (s : State) (n : Fin 4), s.issues n .rtt = true ∧ s.ctxBit n.val 2 = false)
    ∧ (∃ (s : State) (n : Fin 4) (off : BitVec 26), s.issues n (.call off) = true ∧ s.ctxBit n.val 2 = false ∧ 16 ≤
      (s.core n.val).rstack.length)
    ∧ (∃ (s : State) (n : Fin 4), s.issues n .ret = true ∧ s.ctxBit n.val 2 = false ∧ (s.core n.val).rstack = []) :=
  ⟨⟨(vec (coreAt c1 1 (.load .half 5 4 0))), 1, .half, 5, 4, 0, 0xFFFFFFFF, by decide +kernel⟩,
   ⟨(vec (coreAt c1 1 .rtt)), 1, by decide +kernel⟩,
   ⟨(vec (coreAt (c1.setCore 1 { c1.core 1 with rstack := List.replicate 16 4 }) 1 (.call 4))), 1, 4, by decide +kernel⟩,
   ⟨(vec (coreAt c1 1 .ret)), 1, by decide +kernel⟩⟩

theorem witness_CoreControlRuns :
    (∃ (s : State) (n : Fin 4), s.start.logicUp = true ∧ (s.core n.val).timerArmed = true ∧ (s.reg (Addr.svcSreg
      n.val 10)).toNat + (s.reg (Addr.svcSreg n.val 11)).toNat * 2 ^ 32 ≤ s.timeNs ∧ s.fenced n.val = false)
    ∧ (∃ (s : State) (i : Initiator) (n : Fin 4), s.ready i (Addr.svcDoorbell n.val) true = true ∧ i ≠ .core n)
    ∧ (∃ (s : State) (i : Initiator) (n : Fin 4) (v : Word), s.ready i (Addr.svcCmd n.val) true = true ∧ bit v 1 =
      false ∧ bit v 2 = false ∧ (s.core n.val).sync = .halted ∧ s.enabled (.core n) = true)
    ∧ (∃ (s : State) (i : Initiator) (n : Fin 4), s.ready i (Addr.svcCmd n.val) true = true ∧ (s.core n.val).sync =
      .running)
    ∧ (∃ (s : State) (i : Initiator) (n : Fin 4) (v : Word), s.ready i (Addr.svcCmd n.val) true = true ∧ bit v 1 =
      false ∧ (s.core n.val).sync = .halted ∧ s.enabled (.core n) = true)
    ∧ (∃ (s : State) (n : Fin 4), s.start.logicUp = true ∧ (s.core n.val).sync = .running ∧ s.bpMatch n.val = true)
    ∧ (∃ (s : State) (n : Fin 4) (d : Nat), s.start.logicUp = true ∧ (s.core n.val).sync ≠ .halted ∧ d = s.field
      (Addr.svcWdog n.val) 0 16 ∧ d ≠ 0 ∧ (s.core n.val).kicked + 400 * d ≤ s.now)
    ∧ (∃ (s : State) (n : Fin 4) (a : Nat), s.start.logicUp = true ∧ a % 4 = 0 ∧ a < 0x6_0000 ∧ Store.get 0 s.ecc
      (Addr.coreRam n.val + a) = 0)
    ∧ (∃ (s : State) (n : Fin 4) (a : Nat), s.start.logicUp = true ∧ a % 4 = 0 ∧ a < 0x6_0000 ∧ Store.get 0 s.ecc
      (Addr.coreRam n.val + a) = 1) :=
  ⟨⟨(({ (c1.setReg (Addr.svcSreg 1 10) 5) with frc := 1000 } : State).setCore 1 { c1.core 1 with timerArmed := true }), 1, by decide +kernel⟩,
   ⟨base, (.core 2), 1, by decide +kernel⟩,
   ⟨(en base (.core 1)), (.core 2), 1, 1, by decide +kernel⟩,
   ⟨(run1 base), (.core 2), 1, by decide +kernel⟩,
   ⟨(en base (.core 1)), (.core 2), 1, 4, by decide +kernel⟩,
   ⟨(((run1 base).setReg (Addr.svcBpCtrl 1 2) 1).setReg (Addr.svcBpAddr 1 2) 0x100), 1, by decide +kernel⟩,
   ⟨({ ((en (run1 base) (.core 1)).setReg (Addr.svcWdog 1) 10) with frc := 4000 }), 1, 10, by decide +kernel⟩,
   ⟨base, 3, 0x5FFFC, by decide +kernel⟩,
   ⟨({ (en base (.core 3)) with ecc := [(Addr.coreRam 3 + 0x5FFFC, 1)] }), 3, 0x5FFFC, by decide +kernel⟩⟩

end P12

namespace P20

def e1 : State := (base.setReg (Addr.engWindow 10) 0xFF00).setEng 10 { base.eng 10 with a := 7, b := 9, so := 0x80000001, si := 5 }
def own : State := ((e1.setReg (pinCfgAddr 35) 0x12).setReg (Addr.engPins 10) 0x803).setReg (Addr.engSclk 10) 3
def stl (w : Half) (k : Nat) : State := own.setEng 10 { own.eng 10 with sync := .stalled, cur := some { word := w, stall := k } }

theorem witness_EngineDataInstructionsRun :
    (∃ (s : State) (e : Fin 64), s.pIssues e .nop = true)
    ∧ (∃ (s : State) (e : Fin 64) (b : Bool) (v : BitVec 10), s.pIssues e (.addi b v) = true)
    ∧ (∃ (s : State) (e : Fin 64) (d : Fin 8) (r : Fin 8) (o : Fin 4) (v : Word), s.pIssues e (.mov d r o) = true ∧ d ≠
      5 ∧ v = movOp o (s.movSource e.val r))
    ∧ (∃ (s : State) (e : Fin 64) (d : Fin 4) (v : Byte), s.pIssues e (.setp d v) = true)
    ∧ (∃ (s : State) (e : Fin 64) (level : Bool) (p : Nat), s.pIssues e (.clkset level) = true ∧ p = s.field
      (Addr.engSclk e.val) 0 5)
    ∧ (∃ (s : State) (e : Fin 64) (c : Fin 8) (target : Byte), s.pIssues e (.jmp c target) = true ∧ s.jmpCond e.val c =
      false)
    ∧ (∃ (s : State) (e : Fin 64) (c : Fin 8) (target : Byte), s.pIssues e (.jmp c target) = true ∧ s.jmpCond e.val c =
      true ∧ s.inWindow e.val target = true)
    ∧ (∃ (s : State) (e : Fin 64) (op : Fin 4) (ev : Fin 8), s.pIssues e (.evt op ev) = true ∧ (op = 0 ∨ op = 2))
    ∧ (∃ (s : State) (e : Fin 64) (ev : Fin 8), s.pIssues e (.evt 3 ev) = true)
    ∧ (∃ (s : State) (e : Fin 64) (arg : Byte), s.pIssues e (.wait 0 arg) = true ∧ s.engPin e.val arg.toNat = true) :=
  ⟨⟨(engAt e1 10 .nop), 10, by decide +kernel⟩,
   ⟨(engAt e1 10 (.addi true 0x3FF)), 10, true, 0x3FF, by decide +kernel⟩,
   ⟨(engAt own 10 (.mov 0 1 1)), 10, 0, 1, 1, 0xFFFFFFF8, by decide +kernel⟩,
   ⟨(engAt own 10 (.setp 0 0xFF)), 10, 0, 0xFF, by decide +kernel⟩,
   ⟨(engAt own 10 (.clkset true)), 10, true, 3, by decide +kernel⟩,
   ⟨(engAt own 10 (.jmp 1 5)), 10, 1, 5, by decide +kernel⟩,
   ⟨(engAt own 10 (.jmp 2 255)), 10, 2, 255, by decide +kernel⟩,
   ⟨(engAt own 10 (.evt 0 7)), 10, 0, 7, by decide +kernel⟩,
   ⟨(engAt own 10 (.evt 3 7)), 10, 7, by decide +kernel⟩,
   ⟨((engAt own 10 (.wait 0 5)).setPin 37 { raw := true }), 10, 5, by decide +kernel⟩⟩

theorem witness_EngineShiftAndFifoInstructionsRun :
    (∃ (s : State) (e : Fin 64), s.pIssues e .stop = true ∧ (s.eng e.val).slot = none)
    ∧ (∃ (s : State) (e : Fin 64) (n : Fin 32) (k : Nat), s.pIssues e (.sho n 1 false) = true ∧ s.flag (Addr.engCtrl
      e.val) 2 = false ∧ k = n.val + 1)
    ∧ (∃ (s : State) (e : Fin 64) (n : Fin 32) (k : Nat) (v : Nat), s.pIssues e (.sho n 0 false) = true ∧ s.flag
      (Addr.engCtrl e.val) 2 = false ∧ s.flag (Addr.engCtrl e.val) 0 = true ∧ k = n.val + 1 ∧ k ≤ s.groupWidth
      e.val ∧ v = (s.eng e.val).so.toNat % 2 ^ k)
    ∧ (∃ (s : State) (u : State) (e : Fin 64) (levels : List (Fin 32 × Bool)) (n : Fin 32) (src : Fin 4) (k : Nat) (v : Nat), s.start.logicUp = true ∧ u = s.pinInputs (e.val / 8) levels ∧ u.pIssues e (.shi n src false) = true ∧ u.flag (Addr.engCtrl e.val) 3 = false ∧ k = n.val + 1 ∧ (src = 0 → k ≤ u.groupWidth e.val) ∧ v = (match src.val with | 0 => u.groupBits e.val (u.rawWord (e.val / 8)) k | 1 => (u.eng e.val).a.toNat % 2 ^ k | 2 => (u.eng e.val).b.toNat % 2 ^ k | _ => 0))
    ∧ (∃ (s : State) (e : Fin 64) (blk : Bool) (w : Word) (r : List Word), s.pIssues e (.fetch blk) = true ∧ (s.eng
      e.val).tx = w :: r)
    ∧ (∃ (s : State) (e : Fin 64), s.pIssues e (.fetch true) = true ∧ (s.eng e.val).tx = [])
    ∧ (∃ (s : State) (e : Fin 64) (blk : Bool), s.pIssues e (.store blk) = true ∧ (s.eng e.val).rx.length < s.rxDepth
      e.val)
    ∧ (∃ (s : State) (e : Fin 64), s.pIssues e (.store false) = true ∧ s.rxDepth e.val ≤ (s.eng e.val).rx.length ∧
      s.field (Addr.engFifoCtrl e.val) 0 16 = 0)
    ∧ (∃ (s : State) (e : Fin 64) (what : Fin 4), s.pIssues e (.stamp what true) = true ∧ (s.eng e.val).rx.length +
      (s.stampValues what).length ≤ s.rxDepth e.val)
    ∧ (∃ (s : State) (e : Fin 64) (arg : Byte), s.pIssues e (.wait 1 arg) = true ∧ s.engPin e.val arg.toNat = true) :=
  ⟨⟨(engAt e1 10 .stop), 10, by decide +kernel⟩,
   ⟨(engAt e1 10 (.sho 31 1 false)), 10, 31, 32, by decide +kernel⟩,
   ⟨((engAt own 10 (.sho 2 0 false)).setReg (Addr.engCtrl 10) 1), 10, 2, 3, 1, by decide +kernel⟩,
   ⟨(engAt own 10 (.shi 2 0 false)), ((engAt own 10 (.shi 2 0 false)).pinInputs 1 [(3, true)]), 10, [(3, true)], 2, 0, 3, 1, by decide +kernel⟩,
   ⟨(engAt (e1.setEng 10 { e1.eng 10 with tx := [5, 6] }) 10 (.fetch false)), 10, false, 5, ([6]), by decide +kernel⟩,
   ⟨(engAt e1 10 (.fetch true)), 10, by decide +kernel⟩,
   ⟨(engAt e1 10 (.store true)), 10, true, by decide +kernel⟩,
   ⟨(engAt (e1.setEng 10 { e1.eng 10 with rx := List.replicate 8 6 }) 10 (.store false)), 10, by decide +kernel⟩,
   ⟨(engAt { e1 with frc := 88888 } 10 (.stamp 0 true)), 10, 0, by decide +kernel⟩,
   ⟨((engAt own 10 (.wait 1 5)).setPin 37 { raw := true }), 10, 5, by decide +kernel⟩⟩

theorem witness_EngineEventsRun :
    (∃ (s : State) (e : Fin 64) (arg : Byte) (l : Latched), s.start.logicUp = true ∧ (s.eng e.val).sync = .stalled ∧
      (s.eng e.val).cur = some l ∧ l.stall = 1 ∧ l.injected = false ∧ decodeP l.word = some (.wait 0 arg) ∧
      s.engPin e.val arg.toNat = true)
    ∧ (∃ (s : State) (u : State) (e : Fin 64) (levels : List (Fin 32 × Bool)) (l : Latched) (w : Word) (r : List Word),
      s.start.logicUp = true ∧ u = s.pinInputs (e.val / 8) levels ∧ (u.eng e.val).sync = .stalled ∧ (u.eng
      e.val).cur = some l ∧ l.stall = 2 ∧ l.injected = false ∧ decodeP l.word = some (.fetch true) ∧ (u.eng
      e.val).tx = w :: r)
    ∧ (∃ (s : State) (u : State) (e : Fin 64) (levels : List (Fin 32 × Bool)) (w : Half), s.start.logicUp = true ∧ u =
      s.pinInputs (e.val / 8) levels ∧ (u.eng e.val).sync = .running ∧ (u.eng e.val).cur = none ∧ (u.eng
      e.val).slot = some w ∧ (u.eng e.val).slotAt + 2 ≤ u.now ∧ decodeP w = some (.addi false 5))
    ∧ (∃ (s : State) (e : Fin 64) (q : Nat) (w : QWord) (r : List QWord), s.start.logicUp = true ∧ s.flag
      (Addr.engQbind e.val) 6 = true ∧ (s.eng e.val).tx.length < s.txDepth e.val ∧ q = s.field (Addr.engQbind
      e.val) 0 6 ∧ s.qConsumer q = sourceId (.engine e) ∧ s.qAvail q = true ∧ (s.queue q).words = w :: r ∧ w.ecc
      = 0 ∧ w.mark ≠ .abort)
    ∧ (∃ (s : State) (e : Fin 64) (q : Nat) (n : Nat) (w : Word) (r : List Word), s.start.logicUp = true ∧ s.flag
      (Addr.engQbind e.val) 14 = true ∧ (s.eng e.val).rx = w :: r ∧ q = s.field (Addr.engQbind e.val) 8 6 ∧ n =
      s.field (Addr.engQbind e.val) 16 8 ∧ s.qOpen q = true ∧ s.qProducer q = sourceId (.engine e) ∧ (s.queue
      q).dropping = false ∧ (s.queue q).popWait = 0 ∧ (s.queue q).words.length < s.qSize q - 1 ∧
      s.fault.inject.armed = false) :=
  ⟨⟨((stl (encodeP (.wait 0 5)) 1).setPin 37 { raw := true }), 10, 5, ({ word := encodeP (.wait 0 5), stall := 1 }), by decide +kernel⟩,
   ⟨(own.setEng 10 { own.eng 10 with sync := .stalled, tx := [4, 5], cur := some { word := encodeP (.fetch true), stall := 2 } }), ((own.setEng 10 { own.eng 10 with sync := .stalled, tx := [4, 5], cur := some { word := encodeP (.fetch true), stall := 2 } }).pinInputs 1 [(3, true)]), 10, [(3, true)], ({ word := encodeP (.fetch true), stall := 2 }), 4, ([5]), by decide +kernel⟩,
   ⟨({ own.setEng 10 { own.eng 10 with sync := .running, slot := some (encodeP (.addi false 5)) } with frc := 9 }), (({ own.setEng 10 { own.eng 10 with sync := .running, slot := some (encodeP (.addi false 5)) } with frc := 9 }).pinInputs 1 [(3, true)]), 10, [(3, true)], (encodeP (.addi false 5)), by decide +kernel⟩,
   ⟨(((openQ own 9 0 (sourceId (.engine 10))).setReg (Addr.engQbind 10) 0x49).setQueue 9 { words := [⟨4, .last, 0⟩, ⟨5, .data, 0⟩] }), 10, 9, (⟨4, .last, 0⟩), ([⟨5, .data, 0⟩]), by decide +kernel⟩,
   ⟨(((openQ own 9 (sourceId (.engine 10)) 0).setReg (Addr.engQbind 10) 0x24900).setEng 10 { own.eng 10 with rx := [3, 4], pktWords := 1 }), 10, 9, 2, 3, ([4]), by decide +kernel⟩⟩

theorem witness_EngineRegisterAccessesRun :
    (∃ (s : State) (i : Initiator) (n : Fin 8), s.ready i (Addr.bankEngStart n.val) true = true)
    ∧ (∃ (s : State) (i : Initiator) (n : Fin 8), s.ready i (Addr.bankEngStop n.val) true = true ∧ (∀ k, k < 64 →
      (s.eng k).slot = none))
    ∧ (∃ (s : State) (i : Initiator) (e : Fin 64), s.ready i (Addr.engPc e.val) true = true ∧ (s.eng e.val).sync =
      .stopped)
    ∧ (∃ (s : State) (i : Initiator) (e : Fin 64), s.ready i (Addr.engCtrl e.val) true = true)
    ∧ (∃ (s : State) (i : Initiator) (e : Fin 64), s.ready i (Addr.engInject e.val) true = true ∧ (s.eng e.val).slot =
      none ∧ (s.eng e.val).sync = .running)
    ∧ (∃ (s : State) (i : Initiator) (e : Fin 64), s.ready i (Addr.engTxf e.val) true = true ∧ s.flag (Addr.engQbind
      e.val) 6 = false ∧ (s.eng e.val).tx.length < s.txDepth e.val)
    ∧ (∃ (s : State) (i : Initiator) (e : Fin 64) (w : Word) (r : List Word), s.ready i (Addr.engRxf e.val) false =
      true ∧ s.flag (Addr.engQbind e.val) 14 = false ∧ (s.eng e.val).rx = w :: r) :=
  ⟨⟨((en (en base (.engine 8)) (.engine 15)).setEng 15 { sync := .faulted }), (.core 3), 1, by decide +kernel⟩,
   ⟨((base.setEng 15 { sync := .running }).setEng 8 { sync := .stalled }), (.core 3), 1, by decide +kernel⟩,
   ⟨e1, (.core 3), 10, by decide +kernel⟩,
   ⟨(e1.setEng 10 { e1.eng 10 with tx := [3], rx := [4] }), (.core 3), 10, by decide +kernel⟩,
   ⟨(e1.setEng 10 { e1.eng 10 with sync := .running }), (.core 3), 10, by decide +kernel⟩,
   ⟨e1, (.core 3), 10, by decide +kernel⟩,
   ⟨(e1.setEng 10 { e1.eng 10 with rx := [4, 5] }), (.core 3), 10, 4, ([5]), by decide +kernel⟩⟩

end P20

namespace P21

theorem witness_PinsAndBanksRun :
    (∃ (s : State) (i : Initiator) (pin : Fin 256), s.ready i (pinCfgAddr pin.val) true = true)
    ∧ (∃ (s : State) (pin : Fin 256) (level : Bool), s.start.logicUp = true ∧ (s.pin pin.val).raw = !level ∧ (s.pin
      pin.val).filt = !level ∧ s.field (pinCfgAddr pin.val) 16 16 ≠ 0)
    ∧ (∃ (s : State) (pin : Fin 256) (level : Bool), s.start.logicUp = true ∧ (s.pin pin.val).raw = !level ∧ (s.pin
      pin.val).filt = level)
    ∧ (∃ (s : State) (pin : Fin 256) (e : Int), s.start.logicUp = true ∧ (s.pin pin.val).edge = some e ∧ s.field
      (Addr.bankChat (pin.val / 32)) 0 8 = 0 ∧ s.flag (pinCfgAddr pin.val) 11 = false ∧ s.flag (pinCfgAddr
      pin.val) 12 = false)
    ∧ (∃ (s : State) (pin : Fin 256) (e : Int) (b : Nat), s.start.logicUp = true ∧ b = pin.val / 32 ∧ (s.pin
      pin.val).edge = some e ∧ s.field (Addr.bankChat b) 0 8 = 2 ∧ (s.pin pin.val).suppressed = false ∧ (s.pin
      pin.val).edges = 1 ∧ s.flag (pinCfgAddr pin.val) 11 = false ∧ s.flag (pinCfgAddr pin.val) 12 = false)
    ∧ (∃ (s : State) (n : Fin 8) (w : List (Word × Mark)) (r : List (List (Word × Mark))) (q : Nat), s.start.logicUp =
      true ∧ (s.bank n.val).buffer = w :: r ∧ r = [] ∧ q = s.field (Addr.bankEvtCtrl n.val) 0 6 ∧ s.qOpen q =
      true ∧ s.qProducer q = sourceId (.bank n) ∧ (s.queue q).dropping = false ∧ (s.queue q).popWait = 0 ∧
      (s.queue q).words.length + w.length < s.qSize q ∧ (∀ p, p ∈ w → p.2 ≠ .abort) ∧ s.fault.inject.armed =
      false)
    ∧ (∃ (s : State), s.start.logicUp = true)
    ∧ (∃ (s : State) (pin : Fin 256), s.start.logicUp = true ∧ (s.pin pin.val).suppressed = true ∧ s.flag (pinCfgAddr
      pin.val) 11 = false ∧ s.flag (pinCfgAddr pin.val) 12 = false)
    ∧ (∃ (s : State) (n : Fin 8), s.start.logicUp = true ∧ s.enabled (.bank n) = true ∧ s.ring.sync ≠ .transit)
    ∧ (∃ (s : State) (pin : Fin 256) (e : Int) (b : Nat) (q : Nat), s.start.logicUp = true ∧ b = pin.val / 32 ∧ (s.pin
      pin.val).edge = some e ∧ s.field (Addr.bankChat b) 0 8 = 0 ∧ s.flag (pinCfgAddr pin.val) 10 = false ∧
      (s.pin pin.val).raw = true ∧ s.flag (pinCfgAddr pin.val) 11 = true ∧ s.flag (Addr.bankUnitCtrl b) 0 = true
      ∧ s.flag (Addr.bankEvtCtrl b) 6 = true ∧ q = s.field (Addr.bankEvtCtrl b) 0 6 ∧ (s.bank b).buffer = [] ∧
      s.qOpen q = true ∧ s.qProducer q = sourceId (bankUnit b) ∧ (s.queue q).dropping = false ∧ (s.queue
      q).popWait = 0 ∧ (s.queue q).words.length + 4 < s.qSize q ∧ s.fault.inject.armed = false) :=
  ⟨⟨base, (.core 0), 77, by decide +kernel⟩,
   ⟨((base.setReg (pinCfgAddr 9) 0x00030000)), 9, true, by decide +kernel⟩,
   ⟨((base.setReg (pinCfgAddr 9) 0x00030000).setPin 9 { filt := true, edge := some 5 }), 9, true, by decide +kernel⟩,
   ⟨(base.setPin 255 { raw := true, edge := some 65536 }), 255, 65536, by decide +kernel⟩,
   ⟨(((base.setPin 33 { raw := true, edges := 1, edge := some 65536 }).setReg (Addr.bankChat 1) 2)), 33, 65536, 1, by decide +kernel⟩,
   ⟨(((openQ (en base (.bank 3)) 5 (sourceId (.bank 3)) 0).setReg (Addr.bankEvtCtrl 3) 0x45).setBank 3 { buffer := [[(1, .data), (2, .last)]] }), 3, ([(1, .data), (2, .last)]), ([]), 5, by decide +kernel⟩,
   ⟨(base.setPin 3 { edges := 7 }), by decide +kernel⟩,
   ⟨(base.setPin 3 { edges := 7, suppressed := true }), 3, by decide +kernel⟩,
   ⟨(en base (.bank 7)), 7, by decide +kernel⟩,
   ⟨(((openQ (en base (.bank 3)) 5 (sourceId (.bank 3)) 0).setReg (Addr.bankEvtCtrl 3) 0x45).setPin 100 { raw := true, edge := some (65536 * 4294967300) } |> fun s => s.setReg (pinCfgAddr 100) 0x800), 100, (65536 * 4294967300), 3, 5, by decide +kernel⟩⟩

end P21

namespace P30

def cb : State := en base (.can 3)
def canSt (s : State) (x : CanState) : State := s.setCan 3 x
def ctl (s : State) (v : Word) : State := s.setReg (Addr.canCtrl 3) v
def okT (s : State) : State := (s.setReg (Addr.canNbt 3) 0x00086303).setReg (Addr.canDbt 3) 0x2331
def wk (m : Bool) : State := (canSt (ctl cb 0x40) { sync := .sleep }).setCanWake 3 { asleep := true, frameMode := m, wufId := 0x123, wufMask := 0x1FFFFFFF }
def fr : CanFrame := ⟨false, false, false, 0x123, false, false, 4, [1,2,3,4]⟩
def fl (s : State) : State := ((s.setReg (Addr.canFltCfg 3) 1).setReg (Addr.canFilter 3 0 0 0) 0x80000000)

theorem witness_CanStatesRun :
    (∃ (s : State) (i : Initiator) (n : Fin 8), s.ready i (Addr.canCtrl n.val) true = true ∧ (s.can n.val).sending =
      none)
    ∧ (∃ (s : State) (i : Initiator) (n : Fin 8), s.ready i (Addr.canCtrl n.val) true = true ∧ (s.can n.val).sync =
      .init)
    ∧ (∃ (s : State) (i : Initiator) (n : Fin 8) (v : Word), s.ready i (Addr.canCtrl n.val) true = true ∧ (s.can
      n.val).sync = .busOff ∧ bit v 0 = false)
    ∧ (∃ (s : State) (i : Initiator) (n : Fin 8) (v : Word), s.ready i (Addr.canCtrl n.val) true = true ∧ (s.can
      n.val).sync = .errorActive ∧ bit v 0 = false)
    ∧ (∃ (s : State) (i : Initiator) (n : Fin 8) (v : Word), s.ready i (Addr.canCtrl n.val) true = true ∧ (s.can
      n.val).sync = .sleep ∧ bit v 0 = false)
    ∧ (∃ (s : State) (n : Fin 8), s.start.logicUp = true ∧ (s.can n.val).sync = .integrating ∧ (s.can n.val).txErr <
      128 ∧ (s.can n.val).rxErr < 128)
    ∧ (∃ (s : State) (n : Fin 8), s.start.logicUp = true ∧ (s.can n.val).sync = .recovering)
    ∧ (∃ (s : State) (n : Fin 8), s.start.logicUp = true ∧ s.canOnBus n.val = true ∧ s.flag (Addr.canCtrl n.val) 6 =
      true ∧ (s.can n.val).sending = none)
    ∧ (∃ (s : State) (n : Fin 8) (kind : CanErrCount) (rise : Nat), s.start.logicUp = true ∧ (s.can n.val).sync =
      .errorActive ∧ (s.can n.val).sending = none ∧ (kind = .flag → (s.can n.val).sentLast = false) ∧ rise = (if
      kind = .flag then 8 else 1) ∧ (s.can n.val).txErr < 128 ∧ (s.can n.val).rxErr + rise < 128)
    ∧ (∃ (s : State) (n : Fin 8) (lec : Fin 8) (kind : CanErrCount) (rise : Nat) (c : CanTx), s.start.logicUp = true ∧
      (s.can n.val).sync = .errorPassive ∧ (s.can n.val).sending = some c ∧ (s.can n.val).cancelled = false ∧
      s.flag (Addr.canCtrl n.val) 3 = false ∧ (kind = .flag → (s.can n.val).sentLast = true) ∧ rise = (if kind =
      .exempt ∧ (lec.val = 1 ∨ lec.val = 3) then 0 else 8) ∧ 255 < (s.can n.val).txErr + rise)
    ∧ (∃ (s : State) (n : Fin 8), s.start.logicUp = true ∧ (s.canWakeOf n.val).asleep = true ∧ (s.canWakeOf
      n.val).frameMode = false ∧ s.flag Addr.cometHibCtrl (16 + n.val) = false ∧ (s.can n.val).sync = .sleep)
    ∧ (∃ (s : State) (n : Fin 8) (f : CanFrame), s.start.logicUp = true ∧ (s.canWakeOf n.val).asleep = true ∧
      (s.canWakeOf n.val).frameMode = true ∧ s.flag Addr.cometHibCtrl (16 + n.val) = false ∧ f.fdf = false ∧
      (s.can n.val).sync = .sleep) :=
  ⟨⟨(canSt cb { sync := .errorActive, get := 4, fill := 2, lock := some .host }), (.core 0), 3, by decide +kernel⟩,
   ⟨(okT cb), (.core 0), 3, by decide +kernel⟩,
   ⟨(canSt cb { sync := .busOff }), (.core 0), 3, 0x10, by decide +kernel⟩,
   ⟨(canSt cb { sync := .errorActive }), (.core 0), 3, 0x10, by decide +kernel⟩,
   ⟨(wk false), (.core 0), 3, 0x40, by decide +kernel⟩,
   ⟨(canSt cb { sync := .integrating, txErr := 127 }), 3, by decide +kernel⟩,
   ⟨(canSt cb { sync := .recovering, txErr := 256, rxErr := 3 }), 3, by decide +kernel⟩,
   ⟨((canSt (ctl cb 0xC0) { sync := .errorPassive }).setReg (Addr.canWufId 3) 0x20000123), 3, by decide +kernel⟩,
   ⟨(canSt cb { sync := .errorActive, rxErr := 100 }), 3, .flag, 8, by decide +kernel⟩,
   ⟨(canSt (ctl cb 0) { sync := .errorPassive, txErr := 250, sending := some ⟨3, 1⟩ }), 3, 3, .inFrame, 8, (⟨3, 1⟩), by decide +kernel⟩,
   ⟨(wk false), 3, by decide +kernel⟩,
   ⟨(wk true), 3, fr, by decide +kernel⟩⟩

theorem witness_CanFramesRun :
    (∃ (s : State) (n : Fin 8) (b : Nat), s.start.logicUp = true ∧ s.canOnBus n.val = true ∧ (s.can n.val).sending =
      none ∧ s.flag (Addr.canCtrl n.val) 6 = false ∧ s.canNext n.val = some b)
    ∧ (∃ (s : State) (n : Fin 8) (c : CanTx), s.start.logicUp = true ∧ (s.can n.val).sending = some c ∧ (s.can
      n.val).cancelled = false)
    ∧ (∃ (s : State) (n : Fin 8) (c : CanTx), s.start.logicUp = true ∧ (s.can n.val).sending = some c ∧ c.buf < 16 ∧
      (s.can n.val).sync = .errorActive ∧ (s.can n.val).txErr < 128 ∧ (s.can n.val).rxErr < 128)
    ∧ (∃ (s : State) (n : Fin 8) (f : CanFrame) (m : Nat) (b : Nat), s.start.logicUp = true ∧ (s.can n.val).sync =
      .errorActive ∧ (s.can n.val).txErr < 128 ∧ (s.can n.val).rxErr ≤ 127 ∧ s.canAccept n.val f = some m ∧
      s.flag (Addr.canQbind n.val) 6 = false ∧ (s.can n.val).fill < 16 ∧ b = ((s.can n.val).get + (s.can
      n.val).fill) % 16)
    ∧ (∃ (s : State) (n : Fin 8) (f : CanFrame), s.start.logicUp = true ∧ (s.can n.val).sync = .errorActive ∧ (s.can
      n.val).txErr < 128 ∧ (s.can n.val).rxErr ≤ 127 ∧ s.canAccept n.val f = none)
    ∧ (∃ (s : State) (i : Initiator) (n : Fin 8), s.ready i (Addr.canTxadd n.val) true = true)
    ∧ (∃ (s : State) (i : Initiator) (n : Fin 8) (v : Word), s.ready i (Addr.canTxcancel n.val) true = true ∧ (s.can
      n.val).sending = none ∧ (s.can n.val).pend &&& v.truncate 16 ≠ 0)
    ∧ (∃ (s : State) (i : Initiator) (n : Fin 8) (a : Nat), a = Addr.canRx n.val (s.can n.val).get 0 ∧ s.ready i a
      false = true ∧ (s.can n.val).fill ≠ 0 ∧ (s.can n.val).get < 16 ∧ (s.can n.val).lock = none ∧ s.stagedAt i
      a = none ∧ s.shadowAt i a = none)
    ∧ (∃ (s : State) (i : Initiator) (n : Fin 8) (a : Nat) (b : Nat), b = (s.can n.val).get ∧ b < 16 ∧ a = Addr.canRx
      n.val b (3 + (bufLength (s.reg (Addr.canRx n.val b 0)) (s.reg (Addr.canRx n.val b 1)) + 3) / 4) ∧ s.ready
      i a false = true ∧ (s.can n.val).fill ≠ 0 ∧ (s.can n.val).lock = some i ∧ s.stagedAt i a = none ∧
      s.shadowAt i a = none) :=
  ⟨⟨((canSt (ctl cb 2) { sync := .errorActive, pend := 0x9 }).setReg (Addr.canTx 3 0 0) 0x1FFFFFFF), 3, 3, by decide +kernel⟩,
   ⟨(canSt cb { sync := .errorActive, pend := 0x9, sending := some ⟨3, 1⟩ }), 3, (⟨3, 1⟩), by decide +kernel⟩,
   ⟨((canSt cb { sync := .errorActive, pend := 0x9, txErr := 0, sending := some ⟨3, 0x500000001⟩ }).setReg (Addr.canTx 3 3 1) 0x20), 3, (⟨3, 0x500000001⟩), by decide +kernel⟩,
   ⟨(fl (canSt cb { sync := .errorActive, get := 14, fill := 3, rxErr := 127 })), 3, fr, 0, 1, by decide +kernel⟩,
   ⟨((canSt cb { sync := .errorActive, get := 14, fill := 3, rxErr := 127 })), 3, fr, by decide +kernel⟩,
   ⟨((canSt cb { pend := 0xF0, ok := 0xFF, cncl := 0xFF00 })), (.core 1), 3, by decide +kernel⟩,
   ⟨((canSt cb { pend := 0xF0, ok := 0xFF, cncl := 0xFF00 })), (.core 1), 3, 0xFF81, by decide +kernel⟩,
   ⟨((canSt cb { get := 14, fill := 1 }).setReg (Addr.canRx 3 14 0) 0x77), (.core 1), 3, (Addr.canRx 3 14 0), by decide +kernel⟩,
   ⟨(((canSt cb { get := 15, fill := 16, lock := some (.core 1) }).setReg (Addr.canRx 3 15 1) 5).setReg (Addr.canRx 3 15 5) 0x88), (.core 1), 3, (Addr.canRx 3 15 5), 15, by decide +kernel⟩⟩

end P30

namespace P31

def ub : State := en base (.uart 9)
def ux (s : State) (x : UartState) : State := s.setUart 9 x
def gp (s : State) (v : Word) : State := s.setReg (Addr.uartGap 9) v
def ch : UartChar := ⟨0x1A5, false, true, false⟩

theorem witness_UartsRun :
    (∃ (s : State) (i : Initiator) (u : Fin 16), s.ready i (Addr.uartTxf u.val) true = true ∧ s.flag (Addr.uartQbind
      u.val) 6 = false ∧ (s.uart u.val).tx.length < 32 ∧ (s.uart u.val).discarding = false ∧ (s.uart
      u.val).active = false)
    ∧ (∃ (s : State) (i : Initiator) (u : Fin 16), s.ready i (Addr.uartTxf u.val) true = true ∧ (s.flag (Addr.uartQbind
      u.val) 6 = true ∨ 32 ≤ (s.uart u.val).tx.length))
    ∧ (∃ (s : State) (i : Initiator) (u : Fin 16) (w : Word) (r : List Word), s.ready i (Addr.uartRxf u.val) false =
      true ∧ s.flag (Addr.uartQbind u.val) 14 = false ∧ (s.uart u.val).rx = w :: r)
    ∧ (∃ (s : State) (i : Initiator) (u : Fin 16), s.ready i (Addr.uartRxf u.val) false = true ∧ s.flag (Addr.uartQbind
      u.val) 14 = false ∧ (s.uart u.val).rx = [])
    ∧ (∃ (s : State) (u : Fin 16) (w : Half) (r : List Half), s.start.logicUp = true ∧ s.enabled (.uart u) = true ∧
      (s.uart u.val).active = false ∧ (s.uart u.val).lag = false ∧ (s.uart u.val).sending = none ∧ (s.uart
      u.val).tx = w :: r ∧ s.flag (Addr.uartCtrl u.val) 9 = false ∧ (s.uartMode u.val = 1 → s.frameGap u.val ≠ 0
      → (s.uart u.val).lineBusy = false))
    ∧ (∃ (s : State) (u : Fin 16) (w : Half) (w' : Half) (r : List Half), s.start.logicUp = true ∧ (s.uart
      u.val).active = true ∧ (s.uart u.val).sending = some w ∧ (s.uart u.val).collided = false ∧ bit w 9 = false
      ∧ (s.uart u.val).tx = w' :: r ∧ s.flag (Addr.uartCtrl u.val) 9 = false)
    ∧ (∃ (s : State) (u : Fin 16) (w : Half), s.start.logicUp = true ∧ (s.uart u.val).sending = some w ∧ (s.uart
      u.val).collided = false ∧ bit w 9 = true)
    ∧ (∃ (s : State) (u : Fin 16), s.start.logicUp = true ∧ (s.uart u.val).lag = true)
    ∧ (∃ (s : State) (u : Fin 16) (c : UartChar) (d : Nat), s.start.logicUp = true ∧ s.enabled (.uart u) = true ∧
      (s.uart u.val).de = false ∧ (s.uart u.val).echoes = [] ∧ (s.uart u.val).inFrame = false ∧ (s.uart
      u.val).hold = none ∧ s.field (Addr.uartGap u.val) 16 16 ≠ 0 ∧ d = c.c.toNat % 2 ^ s.uartBits u.val ∧ (∀ p,
      s.uartParity u.val d = some p → c.parity = p) ∧ c.stop = true)
    ∧ (∃ (s : State) (u : Fin 16) (c : UartChar) (gap : Nat) (d : Nat) (w : Word), s.start.logicUp = true ∧ s.enabled
      (.uart u) = true ∧ (s.uart u.val).de = false ∧ (s.uart u.val).echoes = [] ∧ (s.uart u.val).inFrame = true
      ∧ (s.uart u.val).hold = some w ∧ gap < s.field (Addr.uartGap u.val) 16 16 ∧ s.field (Addr.uartGap u.val) 0
      16 = 0 ∧ s.flag (Addr.uartQbind u.val) 14 = false ∧ (s.uart u.val).rx.length < 32 ∧ d = c.c.toNat % 2 ^
      s.uartBits u.val ∧ (∀ p, s.uartParity u.val d = some p → c.parity = p) ∧ c.stop = true)
    ∧ (∃ (s : State) (u : Fin 16), s.start.logicUp = true ∧ (s.uart u.val).echoes ≠ [] ∧ (s.uart u.val).sending ≠ none)
    ∧ (∃ (s : State) (u : Fin 16) (w : Word), s.start.logicUp = true ∧ (s.uart u.val).inFrame = true ∧ (s.uart
      u.val).hold = some w ∧ s.flag (Addr.uartQbind u.val) 14 = false ∧ (s.uart u.val).rx.length < 32 ∧ (s.uart
      u.val).framing = false ∧ s.frameGap u.val ≠ 0)
    ∧ (∃ (s : State) (u : Fin 16) (q : Nat) (w : QWord) (r : List QWord), s.start.logicUp = true ∧ s.flag
      (Addr.uartQbind u.val) 6 = true ∧ (s.uart u.val).tx.length < 32 ∧ (s.uart u.val).discarding = false ∧
      (s.uart u.val).active = false ∧ q = s.field (Addr.uartQbind u.val) 0 6 ∧ s.qConsumer q = sourceId (.uart
      u) ∧ s.qAvail q = true ∧ (s.queue q).words = w :: r ∧ w.ecc = 0 ∧ w.mark = .last) :=
  ⟨⟨ub, (.core 0), 9, by decide +kernel⟩,
   ⟨(ux ub { tx := List.replicate 32 1 }), (.core 0), 9, by decide +kernel⟩,
   ⟨(ux ub { rx := [4, 5] }), (.core 0), 9, 4, ([5]), by decide +kernel⟩,
   ⟨ub, (.core 0), 9, by decide +kernel⟩,
   ⟨((ux ub { tx := [0x3FF, 5] }).setReg (Addr.uartCtrl 9) 0x1), 9, 0x3FF, ([5]), by decide +kernel⟩,
   ⟨((ux ub { active := true, sending := some 0x1FF, tx := [0x205] })), 9, 0x1FF, 0x205, ([]), by decide +kernel⟩,
   ⟨((ux ub { active := true, de := true, sending := some 0x3FF })), 9, 0x3FF, by decide +kernel⟩,
   ⟨((ux ub { lag := true, de := true, echoes := [1], collided := true })), 9, by decide +kernel⟩,
   ⟨(gp (ux ub { rx := [1] }) 0x10000), 9, ch, 0x1A5 % 2 ^ (gp (ux ub { rx := [1] }) 0x10000).uartBits 9, rfl, by decide +kernel, by decide +kernel, by decide +kernel, by decide +kernel, by decide +kernel, by decide +kernel, rfl, by decide +kernel, rfl⟩,
   ⟨(gp (ux ub { rx := [1], inFrame := true, hold := some 7 }) 0x20000), 9, ch, 1, 0x1A5 % 2 ^ (gp (ux ub { rx := [1] }) 0x10000).uartBits 9, 7, by decide +kernel⟩,
   ⟨((ux ub { active := true, sending := some 0x3FF, echoes := [1] })), 9, by decide +kernel⟩,
   ⟨(gp (ux ub { rx := [1], inFrame := true, hold := some 7, gapViolation := true, overrun := true }) 0x20000), 9, 7, by decide +kernel⟩,
   ⟨((openQ ub 5 0 (sourceId (.uart 9))).setReg (Addr.uartQbind 9) 0x45 |> fun s => s.setQueue 5 { words := [⟨0x3FF, .last, 0⟩, ⟨1, .data, 0⟩] }), 9, 5, (⟨0x3FF, .last, 0⟩), ([⟨1, .data, 0⟩]), by decide +kernel⟩⟩

end P31

namespace P32

def lk (l : Port) (x : LinkState) : State := (en base (linkUnit l)).setLink l x
def nb (l : Port) (s : State) : State := s.setReg (linkReg l Addr.linkNeighbour) 0x1203
def ctl (l : Port) (s : State) (v : Word) : State := s.setReg (linkReg l Addr.linkCtrl) v
def lb (l : Port) (s : State) (v : Word) : State := s.setReg (linkReg l Addr.linkLoopback) v
def rf (c : RingClass) (g : Bool) : RingFrame := sealFrame ⟨c, 1, 0, 2, 3, 0, false, .east, false, 1, 1, 0, 0, 0, 3, 0, [5], [6], g, 0⟩
def re (n : BitVec 12) : ReplayEntry := ⟨n, rf .c true, 1⟩
def act (l : Port) : State := lk l { sync := .active, replay := [re 3], waiting := [], txLseq := 4, next := 0xFFF, seen := ⟨0,3,1⟩ }
def ringy (s : State) : State := { s with ring := { s.ring with sync := .member } }
def byp (b : BypassSync) : State := { (nb .west (en (en base (.link 0)) (.link 1))) with bypass := ⟨b, false⟩ }
def tm (s : State) (f : TimeState → TimeState) : State := { s with time := f s.time }

theorem witness_LinkTrainingRun :
    (∃ (s : State) (i : Initiator) (l : Port) (addr : Word) (v : Word), addr.toNat = linkReg l Addr.linkCtrl ∧
      s.ready i addr.toNat true = true ∧ (s.link l).sync = .disabled ∧ s.enabled (linkUnit l) = true ∧ (l =
      .pair → s.fuses.pairCapable = true) ∧ s.field (linkReg l Addr.linkNeighbour) 0 8 ≠ 0xFF ∧ s.field (linkReg
      l Addr.linkLoopback) 0 2 = 0 ∧ s.bypass.sync ≠ .joining ∧ bit v 0 = true)
    ∧ (∃ (s : State) (l : Port), s.start.logicUp = true ∧ (s.link l).sync = .clockLock ∧ (s.link l).quiet = false)
    ∧ (∃ (s : State) (l : Port), s.start.logicUp = true ∧ (s.link l).sync = .bitAlign ∧ (s.link l).quiet = false)
    ∧ (∃ (s : State) (l : Port), s.start.logicUp = true ∧ (s.link l).sync = .symbolLock ∧ (s.link l).quiet = false)
    ∧ (∃ (s : State) (l : Port) (lanes : List (Fin 4)) (skew : Nat), s.start.logicUp = true ∧ (s.link l).sync = .deskew
      ∧ (l = .pair ∨ (lanes = [0, 1, 2, 3] ∧ skew ≤ 240)))
    ∧ (∃ (s : State) (l : Port) (id : LinkIdentity), s.start.logicUp = true ∧ (s.link l).sync = .config ∧ s.field
      (linkReg l Addr.linkLoopback) 0 2 = 0 ∧ id.node.toNat = s.field (linkReg l Addr.linkNeighbour) 0 8 ∧
      id.ring.toNat = s.field (linkReg l Addr.linkNeighbour) 8 4 ∧ id.port.toNat = s.field (linkReg l
      Addr.linkNeighbour) 12 2 ∧ (s.bypass.sync = .joining → s.linkWanted l = true))
    ∧ (∃ (s : State) (l : Port), s.start.logicUp = true ∧ (s.link l).sync = .config ∧ (s.field (linkReg l
      Addr.linkLoopback) 0 2 = 1 ∨ s.field (linkReg l Addr.linkLoopback) 0 2 = 2))
    ∧ (∃ (s : State) (l : Port), s.start.logicUp = true ∧ ((s.link l).sync = .clockLock ∨ (s.link l).sync = .bitAlign ∨
      (s.link l).sync = .symbolLock ∨ (s.link l).sync = .deskew ∨ (s.link l).sync = .config) ∧ (s.link l).quiet
      = false)
    ∧ (∃ (s : State), s.start.logicUp = true)
    ∧ (∃ (s : State), s.start.logicUp = true ∧ (s.link .pair).sync = .active)
    ∧ (∃ (s : State) (l : Port), s.start.logicUp = true ∧ (s.link l).sync = .active)
    ∧ (∃ (s : State) (i : Initiator) (l : Port) (v : Word), s.ready i (linkReg l Addr.linkLoopback) true = true ∧ (l =
      .pair → s.fuses.pairCapable = true) ∧ (s.link l).sync = .active ∧ s.field (linkReg l Addr.linkLoopback) 0
      2 = 0 ∧ bits v 0 2 = 3)
    ∧ (∃ (s : State) (i : Initiator) (l : Port) (v : Word), s.ready i (linkReg l Addr.linkLoopback) true = true ∧ (l =
      .pair → s.fuses.pairCapable = true) ∧ (s.link l).sync = .disabled ∧ s.field (linkReg l Addr.linkLoopback)
      0 2 = 0 ∧ bits v 0 2 = 1 ∧ s.enabled (linkUnit l) = true ∧ s.flag (linkReg l Addr.linkCtrl) 0 = true ∧
      s.bypass.sync ≠ .joining)
    ∧ (∃ (s : State) (i : Initiator) (l : Port) (v : Word), s.ready i (linkReg l Addr.linkTest) true = true ∧ (l =
      .pair → s.fuses.pairCapable = true) ∧ (s.link l).sync = .active ∧ s.field (linkReg l Addr.linkLoopback) 0
      2 = 0 ∧ s.flag (linkReg l Addr.linkTest) 0 = false ∧ bit v 0 = true)
    ∧ (∃ (s : State) (i : Initiator) (l : Port) (v : Word), s.ready i (linkReg l Addr.linkTest) true = true ∧ (l =
      .pair → s.fuses.pairCapable = true) ∧ (s.link l).sync = .test ∧ s.flag (linkReg l Addr.linkTest) 0 = true
      ∧ bit v 0 = false) :=
  ⟨⟨(nb .east (ctl .east (lk .east { quiet := true }) 0x5)), (.core 0), .east, (word (linkReg .east Addr.linkCtrl)), 0xFFFFFFFF, by decide +kernel⟩,
   ⟨(lk .west { sync := .clockLock }), .west, by decide +kernel⟩,
   ⟨(lk .west { sync := .bitAlign }), .west, by decide +kernel⟩,
   ⟨(lk .west { sync := .symbolLock }), .west, by decide +kernel⟩,
   ⟨(lk .west { sync := .deskew }), .west, ([0,1,2,3]), 240, by decide +kernel⟩,
   ⟨(ringy (nb .west (lk .west { sync := .config, next := 7 }))), .west, (⟨2, 3, 1⟩), by decide +kernel⟩,
   ⟨(lb .east (nb .east (lk .east { sync := .config, next := 7 })) 2), .east, by decide +kernel⟩,
   ⟨(lk .west { sync := .symbolLock }), .west, by decide +kernel⟩,
   ⟨(lk .west { sync := .symbolLock, quiet := true }), by decide +kernel⟩,
   ⟨(act .pair), by decide +kernel⟩,
   ⟨(ringy (act .east)), .east, by decide +kernel⟩,
   ⟨(ringy (act .east)), (.core 0), .east, 3, by decide +kernel⟩,
   ⟨(ctl .west (lk .west {}) 0x5), (.core 0), .west, 1, by decide +kernel⟩,
   ⟨(ringy (act .east)), (.core 0), .east, 0xFFFFFFFF, by decide +kernel⟩,
   ⟨((lk .west { sync := .test }).setReg (Addr.linkTest 1) 5), (.core 0), .west, 0xFFFFFFFE, by decide +kernel⟩⟩

theorem witness_LinkTrafficRun :
    (∃ (s : State) (l : Port), s.start.logicUp = true ∧ s.enabled (linkUnit l) = true ∧ (s.link l).quiet = false ∧ (l
      = .pair → s.fuses.pairCapable = true) ∧ ((s.link l).sync = .disabled ∨ (s.link l).sync = .active))
    ∧ (∃ (s : State), s.start.logicUp = true)
    ∧ (∃ (s : State) (l : Port), s.start.logicUp = true ∧ (s.link l).sync = .active ∧ (s.link l).amSeen = none ∧
      s.loopMode l ≠ 2)
    ∧ (∃ (s : State) (l : Port) (m : Marker), s.start.logicUp = true ∧ (s.link l).sync = .active ∧ m.echoValid = false)
    ∧ (∃ (s : State) (m : Marker) (stamp : Nat) (t1 : Nat) (r : List (Byte × Nat)), s.start.logicUp = true ∧ (s.link
      .pair).sync = .active ∧ m.echoValid = true ∧ (s.link .pair).amSent = (m.echoSeq, t1) :: r ∧ stamp - t1 -
      m.turnaround.toNat ≤ 160000 ∧ (s.link .pair).replayOn = true)
    ∧ (∃ (s : State) (l : Port) (f : RingFrame), s.start.logicUp = true ∧ (s.link l).sync = .active ∧ frameGood f =
      true ∧ (s.link l).takeNext = false)
    ∧ (∃ (s : State) (l : Port) (lseq : BitVec 12) (f : RingFrame), s.start.logicUp = true ∧ (s.link l).sync = .active
      ∧ frameGood f = true ∧ (s.link l).takeNext = false ∧ (s.link l).nakAt = none ∧ 2048 < ((s.link l).next -
      lseq).toNat)
    ∧ (∃ (s : State) (l : Port) (f : RingFrame), s.start.logicUp = true ∧ (s.link l).sync = .active ∧ frameGood f =
      true)
    ∧ (∃ (s : State) (l : Port) (n : BitVec 12) (lanes : List (Option (BitVec 12))), s.start.logicUp = true ∧ (s.link
      l).sync = .active ∧ (s.link l).waiting = [] ∧ (l = .pair → lanes.head? = some (some n)) ∧ (l ≠ .pair →
      lanes.length = 4 ∧ 3 ≤ (lanes.filter (· == some n)).length))
    ∧ (∃ (s : State) (l : Port) (n : BitVec 12) (lanes : List (Option (BitVec 12))) (e : ReplayEntry), s.start.logicUp
      = true ∧ (s.link l).sync = .active ∧ (s.link l).waiting = [] ∧ (s.link l).replay = [e] ∧ e.replays < 3 ∧
      2048 ≤ (n - e.lseq).toNat ∧ (l = .pair → lanes.head? = some (some n)) ∧ (l ≠ .pair → lanes.length = 4 ∧ 3
      ≤ (lanes.filter (· == some n)).length))
    ∧ (∃ (s : State) (l : Port) (e : ReplayEntry), s.start.logicUp = true ∧ (s.link l).sync = .active ∧ (s.link
      l).replay = [e] ∧ e.replays < 3)
    ∧ (∃ (s : State) (e : ReplayEntry) (r : List ReplayEntry), s.start.logicUp = true ∧ (s.link .pair).sync = .active ∧
      (s.link .pair).replay = e :: r)
    ∧ (∃ (s : State) (l : Port) (lanes : List LaneWindow) (n : Nat) (errors : List Nat), s.start.logicUp = true ∧
      (s.link l).sync = .active ∧ s.loopMode l ≠ 3 ∧ (l = .pair → s.fuses.pairCapable = true) ∧ n = (if l =
      .pair then 1 else 4) ∧ errors = (List.range n).map (fun k => (codeErrors ((s.link l).rds.getD k false)
      (lanes.getD k ⟨[], 0⟩).groups).1) ∧ s.flag (linkReg l Addr.linkCtrl) 1 = false)
    ∧ (∃ (s : State) (i : Initiator) (v : Word), s.ready i (Addr.linkBypassCtrl 0) true = true ∧ bit v 1 = true ∧
      s.bypass.sync ≠ .bypassed ∧ (∀ p, s.bypass.sync = .joining → (s.link (ringLink p)).sync = .disabled ∨
      s.linkWanted (ringLink p) = true))
    ∧ (∃ (s : State), s.start.logicUp = true ∧ s.bypass.sync = .bypassed ∧ s.flag (Addr.linkBypassCtrl 0) 0 = true ∧
      s.flag (Addr.linkBypassCtrl 0) 1 = false ∧ (s.link .east).sync ≠ .active ∧ (s.link .west).sync ≠ .active)
    ∧ (∃ (s : State), s.start.logicUp = true ∧ s.bypass.sync = .joining ∧ (s.link .east).sync = .disabled ∧ (s.link
      .west).sync = .disabled)
    ∧ (∃ (s : State), s.start.logicUp = true ∧ s.bypass.sync = .joining ∧ (∀ p, (s.link (ringLink p)).sync = .disabled
      ∨ s.linkWanted (ringLink p) = true))
    ∧ (∃ (s : State), s.start.logicUp = true ∧ s.bypass.sync = .inRing ∧ (s.link .east).sync ≠ .active ∧ (s.link
      .west).sync ≠ .active)
    ∧ (∃ (s : State) (l : Port), s.start.logicUp = true ∧ (s.link l).clockOk = true ∧ (s.link l).sync = .disabled)
    ∧ (∃ (s : State), s.start.logicUp = true ∧ s.flag Addr.timeCtrl 6 = false ∧ s.time.lineClock = .hold ∧
      s.time.activeWest = false ∧ (s.clockDir = .west → s.time.laneWest = false))
    ∧ (∃ (s : State), s.start.logicUp = true ∧ s.flag Addr.timeCtrl 6 = false ∧ s.clockDir = .west ∧ s.time.laneWest =
      true ∧ s.time.lineClock = .east ∧ s.time.activeWest = false) :=
  ⟨⟨(lk .west {}), .west, by decide +kernel⟩,
   ⟨(lk .west {}), by decide +kernel⟩,
   ⟨(lk .west { sync := .active, amSeq := 9, amSent := [(8,1),(7,1),(6,1),(5,1)] }), .west, by decide +kernel⟩,
   ⟨(lk .west { sync := .active }), .west, (⟨9, 0, false, 0, 0, 0⟩), by decide +kernel⟩,
   ⟨(lk .pair { sync := .active, amSent := [(8,100),(7,1)] }), (⟨9, 8, true, 50, 0, 0⟩), 777, 100, ([(7,1)]), by decide +kernel⟩,
   ⟨(act .east), .east, (rf .c true), by decide +kernel⟩,
   ⟨(act .east), .east, 1, (rf .c true), by decide +kernel⟩,
   ⟨(act .east), .east, (rf .c true), by decide +kernel⟩,
   ⟨(lk .west { sync := .active, replay := [re 0xFFF, re 0, re 1] }), .west, 0, [some 0, none, some 0, some 0], by decide +kernel⟩,
   ⟨(act .east), .east, 2, [some 2, some 9, some 2, some 2], (re 3), by decide +kernel⟩,
   ⟨(act .east), .east, (re 3), by decide +kernel⟩,
   ⟨(act .pair), (re 3), ([]), by decide +kernel⟩,
   ⟨(ctl .east ((act .east).setReg (Addr.linkBerCtrl 0) 10) 5), .east, [⟨[clkCode, clkCode], 0⟩, ⟨[], 0⟩, ⟨[1], 0⟩, ⟨[], 3⟩], 4, [0, 0, 1, 0], by decide +kernel⟩,
   ⟨(byp .inRing), (.core 0), 0xFFFFFFFF, by decide +kernel, by decide +kernel, by decide +kernel, fun _ h => absurd h (by decide +kernel)⟩,
   ⟨(((byp .bypassed).setReg (Addr.linkBypassCtrl 0) 1).setLink .east { sync := .deskew }), by decide +kernel⟩,
   ⟨(byp .joining), by decide +kernel⟩,
   ⟨(byp .joining), rfl, rfl, fun p => by cases p <;> decide +kernel⟩,
   ⟨(byp .inRing), by decide +kernel⟩,
   ⟨(tm (lk .east { clockOk := true }) fun x => { x with laneEast := true, lineClock := .east }), .east, by decide +kernel⟩,
   ⟨(tm (lk .east {}) fun x => { x with laneEast := false, lineClock := .hold }), by decide +kernel⟩,
   ⟨((tm (lk .east {}) fun x => { x with laneWest := true, lineClock := .east }).setReg Addr.timeCtrl 0x20), by decide +kernel⟩⟩

end P32

namespace P33

def rf (c : RingClass) (ty : BitVec 4) (d : Byte) : RingFrame := ⟨c, d, 2, ty, 3, 2, false, .east, false, 1, 1, 0, 0, 0, 3, 0, [5, 0, 0, 0], [], true, 0⟩
def rg : State := let s := ((base.setReg Addr.ringCtrl 0x00040207).setLink .east { sync := .active, matched := true }).setLink .west { sync := .active, matched := true }; let s := (((s.setReg (Addr.ringOrder 0) 7).setReg (Addr.ringOrder 1) 3).setReg (Addr.ringOrder 2) 9).setReg (Addr.ringOrder 3) 12; { s with ring := { s.ring with sync := .member } }
def rr (f : RingState → RingState) : State := { rg with ring := f rg.ring }
def ctl (c : Word) (p : List Word) : RingFrame := { rf .t 7 254 with hdr := [c, 0, 0, 0], payload := p }

theorem witness_RingFramesRun :
    (∃ (s : State) (p : RingPort) (rp : Bool) (lseq : BitVec 12) (f : RingFrame), s.start.logicUp = true ∧ s.active
      (ringLink p) = true ∧ malformed f = false ∧ ¬(f.srcRing = s.ringNo ∧ f.srcNode = s.node) ∧ f.hops.toNat <
      s.nodes ∧ s.ring.sync = .member ∧ f.dstNode = s.node ∧ f.dstNode ≠ 254 ∧ (winCheck (s.window (winKey f))
      f.epoch f.seq = .newEpoch ∨ winCheck (s.window (winKey f)) f.epoch f.seq = .ahead ∨ winCheck (s.window
      (winKey f)) f.epoch f.seq = .inWindow) ∧ (rp = false ∨ (s.link (ringLink p)).takeNext = true ∨ lseq =
      (s.link (ringLink p)).next))
    ∧ (∃ (s : State) (p : RingPort) (rp : Bool) (lseq : BitVec 12) (f : RingFrame) (used : Nat), s.start.logicUp = true
      ∧ s.active (ringLink p) = true ∧ malformed f = false ∧ ¬(f.srcRing = s.ringNo ∧ f.srcNode = s.node) ∧
      f.hops.toNat < s.nodes ∧ s.ring.sync = .member ∧ f.dstNode ≠ s.node ∧ f.dstNode ≠ 254 ∧ s.active (ringLink
      (otherPort p)) = true ∧ (f.cls = .e ∨ f.cls = .b) ∧ used ≤ 49152 ∧ (rp = false ∨ (s.link (ringLink
      p)).takeNext = true ∨ lseq = (s.link (ringLink p)).next))
    ∧ (∃ (s : State) (p : RingPort) (rp : Bool) (lseq : BitVec 12) (f : RingFrame), s.start.logicUp = true ∧ s.active
      (ringLink p) = true ∧ malformed f = false ∧ ¬(f.srcRing = s.ringNo ∧ f.srcNode = s.node) ∧ s.nodes ≤
      f.hops.toNat ∧ (rp = false ∨ (s.link (ringLink p)).takeNext = true ∨ lseq = (s.link (ringLink p)).next))
    ∧ (∃ (s : State) (p : RingPort) (f : RingFrame) (since : Nat) (r : List PortFrame), s.start.logicUp = true ∧
      s.ring.sync = .member ∧ s.ring.cut = ⟨p, f, since⟩ :: r ∧ frameGood f = true ∧ f.inOrd = false ∧ f.dstRing
      = s.ringNo ∧ s.swOfRing ⟨p, f, since⟩ = none ∧ (s.window (winKey f)).valid = false ∧ s.ring.held = [])
    ∧ (∃ (s : State) (p : RingPort) (f : RingFrame) (since : Nat) (r : List PortFrame), s.start.logicUp = true ∧
      s.ring.sync = .member ∧ s.ring.cut = ⟨p, f, since⟩ :: r ∧ frameGood f = true ∧ f.pairSeq = false ∧
      s.swOfRing ⟨p, f, since⟩ = none ∧ winCheck (s.window (winKey f)) f.epoch f.seq = .dup)
    ∧ (∃ (s : State) (h : PortFrame) (k : Nat) (d : Nat), s.start.logicUp = true ∧ s.ring.sync = .member ∧ s.ring.held
      = [h] ∧ k = streamKey h.frame ∧ d = (h.frame.sseq - Store.get 0 s.ring.expected k).toNat ∧ h.frame.dstRing
      = s.ringNo) :=
  ⟨⟨rg, .west, false, 9, (rf .c 1 7), by decide +kernel⟩,
   ⟨rg, .west, true, 0, (rf .e 0 9), 49152, by decide +kernel⟩,
   ⟨rg, .west, false, 0, ({ rf .e 0 9 with hops := 4 }), by decide +kernel⟩,
   ⟨(rr fun r => { r with cut := [⟨.west, sealFrame (rf .c 1 7), 5⟩, ⟨.west, rf .c 2 7, 6⟩], inbox := [⟨.east, rf .b 1 7, 1⟩] }), .west, (sealFrame (rf .c 1 7)), 5, ([⟨.west, rf .c 2 7, 6⟩]), by decide +kernel⟩,
   ⟨(rr fun r => { r with cut := [⟨.west, sealFrame (rf .c 1 7), 5⟩, ⟨.west, rf .c 2 7, 6⟩], windows := [(13, ⟨true, 1, 5, .east, 0xFF⟩)] }), .west, (sealFrame (rf .c 1 7)), 5, ([⟨.west, rf .c 2 7, 6⟩]), by decide +kernel⟩,
   ⟨(rr fun r => { r with held := [⟨.west, { rf .c 1 7 with sseq := 9, stream := 3 }, 5⟩], expected := [(13 * 32 + 3, 4)], expectedSet := [13*32+3] }), (⟨.west, { rf .c 1 7 with sseq := 9, stream := 3 }, 5⟩), (13 * 32 + 3), 5, by decide +kernel⟩⟩

theorem witness_RingMembershipRuns :
    (∃ (s : State) (x : PortFrame) (r : List PortFrame) (n : Nat), s.start.logicUp = true ∧ s.ring.inbox = x :: r ∧
      isControl 1 x.frame = true ∧ n = x.frame.srcNode.toNat ∧ s.present n = false ∧ (s.ring.sync ≠ .member ∨
      bit (x.frame.hdr.getD 0 0) 9 = true))
    ∧ (∃ (s : State) (x : PortFrame) (r : List PortFrame) (n : Nat), s.start.logicUp = true ∧ s.ring.inbox = x :: r ∧
      isControl 2 x.frame = true ∧ n = x.frame.srcNode.toNat ∧ s.present n = true ∧ s.pair.role ≠ .held ∧
      s.bridge.sems = [])
    ∧ (∃ (s : State) (x : PortFrame) (r : List PortFrame) (i : Nat), s.start.logicUp = true ∧ s.ring.inbox = x :: r ∧
      isControl 3 x.frame = true ∧ s.spanAt x.frame.srcNode.toNat (controlPort x.frame) = some i ∧ s.ring.broken
      = [] ∧ 3 ≤ s.nodes)
    ∧ (∃ (s : State) (x : PortFrame) (r : List PortFrame) (i : Nat), s.start.logicUp = true ∧ s.ring.inbox = x :: r ∧
      isControl 4 x.frame = true ∧ s.spanAt x.frame.srcNode.toNat (controlPort x.frame) = some i ∧
      x.frame.payload = [])
    ∧ (∃ (s : State) (i : Initiator) (v : Word), s.ready i (Addr.ringCmd + 4) true = true ∧ s.armedAt Addr.ringCmd v =
      true ∧ bit v 0 = true ∧ bit v 1 = false ∧ s.ring.sync = .transit ∧ (s.standingCause = 0 → (s.link
      .east).sync ≠ .active ∧ (s.link .west).sync ≠ .active))
    ∧ (∃ (s : State) (i : Initiator) (v : Word), s.ready i (Addr.ringCmd + 4) true = true ∧ s.armedAt Addr.ringCmd v =
      true ∧ bit v 0 = false ∧ bit v 1 = true ∧ s.ring.sync = .member ∧ s.active .east = true ∧ s.active .west =
      false)
    ∧ (∃ (s : State), s.start.logicUp = true ∧ s.ring.leaving = true ∧ s.ring.sync = .member) :=
  ⟨⟨(rr fun r => { r with inbox := [⟨.west, ctl 0x201 [], 5⟩] }), (⟨.west, ctl 0x201 [], 5⟩), ([]), 3, by decide +kernel⟩,
   ⟨((rr fun r => { r with inbox := [⟨.west, ctl 0x2 [], 5⟩] }).setReg (Addr.ringPresent 0) 0xFF), (⟨.west, ctl 2 [], 5⟩), ([]), 3, by decide +kernel⟩,
   ⟨(rr fun r => { r with inbox := [⟨.west, ctl 0x103 [], 5⟩] }), (⟨.west, ctl 0x103 [], 5⟩), ([]), 0, by decide +kernel⟩,
   ⟨(rr fun r => { r with broken := [1, 0, 2], inbox := [⟨.west, ctl 0x104 [], 5⟩] }), (⟨.west, ctl 0x104 [], 5⟩), ([]), 0, by decide +kernel⟩,
   ⟨(arm ((rr fun r => { r with sync := .transit, cause := 3 }).setLink .east {} |> fun s => s.setLink .west {}) Addr.ringCmd 1), (.core 1), 1, by decide +kernel⟩,
   ⟨(arm (rg.setLink .west {}) Addr.ringCmd 0xFFFFFFFE), (.core 1), 0xFFFFFFFE, by decide +kernel⟩,
   ⟨(rr fun r => { r with leaving := true }), by decide +kernel⟩⟩

end P33

namespace P34

def rf (c : RingClass) (ty : BitVec 4) (d : Byte) : RingFrame := ⟨c, d, 2, ty, 3, 2, false, .east, false, 1, 1, 0, 0, 0, 3, 0, [5, 0, 0, 0], [], true, 0⟩
def rg : State := let s := ((base.setReg Addr.ringCtrl 0x00040207).setLink .east { sync := .active, matched := true }).setLink .west { sync := .active, matched := true }; let s := (((s.setReg (Addr.ringOrder 0) 7).setReg (Addr.ringOrder 1) 3).setReg (Addr.ringOrder 2) 9).setReg (Addr.ringOrder 3) 12; { s with ring := { s.ring with sync := .member } }
def rr (f : RingState → RingState) : State := { rg with ring := f rg.ring }
def br (f : BridgeState → BridgeState) : State := { rg with bridge := f rg.bridge }
def rq (ty : BitVec 4) (sp off n : Nat) (p : List Word) : RingFrame := { rf .c ty 7 with hdr := [0x05200007, word off, word (sp + (n - 1) * 2 ^ 16)], payload := p }
def ow (f : RingFrame) : RingFrame := { f with srcNode := rg.node, srcRing := rg.ringNo }
def fe (a : Bool) (x : FetchState) (sp off n : Nat) : Fetch := ⟨⟨2, 3, 1, 5, BitVec.ofNat 48 (sp * 2 ^ 32 + off), n⟩, x, rq 3 sp off n [], a⟩
def tx (k : TxnKind) (w : Bool) (f : Nat) : Txn := { role := .own, code := 1, kind := k, who := .host, addr := BitVec.ofNat 48 (3 * 2^32 + 0x100 + 9 * 2 ^ 36), count := 2, data := [], cls := .c, order := 1, iseq := 1, pairKey := none, reissues := 3, waiting := w, first := f, last := f, sent := 2, returned := 0, entry := 0 }
def wx : WaitingTxn → Nat := fun _ => 0
def fullQ (q : Nat) (s : State) : State := s.setQueue q { s.queue q with words := List.replicate 31 ⟨1, .data, 0⟩ }

theorem witness_RingRequestsRun :
    (∃ (s : State) (x : PortFrame) (r : List PortFrame) (off : Nat) (w : Word), s.start.logicUp = true ∧ s.ring.inbox
      = x :: r ∧ s.isRequest x.frame = true ∧ x.frame.typ = 2 ∧ s.newestOf x.frame = none ∧ faSpace (frameAddr
      x.frame) = 3 ∧ off = faOffset (frameAddr x.frame) ∧ off % 4 = 0 ∧ frameCount x.frame = 1 ∧ x.frame.payload
      = [w] ∧ s.ramKind off 1 = none ∧ x.frame.srcNode ≠ s.node ∧ s.bridge.mem = [] ∧ s.bridge.memBlocked = [] ∧
      s.fault.inject.armed = false)
    ∧ (∃ (s : State) (f : RingFrame) (r : List RingFrame) (off : Nat) (w : Word), s.start.logicUp = true ∧ s.ring.inbox
      = [] ∧ s.bridge.loop = f :: r ∧ f.typ = 2 ∧ f.srcNode = s.node ∧ f.srcRing = s.ringNo ∧ f.dstNode ≠ 254 ∧
      s.newestOf f = none ∧ faSpace (frameAddr f) = 3 ∧ off = faOffset (frameAddr f) ∧ off % 4 = 0 ∧ frameCount
      f = 1 ∧ f.payload = [w] ∧ s.ramKind off 1 = none ∧ (∀ g k, s.frameInit f ≠ .remote g k) ∧ s.bridge.mem =
      [] ∧ s.bridge.memBlocked = [] ∧ s.fault.inject.armed = false)
    ∧ (∃ (s : State) (x : PortFrame) (r : List PortFrame), s.start.logicUp = true ∧ s.ring.inbox = x :: r ∧ s.isRequest
      x.frame = true ∧ s.newestOf x.frame = none ∧ 4 ≤ faSpace (frameAddr x.frame))
    ∧ (∃ (s : State) (slot : Fin 32) (f : Fetch), s.start.logicUp = true ∧ s.fetch slot.val = some f ∧ f.state =
      .running ∧ f.answered = false)
    ∧ (∃ (s : State) (slot : Fin 32) (f : Fetch), s.start.logicUp = true ∧ s.fetch slot.val = some f ∧ f.state =
      .running ∧ f.answered = true ∧ faSpace f.key.addr = 2 ∧ s.bridge.mem = [] ∧ s.bridge.memBlocked = [])
    ∧ (∃ (s : State) (slot : Fin 32) (f : Fetch), s.start.logicUp = true ∧ s.fetch slot.val = some f ∧ f.state =
      .running ∧ f.answered = true ∧ faSpace f.key.addr = 3 ∧ f.key.count = 1 ∧ s.bridge.mem = [] ∧
      s.bridge.memBlocked = [] ∧ Store.get 0 s.ecc (Addr.coreRam (faOffset f.key.addr / 0x8_0000) + faOffset
      f.key.addr % 0x8_0000) = 0)
    ∧ (∃ (s : State) (slot : Fin 32) (f : Fetch) (d : List Word), s.start.logicUp = true ∧ s.fetch slot.val = some f ∧
      f.state = .ready d)
    ∧ (∃ (s : State) (x : EdgeRequest), s.start.logicUp = true ∧ s.bridge.edge = [] ∧ s.bridge.blocked = [x] ∧ x.slot =
      none ∧ x.ack = true ∧ x.frame.srcNode = s.node ∧ x.frame.srcRing = s.ringNo ∧ x.frame.dstNode ≠ 254 ∧
      s.edgeRefuses x.queue = false ∧ s.qRoom x.queue 0x0280 x.words.length = false) :=
  ⟨⟨(rr fun r => { r with inbox := [⟨.west, rq 2 3 0x104 1 [77], 5⟩, ⟨.west, rf .c 1 7, 6⟩] }), (⟨.west, rq 2 3 0x104 1 [77], 5⟩), ([⟨.west, rf .c 1 7, 6⟩]), 0x104, 77, by decide +kernel⟩,
   ⟨(br fun b => { b with loop := [ow (rq 2 3 0x104 1 [77]), rf .c 3 1] }), (ow (rq 2 3 0x104 1 [77])), ([rf .c 3 1]), 0x104, 77, rfl, rfl, rfl, rfl, rfl, rfl, by decide +kernel, by decide +kernel, by decide +kernel, by decide +kernel, by decide +kernel, by decide +kernel, by decide +kernel, by decide +kernel, fun _ _ h => absurd (h.symm.trans (by decide +kernel : (br fun b => { b with loop := [ow (rq 2 3 0x104 1 [77]), rf .c 3 1] }).frameInit (ow (rq 2 3 0x104 1 [77])) = .usb)) nofun, rfl, rfl, rfl⟩,
   ⟨(rr fun r => { r with inbox := [⟨.west, rq 2 5 0x104 1 [77], 5⟩] }), (⟨.west, rq 2 5 0x104 1 [77], 5⟩), ([]), by decide +kernel⟩,
   ⟨(rg.setFetch 31 (some (fe false .running 2 0x40 2))), 31, (fe false .running 2 0x40 2), by decide +kernel⟩,
   ⟨(rg.setFetch 31 (some (fe true .running 2 0x40 2))), 31, (fe true .running 2 0x40 2), by decide +kernel⟩,
   ⟨(rg.setFetch 0 (some (fe true .running 3 0x40 1))), 0, (fe true .running 3 0x40 1), by decide +kernel⟩,
   ⟨(rg.setFetch 0 (some (fe true (.ready [1,2]) 3 0x40 1))), 0, (fe true (.ready [1,2]) 3 0x40 1), ([1,2]), by decide +kernel⟩,
   ⟨(fullQ 3 (openQ { rg with bridge := { rg.bridge with blocked := [⟨3, [1,2], none, ow (rq 2 1 0 1 [4]), true⟩] } } 3 0x280 0x200)), (⟨3, [1,2], none, ow (rq 2 1 0 1 [4]), true⟩), by decide +kernel⟩⟩

theorem witness_TransactionsEnd :
    (∃ (s : State) (x : PortFrame) (r : List PortFrame) (g : Txn), s.start.logicUp = true ∧ s.ring.inbox = x :: r ∧
      x.frame.typ = 4 ∧ s.bridge.records = [] ∧ s.txn (frameTag x.frame) = some g ∧ g.waiting = true ∧ g.kind =
      .read ∧ g.who = .host ∧ frameStatus x.frame = 0 ∧ s.elapsed g.last (cyclesUs s.txnTimeout) = false ∧
      s.elapsed g.first (s.deadline .host) = false ∧ s.bridge.waiting = [] ∧ s.bridge.pairWait = [] ∧ s.held =
      [])
    ∧ (∃ (s : State) (x : PortFrame) (r : List PortFrame), s.start.logicUp = true ∧ s.ring.inbox = x :: r ∧ x.frame.typ
      = 4 ∧ s.bridge.records = [] ∧ s.txn (frameTag x.frame) = none)
    ∧ (∃ (s : State) (tag : Byte) (g : Txn), s.start.logicUp = true ∧ s.txn tag.toNat = some g ∧ g.waiting = false ∧
      g.kind = .read ∧ s.isOwn g.addr = false)
    ∧ (∃ (s : State) (tag : Byte) (g : Txn), s.start.logicUp = true ∧ s.txn tag.toNat = some g ∧ g.waiting = true ∧
      g.kind = .read ∧ g.who = .host ∧ s.elapsed g.first (s.deadline .host) = false ∧ s.bridge.waiting = [] ∧
      s.bridge.pairWait = [] ∧ s.held = [] ∧ s.flag Addr.bridgeTxnStatus 0 = false)
    ∧ (∃ (s : State) (tag : Byte) (g : Txn), s.start.logicUp = true ∧ s.txn tag.toNat = some g ∧ g.kind = .write ∧
      g.who = .host ∧ s.bridge.waiting = [] ∧ s.bridge.pairWait = [] ∧ s.held = [] ∧ s.flag Addr.bridgeTxnStatus
      0 = true)
    ∧ (∃ (s : State), s.start.logicUp = true ∧ s.bridge.waiting = [] ∧ s.bridge.pairWait = [] ∧ s.held = [])
    ∧ (∃ (s : State) (rp : Bool) (lseq : BitVec 12) (f : RingFrame) (g : Nat), s.start.logicUp = true ∧ s.flag
      Addr.ringBridge 0 = true ∧ s.fuses.pairCapable = true ∧ s.active .pair = true ∧ isTxnFrame f = true ∧
      f.typ ≠ 4 ∧ f.dstNode ≠ 254 ∧ frameGood f = true ∧ malformed f = false ∧ (rp = false ∨ (s.link
      .pair).takeNext = true ∨ lseq = (s.link .pair).next) ∧ s.bridgeNode f (faNode (frameAddr f)) ≠ 255 ∧
      s.freeTag = some g)
    ∧ (∃ (s : State), s.start.logicUp = true ∧ s.bridge.waiting = [] ∧ s.bridge.pairWait = [] ∧ s.held = [])
    ∧ (∃ (s : State) (i : Initiator) (n : Fin 32), s.ready i (Addr.bridgeSem n.val) false = true ∧ s.sem n.val = none)
    ∧ (∃ (s : State) (i : Initiator) (n : Fin 32) (o : SemOwner), s.ready i (Addr.bridgeSem n.val) false = true ∧ s.sem
      n.val = some o ∧ s.elapsed o.since s.lease = false)
    ∧ (∃ (s : State) (i : Initiator) (n : Fin 32) (o : SemOwner), s.ready i (Addr.bridgeSem n.val) true = true ∧ s.sem
      n.val = some o ∧ o.same (s.semOwner i) = true)
    ∧ (∃ (s : State) (i : Initiator) (n : Fin 32), s.ready i (Addr.bridgeSem n.val) true = true ∧ (∀ o, s.sem n.val =
      some o → o.same (s.semOwner i) = false))
    ∧ (∃ (s : State) (n : Fin 32) (o : SemOwner), s.sem n.val = some o) :=
  ⟨⟨({ rr (fun r => { r with inbox := [⟨.west, { rq 4 0 0 1 [77, 8] with hdr := [0x05200007, 0, 0] }, 5⟩] }) with bridge := (rg.setTxn 5 (some (tx .read true 0))).bridge }), (⟨.west, { rq 4 0 0 1 [77, 8] with hdr := [0x05200007, 0, 0] }, 5⟩), ([]), (tx .read true 0), by decide +kernel⟩,
   ⟨(rr (fun r => { r with inbox := [⟨.west, { rq 4 0 0 1 [77, 8] with hdr := [0x05200007, 0, 0] }, 5⟩] })), (⟨.west, { rq 4 0 0 1 [77, 8] with hdr := [0x05200007, 0, 0] }, 5⟩), ([]), by decide +kernel⟩,
   ⟨(rg.setTxn 5 (some (tx .read false 0))), 5, (tx .read false 0), by decide +kernel⟩,
   ⟨(rg.setTxn 5 (some (tx .read true 0))), 5, (tx .read true 0), by decide +kernel⟩,
   ⟨((rg.setTxn 5 (some (tx .write true 0))).setReg Addr.bridgeTxnStatus 0x10000001), 5, (tx .write true 0), by decide +kernel⟩,
   ⟨(br fun b => { b with quarantine := [(5, 1), (6, 1)] }), by decide +kernel⟩,
   ⟨({ (rg.setReg Addr.ringBridge 0x1).setLink .pair { sync := .active, matched := true } with fuses := { rg.fuses with pairCapable := true } }), false, 7, (sealFrame { rq 3 3 0 1 [] with dstNode := 9, srcRing := 4 }), 0, by decide +kernel⟩,
   ⟨(br fun b => { b with records := [⟨1, 2, 3, 4, 5, 0⟩, ⟨2, 2, 3, 4, 5, 0⟩] }), by decide +kernel⟩,
   ⟨rg, (.core 2), 31, by decide +kernel⟩,
   ⟨(rg.setSem 31 (some ⟨9, 2, 3, 5⟩)), (.core 2), 31, (⟨9, 2, 3, 5⟩), by decide +kernel⟩,
   ⟨(rg.setSem 0 (some (rg.semOwner .host))), .host, 0, (rg.semOwner .host), by decide +kernel⟩,
   ⟨(rg.setSem 0 (some (rg.semOwner .host))), (.core 0), 0, by decide +kernel⟩,
   ⟨(rg.setSem 0 (some (rg.semOwner .host))), 0, (rg.semOwner .host), by decide +kernel⟩⟩

end P34

namespace P35

def sw : State := en base .switch
def sta (p : Nat) (x : StaState) (s : State) : State := s.setSta p x
def fr (n : Nat) (o : List Nat) (op : Bool) : SwFrame := { input := n, kind := 0, bytes := List.replicate 60 7, cls := 0, yellow := false, queue := 3, copies := [], outs := o, cut := [], started := [], cells := 1, opened := op, bad := false, dup := false, ecc := 0, seqNr := none, origin := none }
def frs (l : List SwFrame) : State := { sw with sw := { sw.sw with frames := l } }
def cap (c : Nat) (v : Word) (s : State) : State := s.setReg (Addr.capCtrl c) v
def dr (s : State) : State := { s with dram := { s.dram with sync := .ready, cfg := 0x1 } }
def qs : State := let s := openQ (cap 15 0x39 (dr sw)) 3 0x200 0x02C0; s.setQueue 3 { s.queue 3 with words := [⟨0x01020304, .data, 0⟩, ⟨0x05060708, .last, 0⟩] }
def g1 : State := let s := sta 1 { operValid := true } (base.setReg (Addr.staGateCtrl 1) 0xFF01); ((((s.setReg (Addr.staGateOperCycle 1) 1000).setReg (Addr.staGateOperLen 1) 2).setReg (Addr.staGclOper 1 0) 0x0001F403).setReg (Addr.staGclOper 1 1) 0x0001F4F0)
def prp : State := sta 0 { link := true } (sta 1 { link := true } ((en sw .classify).setReg (Addr.prpCtrl 0) 0x00010003))
def pb : List Byte := [1,2,3,4,5,6, 0x10,0x20,0x30,0x40,0x50,0x60, 0x12,0x34] ++ List.replicate 46 9 ++ [0,9] ++ [0xB0, 54] ++ [0x88, 0xFB]
def pe : Nat := 4 * bucketOf 2 0x102030405060 + 2
def ps : State := { ((((prp.setReg (Addr.classEntry pe 0) 0x80000002).setReg (Addr.classEntry pe 1) 0x1020).setReg (Addr.classEntry pe 2) 0x30405060).setReg (Addr.classEntry pe 3) 511) with prp := { prp.prp with windows := [(511, { valid := true, high := 10, seen := setBit 0 9 true, last := 0 })] } }
def qu : State := ((qs.qTakePacket 3 0x02C0).map fun x => x.2.2).getD qs

theorem witness_SwitchFramesRun :
    (∃ (s : State) (p : Fin 7) (bytes : List Byte), s.start.logicUp = true ∧ s.enabled .switch = true ∧ (p = 2 ∨ p =
      3) ∧ (s.sta (p.val - 2)).link = true ∧ s.prpOn = false ∧ (s.sw.frames.any fun f => f.opened && f.input ==
      p.val) = false ∧ bytes.length < 60)
    ∧ (∃ (s : State) (p : Fin 7) (bytes : List Byte), s.start.logicUp = true ∧ s.enabled .switch = true ∧ (p = 2 ∨ p =
      3) ∧ (s.sta (p.val - 2)).link = true ∧ s.prpOn = false ∧ (s.sw.frames.any fun f => f.opened && f.input ==
      p.val) = false ∧ 60 ≤ bytes.length ∧ bytes.length ≤ 9216 ∧ beAt bytes 12 2 ≠ 0x8808 ∧ s.enabled .classify
      = false)
    ∧ (∃ (s : State) (p : Fin 7) (f : SwFrame) (r : List SwFrame), s.start.logicUp = true ∧ (p = 2 ∨ p = 3) ∧
      s.sw.frames = f :: r ∧ f ∉ r ∧ f.opened = true ∧ f.input = p.val ∧ f.origin = none ∧ f.started = [] ∧
      f.bad = false ∧ f.outs ≠ [])
    ∧ (∃ (s : State) (p : Fin 7) (f : SwFrame) (r : List SwFrame) (q : Nat), s.start.logicUp = true ∧ (p = 2 ∨ p = 3) ∧
      s.sw.frames = f :: r ∧ f ∉ r ∧ f.opened = true ∧ f.input = p.val ∧ f.origin = none ∧ f.started = [] ∧
      f.outs = [q] ∧ f.cut = [])
    ∧ (∃ (s : State) (o : Fin 8) (f : SwFrame), s.start.logicUp = true ∧ s.enabled .switch = true ∧ (o = 2 ∨ o = 3) ∧
      s.swReady (8 * o.val + 7) = true ∧ s.swHead (8 * o.val + 7) = some f ∧ f.opened = false ∧ f.bad = false ∧
      f.ecc = 0 ∧ (s.sta (o.val - 2)).link = true)
    ∧ (∃ (s : State) (o : Fin 8), s.start.logicUp = true ∧ (∀ c, c < 8 → s.swReady (8 * o.val + c) = false))
    ∧ (∃ (s : State) (o : Fin 8) (c : Fin 8) (f : SwFrame), s.start.logicUp = true ∧ s.enabled .switch = true ∧ (o = 4
      ∨ o = 5 ∨ o = 6) ∧ s.swHead (8 * o.val + c.val) = some f ∧ f.opened = false ∧ f.bad = false ∧ f.ecc = 0 ∧
      f.queue < 64 ∧ s.shaperOf (8 * o.val + c.val) = none ∧ s.qRoom f.queue 0x02C0 (deliverWords f (8 * o.val +
      c.val)).length = true ∧ (s.queue f.queue).dropping = false ∧ (s.queue f.queue).popWait = 0 ∧
      s.fault.inject.armed = false)
    ∧ (∃ (s : State) (o : Fin 8) (c : Fin 8) (f : SwFrame), s.start.logicUp = true ∧ (o = 4 ∨ o = 5 ∨ o = 6) ∧ s.swHead
      (8 * o.val + c.val) = some f ∧ f.opened = false ∧ s.sw.frames = [f] ∧ f.outs = [8 * o.val + c.val] ∧
      f.started = []) :=
  ⟨⟨(sta 1 { link := true } sw), 3, ([1]), by decide +kernel⟩,
   ⟨(sta 1 { link := true } sw), 3, (List.replicate 60 3), by decide +kernel⟩,
   ⟨(frs [fr 2 [16] true, fr 3 [] false]), 2, (fr 2 [16] true), ([fr 3 [] false]), by decide +kernel⟩,
   ⟨(frs [fr 3 [16] true, fr 3 [] false]), 3, (fr 3 [16] true), ([fr 3 [] false]), 16, by decide +kernel⟩,
   ⟨(sta 1 { link := true } (frs [fr 2 [31] false])), 3, (fr 2 [31] false), by decide +kernel⟩,
   ⟨sw, 5, by decide +kernel⟩,
   ⟨(openQ (frs [fr 2 [55] false]) 3 0x02C0 0x0580), 6, 7, (fr 2 [55] false), by decide +kernel⟩,
   ⟨(frs [fr 2 [55] false]), 6, 7, (fr 2 [55] false), by decide +kernel⟩⟩

theorem witness_SwitchUpkeepRuns :
    (∃ (s : State) (q : Fin 64), s.start.logicUp = true ∧ s.enabled .switch = true ∧ s.depth q.val = 0)
    ∧ (∃ (s : State) (u : State) (c : Fin 16) (ws : List Word) (n : Nat), s.start.logicUp = true ∧ s.enabled .switch =
      true ∧ s.flag (Addr.capCtrl c.val) 0 = true ∧ s.flag (Addr.capCtrl c.val) 1 = false ∧ s.flag (Addr.capCtrl
      c.val) 2 = false ∧ s.flag (Addr.capCtrl c.val) 3 = true ∧ s.qTakePacket (s.field (Addr.capCtrl c.val) 4 6)
      0x02C0 = some (ws, false, u) ∧ n = 4 * ws.length ∧ n < 65536 ∧ s.dram.sync = .ready ∧ s.capBase c.val + 8
      * s.capUnits c.val ≤ s.dramSize ∧ s.capWrOf c.val + (n + 15) / 8 < s.capUnits c.val ∧ (n + 15) / 8 ≤
      s.capFree c.val ∧ s.sw.gaps = [])
    ∧ (∃ (s : State) (i : Initiator) (c : Fin 16) (v : Word), s.ready i (Addr.capRd c.val) true = true ∧ v.toNat <
      s.capUnits c.val ∧ (v.toNat + s.capUnits c.val - s.capRdOf c.val) % s.capUnits c.val ≤ (s.capWrOf c.val +
      s.capUnits c.val - s.capRdOf c.val) % s.capUnits c.val)
    ∧ (∃ (s : State) (i : Initiator) (c : Fin 16) (v : Word), s.ready i (Addr.capRd c.val) true = true ∧ s.capUnits
      c.val ≤ v.toNat)
    ∧ (∃ (s : State) (i : Initiator) (c : Fin 16) (v : Word), s.ready i (Addr.capCtrl c.val) true = true ∧ s.flag
      (Addr.capCtrl c.val) 0 = false ∧ bit v 0 = true)
    ∧ (∃ (s : State) (i : Initiator) (c : Fin 16), s.ready i (Addr.capCtrl c.val) true = true ∧ s.flag (Addr.capCtrl
      c.val) 0 = true)
    ∧ (∃ (s : State) (i : Initiator) (p : Fin 1024) (w : Fin 4), s.ready i (Addr.trfPolCir p.val + 4 * w.val) true =
      true)
    ∧ (∃ (s : State) (i : Initiator) (h : Fin 512) (w : Fin 3), s.ready i (Addr.trfShRate h.val + 4 * w.val) true =
      true ∧ (s.shaper h.val).due = none)
    ∧ (∃ (s : State) (h : Fin 512) (d : Nat) (b : Nat) (slot : Nat), s.start.logicUp = true ∧ (s.shaper h.val).due =
      some (d, slot, b)) :=
  ⟨⟨(sw.setAvg 63 1001), 63, by decide +kernel⟩,
   ⟨qs, qu, 15, ([0x01020304, 0x05060708]), 8, by decide +kernel⟩,
   ⟨(base.setReg (Addr.capWr 15) 9), (.core 1), 15, 9, by decide +kernel⟩,
   ⟨(base.setReg (Addr.capWr 15) 9), (.core 1), 15, 8192, by decide +kernel⟩,
   ⟨((base.setReg (Addr.capWr 15) 9).setReg (Addr.capRd 15) 5), (.core 1), 15, 0xFFFF0011, by decide +kernel⟩,
   ⟨((base.setReg (Addr.capCtrl 15) 0x11)), (.core 1), 15, by decide +kernel⟩,
   ⟨base, (.core 1), 1023, 2, by decide +kernel⟩,
   ⟨base, (.core 1), 511, 1, by decide +kernel⟩,
   ⟨(base.setShaper 511 { due := some (900000, 600000, 60) }), 511, 900000, 60, 600000, by decide +kernel⟩⟩

theorem witness_StationsRun :
    (∃ (s : State) (p : Fin 2) (g : GateSpan), s.start.logicUp = true ∧ s.flag (Addr.staGateCtrl p.val) 0 = true ∧
      (s.sta p.val).operValid = true ∧ s.operBase p.val ≤ s.timeNs ∧ spanAtTime ((s.timeNs - s.operBase p.val) %
      s.operCycle p.val) (s.operSpans p.val) = some g)
    ∧ (∃ (s : State) (p : Fin 2) (c : Fin 8) (o : GateOverride) (e : Int), s.start.logicUp = true ∧ (s.sta
      p.val).overOf c.val = some o ∧ o.stop = some e ∧ e ≤ s.time16 ∧ (s.sta p.val).sending = none)
    ∧ (∃ (s : State) (i : Initiator) (p : Fin 2) (v : Word) (d : Nat), s.ready i (Addr.staGateCmd p.val + 4) true =
      true ∧ s.armedAt (Addr.staGateCmd p.val) v = true ∧ bit v 0 = true ∧ 1 ≤ s.field (Addr.staGateAdminLen
      p.val) 0 11 ∧ s.field (Addr.staGateAdminLen p.val) 0 11 ≤ 1024 ∧ 1000 ≤ (s.reg (Addr.staGateAdminCycle
      p.val)).toNat ∧ d = (s.reg (Addr.staGateAdminBaseLo p.val)).toNat + (s.reg (Addr.staGateAdminBaseHi
      p.val)).toNat * 2 ^ 32 ∧ (s.time16 + 65535) / 65536 + 1000 ≤ d)
    ∧ (∃ (s : State) (p : Fin 2) (n : Nat), s.start.logicUp = true ∧ (s.sta p.val).pending = true ∧ (s.sta
      p.val).sending = none ∧ n = s.field (Addr.staGateAdminLen p.val) 0 11 ∧ n ≤ 1024)
    ∧ (∃ (s : State) (p : Fin 2), s.start.logicUp = true ∧ s.prpOn = true ∧ s.enabled .switch = true ∧ (s.sta
      p.val).link = true)
    ∧ (∃ (s : State) (u : State) (p : Fin 2) (bytes : List Byte) (n : Half) (e : Nat) (w : Nat), s.start.logicUp = true
      ∧ s.prpOn = true ∧ s.enabled .switch = true ∧ (s.sta p.val).link = true ∧ 60 ≤ bytes.length ∧ beAt bytes
      12 2 ≠ 0x8808 ∧ rctRead bytes = some (n, 0xA + p.val) ∧ (s.inc (Addr.staRxFrames p.val)).exactLookup 2
      (beAt bytes 6 6) = (some e, u) ∧ w = u.field (Addr.classEntry e 3) 0 9 ∧ (s.prpWindow w).valid = true ∧
      s.now < (s.prpWindow w).last + (max 1 (s.field (Addr.prpCtrl 0) 16 16)) * 400000 ∧ ((s.prpWindow w).high -
      n).toNat < 256 ∧ bit (s.prpWindow w).seen (n.toNat % 256) = true)
    ∧ (∃ (s : State), s.start.logicUp = true ∧ s.prpOn = true ∧ s.flag (Addr.prpCtrl 0) 1 = true ∧ (s.sta 0).link =
      true ∧ (s.sta 1).link = true)
    ∧ (∃ (s : State) (p : Fin 2), s.start.logicUp = true ∧ s.enabled (.sta p) = true ∧ s.flag (Addr.staCtrl p.val) 0 =
      false ∧ (s.sta p.val).link = false)
    ∧ (∃ (s : State) (p : Fin 2) (y : BitVec 4) (a : Bool), s.start.logicUp = true ∧ s.enabled (.sta p) = true ∧ s.flag
      (Addr.staCtrl p.val) 0 = false ∧ (s.sta p.val).link = true ∧ (y ≠ 0xF ∨ a = false)) :=
  ⟨⟨g1, 1, (⟨0, 3, 0⟩), by decide +kernel⟩,
   ⟨(sta 1 { overrides := [⟨7, true, some 5⟩, ⟨6, true, some 5⟩] } { base with frc := 7 }), 1, 7, (⟨7, true, some 5⟩), 5, by decide +kernel⟩,
   ⟨(arm (((base.setReg (Addr.staGateAdminBaseLo 1) 77).setReg (Addr.staGateAdminBaseHi 1) 3)) (Addr.staGateCmd 1) 0xFFFFFFFF), (.core 0), 1, 0xFFFFFFFF, (77 + 3 * 2^32), by decide +kernel⟩,
   ⟨(sta 1 { pending := true } ((((base.setReg (Addr.staGateAdminBaseLo 1) 77).setReg (Addr.staGateAdminBaseHi 1) 3).setReg (Addr.staGateAdminLen 1) 2).setReg (Addr.staGclAdmin 1 1) 0x55)), 1, 2, by decide +kernel⟩,
   ⟨prp, 1, by decide +kernel⟩,
   ⟨ps, (((ps.inc (Addr.staRxFrames 1)).exactLookup 2 (beAt pb 6 6)).2), 1, pb, 9, pe, 511, by decide +kernel⟩,
   ⟨(prp.setReg (Addr.prpTxSeq 0) 65535), by decide +kernel⟩,
   ⟨(en base (.sta 1)), 1, by decide +kernel⟩,
   ⟨(sta 1 { link := true } (en base (.sta 1))), 1, 7, true, by decide +kernel⟩⟩

end P35

namespace P40

def rrow (a : Nat) : RegRow := (regRow a).getD ⟨0,0,0,.ro,0,0,false⟩
def lat (a : Nat) : Block × Nat := (locate a).getD (.global, 0)
def ua (u : Fin 16) : Word := word (unitCtrl (.uart u))
def st (s : State) (i : Initiator) (a : Nat) (v : Word) : State := s.stage i a v
def bz (l : List BusyUnit) (s : State) : State := { s with busy := l }

theorem witness_RegisterAccessesRun :
    (∃ (s : State) (i : Initiator) (addr : Word) (b : Block) (o : Nat) (r : RegRow), s.ready i addr.toNat true = true
      ∧ locate addr.toNat = some (b, o) ∧ plainBlock b = true ∧ regRow addr.toNat = some r)
    ∧ (∃ (s : State) (i : Initiator) (addr : Word) (b : Block) (o : Nat), s.ready i addr.toNat false = true ∧
      lowWordRead addr.toNat = true ∧ locate addr.toNat = some (b, o) ∧ s.stagedAt i addr.toNat = none ∧
      s.shadowAt i addr.toNat = none)
    ∧ (∃ (s : State) (i : Initiator) (addr : Word), s.ready i addr.toNat true = true ∧ lowWordWrite addr.toNat = true ∧
      (∀ c, c < 8 → s.dmaEn c = false))
    ∧ (∃ (s : State) (i : Initiator) (addr : Word) (lo : Word) (a : Nat) (x : RegRow) (y : RegRow), s.ready i
      addr.toNat true = true ∧ addr.toNat = a + 4 ∧ lowWordWrite a = true ∧ (∀ c, c < 8 → s.dmaEn c = false) ∧
      s.stagedAt i a = some lo ∧ regRow a = some x ∧ regRow (a + 4) = some y)
    ∧ (∃ (s : State) (i : Initiator) (addr : Word) (a : Nat) (y : RegRow), s.ready i addr.toNat true = true ∧
      addr.toNat = a + 4 ∧ lowWordWrite a = true ∧ (∀ c, c < 8 → s.dmaEn c = false) ∧ s.stagedAt i a = none ∧
      regRow (a + 4) = some y) :=
  ⟨⟨base, .host, 0x808010, ((lat 0x808010).1), ((lat 0x808010).2), (rrow 0x808010), by decide +kernel⟩,
   ⟨base, .host, (word Addr.timeFrcLo), .time, 0x40, by decide +kernel⟩,
   ⟨base, .host, (word (Addr.hostDmaRingLo 7)), by decide +kernel⟩,
   ⟨(st base .host (Addr.hostDmaRingLo 7) 0x1FF0), .host, (word (Addr.hostDmaRingLo 7 + 4)), 0x1FF0, (Addr.hostDmaRingLo 7), (rrow (Addr.hostDmaRingLo 7)), (rrow (Addr.hostDmaRingLo 7 + 4)), by decide +kernel⟩,
   ⟨(st base .host Addr.timeStepNsLo 0x1FF0), .mgmt, (word (Addr.timeStepNsLo + 4)), Addr.timeStepNsLo, (rrow (Addr.timeStepNsLo + 4)), by decide +kernel⟩⟩

theorem witness_GuardsAndScansRun :
    (∃ (s : State) (i : Initiator) (addr : Word), s.ready i addr.toNat true = true ∧ hasAccess addr.toNat .gd = true
      ∧ (blockOwner ((locate addr.toNat).getD (.global, 0)).1 = some .pair → s.fuses.pairCapable = true) ∧
      (s.guard addr.toNat).armed = none)
    ∧ (∃ (s : State) (i : Initiator) (addr : Word) (x : Armed), s.ready i addr.toNat true = true ∧ hasAccess addr.toNat
      .gd = true ∧ (blockOwner ((locate addr.toNat).getD (.global, 0)).1 = some .pair → s.fuses.pairCapable =
      true) ∧ (s.guard addr.toNat).armed = some x ∧ s.now ≤ x.since + 256)
    ∧ (∃ (s : State) (addr : Word) (x : Armed), (s.guard addr.toNat).armed = some x)
    ∧ (∃ (s : State), s.start.logicUp = true ∧ s.flag Addr.regifCfgCrcCtrl 0 = true ∧ s.scanSuspended = false ∧
      s.cfg.tainted = false ∧ s.fault.inject.armed = false ∧ s.scanCrc = s.reg Addr.regifCfgCrcRef)
    ∧ (∃ (s : State), s.start.logicUp = true ∧ s.flag Addr.regifCfgCrcCtrl 0 = true ∧ s.scanSuspended = false ∧
      s.cfg.tainted = false ∧ s.fault.inject.armed = false ∧ s.fault.inject.addr ≠ Addr.regifCfgCrcRef ∧
      s.scanCrc ≠ s.reg Addr.regifCfgCrcRef ∧ s.cfg.drifted = false)
    ∧ (∃ (s : State) (i : Initiator) (v : Word), s.ready i (Addr.regifCfgCrcRef + 4) true = true ∧ s.armedAt
      Addr.regifCfgCrcRef v = true) :=
  ⟨⟨base, .usb, (word Addr.ringCmd), by decide +kernel⟩,
   ⟨(arm base Addr.ringCmd 7), .host, (word Addr.ringCmd), (⟨.core 0, 7, 0⟩), by decide +kernel⟩,
   ⟨(arm base (Addr.grpCmd 7) 7), (word (Addr.grpCmd 7)), (⟨.core 0, 7, 0⟩), by decide +kernel⟩,
   ⟨_, (scanning_ready (base.setReg Addr.regifCfgCrcCtrl 1).scanCrc).1, (scanning_ready _).2.1, (scanning_ready _).2.2.1, rfl, rfl, by simp [scanning, scanCrc_setRef]⟩,
   ⟨_, (scanning_ready ((base.setReg Addr.regifCfgCrcCtrl 1).scanCrc + 1)).1, (scanning_ready _).2.1, (scanning_ready _).2.2.1, rfl, rfl, (show (0 : Nat) ≠ Addr.regifCfgCrcRef by decide), by simp [scanning, scanCrc_setRef], rfl⟩,
   ⟨(arm (base.setReg Addr.regifCfgCrcCtrl 3) Addr.regifCfgCrcRef 0x12345), .boot, 0x12345, by decide +kernel⟩⟩

theorem witness_UnitsRegionsAndDieLinkRun :
    (∃ (s : State) (i : Initiator) (x : Fin 16), s.ready i (unitCtrl (.uart x)) true = true ∧ (∀ q, q < 64 → (s.queue
      q).part = false))
    ∧ (∃ (s : State) (i : Initiator) (u : HubUnit), s.ready i (unitCtrl u) true = true ∧ s.unitAbsent u = false)
    ∧ (∃ (s : State) (x : Fin 16) (b : Bool), s.busy = [⟨.uart x, b⟩] ∧ s.unitFenced (.uart x) = false ∧ s.enabled
      (.uart x) = false ∧ s.held = [] ∧ s.usb.cmds = [])
    ∧ (∃ (s : State) (u : HubUnit), s.isBusy u = true ∧ s.held = [] ∧ s.usb.cmds = [] ∧ s.unitFenced u = true)
    ∧ (∃ (s : State) (i : Initiator) (u : HubUnit) (v : Word), s.ready i (unitCtrl u) true = true ∧ plainUnit u = true
      ∧ s.enabled u = false ∧ bit v 0 = true)
    ∧ (∃ (s : State) (i : Initiator) (u : HubUnit) (v : Word), s.ready i (unitCtrl u) true = true ∧ s.unitAbsent u =
      false ∧ s.enabled u = bit v 0)
    ∧ (∃ (s : State) (i : Initiator) (r : Fin 4) (v : Word), s.ready i (Addr.globalRegionFence + 4) true = true ∧
      s.armedAt Addr.globalRegionFence v = true ∧ bits v 0 4 = 2 ^ r.val ∧ (∀ k, k < 4 → k ≠ r.val → s.fenced k
      = false))
    ∧ (∃ (s : State) (i : Initiator) (v : Word), s.ready i (Addr.globalRegionFence + 4) true = true ∧ s.armedAt
      Addr.globalRegionFence v = true ∧ (∀ k, k < 4 → bit v k = true → s.fenced k = true) ∧ (∀ k, k < 4 →
      s.start.fenceAt.getD k none ≠ some s.now) ∧ ((List.range 4).any fun k => s.fenced k && !bit v k) = true)
    ∧ (∃ (s : State) (r : Fin 4), s.flag Addr.globalRegionState (12 + r.val) = true ∧ s.regionWords r.val = [] ∧ ¬(2 ≤
      s.start.phase ∧ s.start.phase ≤ 5))
    ∧ (∃ (s : State), s.dieLink.up = true)
    ∧ (∃ (s : State), s.dieLink.up = true ∧ s.held = [])
    ∧ (∃ (s : State), s.dieLink.holding = true ∧ (∀ g, g < 8 → (s.group g).live = false))
    ∧ (∃ (s : State), s.dieLink.up = false ∧ s.start.logicUp = true) :=
  ⟨⟨(((en base (.uart 15)).setReg (Addr.uartCtrl 15) 7).setUart 15 { active := true }), .host, 15, by decide +kernel⟩,
   ⟨(en base (.core 3)), .host, (.core 3), by decide +kernel⟩,
   ⟨(bz [⟨.uart 3, true⟩] base), 3, true, by decide +kernel⟩,
   ⟨(bz [⟨.uart 3, true⟩] (base.setFlag Addr.globalRegionState 0 true)), (.uart 3), by decide +kernel⟩,
   ⟨base, (.core 0), (.group 7), 1, by decide +kernel⟩,
   ⟨base, (.core 0), .dram, 0, by decide +kernel⟩,
   ⟨(arm base Addr.globalRegionFence 0xFFFFFFF8), .host, 3, 0xFFFFFFF8, by decide +kernel⟩,
   ⟨(arm (base.setReg Addr.globalRegionState 0xFF00C) Addr.globalRegionFence 4), .host, 4, by decide +kernel⟩,
   ⟨(base.setReg Addr.globalRegionState 0xFF00C), 3, by decide +kernel⟩,
   ⟨base, by decide +kernel⟩,
   ⟨(base.setGroup 7 { base.group 7 with cmds := [true] }), by decide +kernel⟩,
   ⟨({ base with dieLink := ⟨false, true⟩ }), by decide +kernel⟩,
   ⟨({ base with dieLink := ⟨false, true⟩, fault := { base.fault with powerLost := 4, powerHeld := [⟨5,3,0,3,.note,7,3⟩] } }), by decide +kernel⟩⟩

end P40

namespace P41

def rf (d : Byte) (off : Nat) (p : List Word) : RingFrame := ⟨.t, 254, 2, 1, d, 2, false, .east, false, 1, 1, 0, 0, 0, 3, 0, [5, word off, 0x00070000], p, true, 0⟩
def rg : State := let s := ((base.setReg Addr.ringCtrl 0x00040207).setLink .east { sync := .active, matched := true }); { s with ring := { s.ring with sync := .member } }
def bx (s : State) (f : RingFrame) : State := { s with ring := { s.ring with inbox := [⟨.west, f, 5⟩] } }
def tm (f : TimeState → TimeState) (s : State) : State := { s with time := f s.time }
def an (f : AngleState → AngleState) (s : State) : State := { s with angle := f s.angle }
def pt (p : Fin 2) (x : PtpPort) (s : State) : State := s.setPtp p x
def rl (r : Nat) (s : State) : State := (s.setReg Addr.timePtpSta0 (word r)).setReg (Addr.timePtpSta0 + 4) (word r)
def tb : RingFrame := rf 9 0x00230800 [0,1,2,3,4,5,6,7]
def ab : RingFrame := rf 9 0x00230820 [7,1,2,0x80000200,50]
def ac (v : Word) : State := base.setReg Addr.angleCtrl v
def lim (s : State) : Int := roundDiv (Int.ofNat (s.field Addr.timeServo 16 8) * 2 ^ 40) 1000000
def sv (m r : Word) : SvStage := ⟨.core 0, 0, m, r⟩

theorem witness_FabricTimeRuns :
    (∃ (s : State) (i : Initiator) (v : Word) (d : Int), s.ready i (Addr.timeStepCmd + 4) true = true ∧ s.armedAt
      Addr.timeStepCmd v = true ∧ bit v 0 = true ∧ s.enabled .time = true ∧ d = signed 64 ((s.reg
      Addr.timeStepNsLo).toNat + (s.reg Addr.timeStepNsHi).toNat * 2 ^ 32) * 65536 ∧ (s.sta 0).pending = false ∧
      (s.sta 1).pending = false)
    ∧ (∃ (s : State) (i : Initiator), s.ready i Addr.timeRate true = true ∧ s.time.source = 0)
    ∧ (∃ (s : State) (i : Initiator), s.ready i Addr.timeRate true = true ∧ s.time.source ≠ 0)
    ∧ (∃ (s : State) (i : Initiator), s.ready i Addr.timeNowNsLo false = true ∧ s.stagedAt i Addr.timeNowNsLo = none ∧
      s.shadowAt i Addr.timeNowNsLo = none)
    ∧ (∃ (s : State) (i : Initiator) (v : Word) (n : Nat), s.ready i Addr.timeCtrl true = true ∧ n = bits v 0 3 ∧ 1 ≤ n
      ∧ n < 6 ∧ s.time.source ≠ n)
    ∧ (∃ (s : State) (theta : Int) (lim : Int) (term : Int), s.start.logicUp = true ∧ s.time.source = 1 ∧ s.time.sync =
      .acquiring ∧ s.time.good = 3 ∧ Int.natAbs theta < 6553600 ∧ Int.natAbs theta < s.field Addr.timeServo 0 16
      * 65536 ∧ s.start.waitLock = false ∧ lim = roundDiv (Int.ofNat (s.field Addr.timeServo 16 8) * 2 ^ 40)
      1000000 ∧ term = max (-lim) (min lim (roundDiv (theta * 2 ^ 40) (s.interval 1 * 65536))))
    ∧ (∃ (s : State) (theta : Int), s.start.logicUp = true ∧ s.time.source = 1 ∧ s.time.sync = .locked ∧ s.field
      Addr.timeServo 0 16 * 65536 ≤ Int.natAbs theta ∧ (s.sta 0).pending = false ∧ (s.sta 1).pending = false)
    ∧ (∃ (s : State), s.start.logicUp = true ∧ s.time.slewing = true)
    ∧ (∃ (s : State), s.start.logicUp = true ∧ s.time.sync = .locked)
    ∧ (∃ (s : State) (count : Nat) (f : Int), s.start.logicUp = true ∧ s.flag Addr.timeCtrl 6 = false ∧ s.time.source =
      1 ∧ count ≠ 0 ∧ f = roundDiv ((2 ^ 40 + s.time.rateRoot) * 256000000) count - 2 ^ 40)
    ∧ (∃ (s : State), s.start.logicUp = true ∧ s.flag Addr.timeCtrl 4 = true ∧ s.ring.sync ≠ .member)
    ∧ (∃ (s : State), s.start.logicUp = true ∧ s.flag Addr.timeCtrl 4 = true ∧ s.ring.sync = .member)
    ∧ (∃ (s : State) (x : PortFrame) (r : List PortFrame), s.start.logicUp = true ∧ s.ring.inbox = x :: r ∧
      isTimeBeacon x.frame = true ∧ x.frame.srcNode.toNat = s.field Addr.timeMasters 0 8 ∧ s.time.source ≠ 1 ∧
      s.time.masterNode = x.frame.srcNode)
    ∧ (∃ (s : State) (x : PortFrame) (r : List PortFrame), s.start.logicUp = true ∧ s.ring.inbox = x :: r ∧
      isTimeBeacon x.frame = true ∧ x.frame.srcNode.toNat ≠ s.field Addr.timeMasters 0 8 ∧ x.frame.srcNode.toNat
      ≠ s.field Addr.timeMasters 8 8 ∧ s.ring.sync = .member) :=
  ⟨⟨(arm ((base.setReg Addr.timeStepNsLo 0xFFFFFFFF).setReg Addr.timeStepNsHi 0xFFFFFFFF) Addr.timeStepCmd 0xFF), (.core 1), 0xFF, (-65536), by decide +kernel⟩,
   ⟨(tm (fun t => { t with slewing := true }) { base with frc := 400000000 }), (.core 1), by decide +kernel⟩,
   ⟨(tm (fun t => { t with source := 5 }) base), (.core 1), by decide +kernel⟩,
   ⟨({ base with frc := 0x7FFFFFFFFFF }), (.core 1), by decide +kernel⟩,
   ⟨base, (.core 1), 0xFFFFFFF5, 5, by decide +kernel⟩,
   ⟨(tm (fun t => { t with source := 1, sync := .acquiring, good := 3 }) base), (-65000), (lim base), (max (-(lim base)) (min (lim base) (roundDiv ((-65000) * 2 ^ 40) (1000000 * 65536)))), by decide +kernel⟩,
   ⟨(tm (fun t => { t with source := 1, sync := .locked }) base), 65536000, by decide +kernel⟩,
   ⟨(tm (fun t => { t with source := 1, sync := .locked, rateF := -7, slewing := true }) base), by decide +kernel⟩,
   ⟨(tm (fun t => { t with source := 1, sync := .locked }) base), by decide +kernel⟩,
   ⟨(tm (fun t => { t with source := 1, sync := .locked }) base), 256000001, (roundDiv (2 ^ 40 * 256000000) 256000001 - 2 ^ 40), by decide +kernel⟩,
   ⟨(base.setReg Addr.timeCtrl 0x10), by decide +kernel⟩,
   ⟨(rg.setReg Addr.timeCtrl 0x10), by decide +kernel⟩,
   ⟨(tm (fun t => { t with masterNode := 9 }) ((bx base tb).setReg Addr.timeMasters 0x0809)), (⟨.west, tb, 5⟩), ([]), by decide +kernel⟩,
   ⟨(bx rg tb), (⟨.west, tb, 5⟩), ([]), by decide +kernel⟩⟩

theorem witness_TimeInputsRun :
    (∃ (s : State) (p : Fin 2) (edge : Int) (stamp : Int), s.start.logicUp = true ∧ s.ptpRole p ≠ 0 ∧ stamp =
      s.staRxStamp p edge)
    ∧ (∃ (s : State) (p : Fin 2) (f : PtpFrame), s.start.logicUp = true ∧ (s.ptpRole p = 0 ∨ f.domain ≠ s.ptpDomain p))
    ∧ (∃ (s : State) (p : Fin 2) (edge : Int) (stamp : Int), s.start.logicUp = true ∧ s.ptpRole p ≠ 0 ∧ s.ptp.length =
      2 ∧ stamp = s.staRxStamp p edge)
    ∧ (∃ (s : State) (p : Fin 2) (n : Half) (t1 : Int) (edge : Int) (stamp : Int), s.start.logicUp = true ∧ s.ptpRole p
      ≠ 0 ∧ s.ptp.length = 2 ∧ (s.ptpPort p).pdelayT1 = some (n, t1) ∧ stamp = s.staRxStamp p edge)
    ∧ (∃ (s : State) (p : Fin 2) (n : Half) (x : Int) (t2 : Int), s.start.logicUp = true ∧ s.ptpRole p ≠ 0 ∧
      s.ptp.length = 2 ∧ (s.ptpPort p).pdelayT4 = some (n, x, t2))
    ∧ (∃ (s : State) (p : Fin 2) (n : Half), s.start.logicUp = true ∧ s.ptpRole p = 1 ∧ s.ptp.length = 2 ∧ (s.ptpPort
      p).seq = n)
    ∧ (∃ (s : State) (p : Fin 2) (n : Half), s.start.logicUp = true ∧ s.ptpRole p = 2 ∧ s.time.sync = .locked ∧
      (s.ptpPort p).seq = n)
    ∧ (∃ (s : State) (k : Fin 2) (f : IrigFrame), s.start.logicUp = true ∧ bit (s.reg (tinCtrl k)) 0 = true ∧ bit
      (s.reg (tinCtrl k)) 1 = false ∧ f.good = true ∧ (s.tin k).good = 0 ∧ s.tins.length = 2)
    ∧ (∃ (s : State) (k : Fin 2) (f : IrigFrame) (edge : Int) (theta : Int), s.start.logicUp = true ∧ bit (s.reg
      (tinCtrl k)) 0 = true ∧ bit (s.reg (tinCtrl k)) 1 = false ∧ f.good = true ∧ 1 ≤ (s.tin k).good ∧
      s.irigSecond k f = (s.tin k).lastSecond + 1 ∧ s.time.source = 4 + k.val ∧ s.tins.length = 2 ∧ s.time.sync
      = .locked ∧ theta = Int.ofNat (s.irigSecond k f) * 65536000000000 - edge ∧ (bit (s.reg (tinCtrl k)) 3 =
      true → f.quality ≠ 15) ∧ Int.natAbs theta < s.field Addr.timeServo 0 16 * 65536)
    ∧ (∃ (s : State) (k : Fin 2) (edge : Int) (n : Nat), s.start.logicUp = true ∧ bit (s.reg (tinCtrl k)) 0 = true ∧
      bit (s.reg (tinCtrl k)) 1 = true ∧ s.time.source = 4 + k.val ∧ s.time.sync = .locked ∧ Int.natAbs
      (Int.ofNat n * 65536000000000 - edge) < 26214400000000 ∧ Int.natAbs (Int.ofNat n * 65536000000000 - edge)
      < s.field Addr.timeServo 0 16 * 65536)
    ∧ (∃ (s : State), s.start.logicUp = true ∧ s.flag Addr.timePpsOut 0 = true ∧ (s.flag Addr.timePpsOut 1 = true ∨
      s.time.sync = .locked ∨ s.time.sync = .holdover))
    ∧ (∃ (s : State), s.start.logicUp = true) :=
  ⟨⟨(rl 2 base), 1, 65536, ((rl 2 base).staRxStamp 1 65536), by decide +kernel⟩,
   ⟨(rl 2 base), 1, ⟨1, 5, .sync 7 false 9 3⟩, by decide +kernel⟩,
   ⟨(rl 1 base), 1, 65536, ((rl 1 base).staRxStamp 1 65536), by decide +kernel⟩,
   ⟨(pt 1 { pdelayT1 := some (7, 9) } (rl 1 base)), 1, 7, 9, 65536, ((rl 1 base).staRxStamp 1 65536), by decide +kernel⟩,
   ⟨(pt 0 { pdelayT4 := some (7, 9, 4) } (rl 1 base)), 0, 7, 9, 4, by decide +kernel⟩,
   ⟨(pt 0 { seq := 0xFFFF } (rl 1 base)), 0, 0xFFFF, by decide +kernel⟩,
   ⟨(tm (fun t => { t with sync := .locked }) (rl 2 base)), 1, 0, by decide +kernel⟩,
   ⟨(base.setReg Addr.timeTin0Ctrl 1), 0, (⟨true, 5, 6, 0, false, false, 3⟩), by decide +kernel⟩,
   ⟨((tm (fun t => { t with source := 5, sync := .locked }) (base.setReg (Addr.timeTin0Ctrl + 4) 0x41)).setTin 1 ⟨1, 41⟩), 1, (⟨true, 5, 6, 0, true, false, 15⟩), (42 * 65536000000000 + 5), (-5), by decide +kernel⟩,
   ⟨(tm (fun t => { t with source := 5, sync := .locked }) (base.setReg (Addr.timeTin0Ctrl + 4) 3)), 1, (42 * 65536000000000 + 5), 42, by decide +kernel⟩,
   ⟨(base.setReg Addr.timePpsOut 3), by decide +kernel⟩,
   ⟨base, by decide +kernel⟩⟩

theorem witness_AngleRuns :
    (∃ (s : State) (pin : Fin 256), s.start.logicUp = true ∧ s.field Addr.angleCtrl 0 2 = 1 ∧ s.field Addr.angleCtrl
      8 8 = pin.val ∧ s.angle.lastCrossing = none ∧ s.angle.freq = 0 ∧ s.angle.sync = .acquiring)
    ∧ (∃ (s : State) (i : Initiator) (addr : Word), s.ready i addr.toNat true = true ∧ (addr.toNat = Addr.angleSvSecond
      ∨ addr.toNat = Addr.angleSvMeta ∨ addr.toNat = Addr.angleSvRate))
    ∧ (∃ (s : State) (i : Initiator) (x : SvStage), s.ready i Addr.angleSvPush true = true ∧ s.angle.stages = [x] ∧
      x.who = i ∧ s.field Addr.angleCtrl 0 2 = 2 ∧ bits x.info 16 8 = s.field Addr.angleCtrl 16 8 ∧ bits x.rate
      0 24 ≤ bits x.info 0 16)
    ∧ (∃ (s : State) (i : Initiator) (x : SvStage) (a : Int), s.ready i Addr.angleSvPush true = true ∧ s.angle.stages =
      [x] ∧ x.who = i ∧ s.field Addr.angleCtrl 0 2 = 2 ∧ bits x.info 16 8 = s.field Addr.angleCtrl 16 8 ∧ bits
      x.info 0 16 < bits x.rate 0 24 ∧ s.angle.lastSample = none ∧ a = nearestSecond x.second.toNat (s.timeNs /
      1000000000) * 65536000000000 + Int.ofNat (bits x.info 0 16 * 65536000000000 / bits x.rate 0 24) ∧
      Int.natAbs (a - s.time16) ≤ 65536000000000)
    ∧ (∃ (s : State), s.start.logicUp = true ∧ s.angle.sync = .locked)
    ∧ (∃ (s : State) (x : PortFrame) (r : List PortFrame) (b : AngleBeacon), s.start.logicUp = true ∧ s.ring.inbox = x
      :: r ∧ isAngleBeacon x.frame = true ∧ x.frame.srcNode.toNat = s.field Addr.angleCtrl 24 8 ∧ s.field
      Addr.angleCtrl 0 2 = 3 ∧ s.angle.freq = 0 ∧ s.angle.sync = .acquiring ∧ b = angleBeaconOf x.frame.payload
      ∧ bits b.state 0 2 = 2)
    ∧ (∃ (s : State), s.start.logicUp = true ∧ s.field Addr.angleCtrl 0 2 = 3 ∧ s.angle.sync = .acquiring)
    ∧ (∃ (s : State), s.start.logicUp = true ∧ s.field Addr.angleCtrl 0 2 = 3 ∧ s.angle.sync = .following)
    ∧ (∃ (s : State) (i : Initiator), s.ready i Addr.angleNow false = true ∧ s.stagedAt i Addr.angleNow = none ∧
      s.shadowAt i Addr.angleNow = none)
    ∧ (∃ (s : State) (i : Initiator) (v : Word), s.ready i Addr.angleCtrl true = true ∧ bits v 0 2 = 0)
    ∧ (∃ (s : State) (i : Initiator) (v : Word), s.ready i Addr.angleCtrl true = true ∧ bits v 0 2 ≠ 0 ∧ bits v 0 2 ≠
      s.field Addr.angleCtrl 0 2) :=
  ⟨⟨(an (fun a => { a with sync := .acquiring }) (ac 0xFF01)), 255, by decide +kernel⟩,
   ⟨(ac 2), .host, (word Addr.angleSvSecond), by decide +kernel⟩,
   ⟨(an (fun a => { a with stages := [sv 5 5] }) (ac 2)), (.core 0), (sv 5 5), by decide +kernel⟩,
   ⟨(an (fun a => { a with stages := [sv 5 6] }) (ac 2)), (.core 0), (sv 5 6), (5 * 65536000000000 / 6), by decide +kernel⟩,
   ⟨(an (fun a => { a with sync := .locked }) (ac 1)), by decide +kernel⟩,
   ⟨(bx (an (fun a => { a with sync := .acquiring }) (ac 0x09000003)) ab), (⟨.west, ab, 5⟩), ([]), (angleBeaconOf ab.payload), by decide +kernel⟩,
   ⟨(an (fun a => { a with sync := .acquiring }) (ac 0x09000003)), by decide +kernel⟩,
   ⟨(an (fun a => { a with sync := .following }) (ac 0x09000003)), by decide +kernel⟩,
   ⟨(an (fun a => { a with sync := .following, t0 := 0xFFFFFFFFFFFFFFFFFFFF, freq := 50 }) (ac 0x09000003)), (.core 0), by decide +kernel⟩,
   ⟨(an (fun a => { a with sync := .following }) (ac 0x09000003)), (.core 0), 0xFF0000F8, by decide +kernel⟩,
   ⟨(an (fun a => { a with sync := .following }) (ac 0x09000003)), (.core 0), 0xFF0000F1, by decide +kernel⟩⟩

end P41

namespace P42

def el (f : EphemState → EphemState) (s : State) : State := { s with ephem := f s.ephem }
def w0 : Word := 0x080100FF
def ef : State := let s := (((en base .ephem).setReg (Addr.ephemEntry 4095 0) w0).setReg (Addr.ephemEntry 4095 1) 100).setReg (pinCfgAddr 255) 0x3; { s with frc := 41, start := { s.start with ephHold := false } }

theorem witness_EphemerisRuns :
    (∃ (s : State) (i : Initiator) (e : Fin 4096) (v : Word), s.ready i (Addr.ephemEntry e.val 0) true = true ∧
      ephActionKnown (ephAction v) = false)
    ∧ (∃ (s : State) (i : Initiator) (e : Fin 4096) (v : Word) (b : Int), s.ready i (Addr.ephemEntry e.val 0) true =
      true ∧ ephActionKnown (ephAction v) = true ∧ ephType v = 0 ∧ ephChain v = false ∧ ephAction v ≠ 0x60 ∧
      ephEn v = true ∧ b = Int.ofNat ((s.eph e.val 1).toNat + (s.eph e.val 2).toNat * 2 ^ 32) * 65536 - (s.eph
      e.val 4).toInt * 65536)
    ∧ (∃ (s : State) (i : Initiator) (e : Fin 4096) (w : Fin 8), s.ready i (Addr.ephemEntry e.val w.val) true = true ∧
      w ≠ 0 ∧ ephEn (s.eph e.val 0) = false)
    ∧ (∃ (s : State) (e : Fin 4096) (f : Int), s.start.logicUp = true ∧ s.nextFire e.val = some f ∧ s.ephLive e.val =
      true ∧ f ≤ s.time16 + 655360000)
    ∧ (∃ (s : State) (e : Fin 4096) (w0 : Word) (p : Nat) (f : Int), s.start.logicUp = true ∧ s.ephRuns = true ∧
      s.pair.role = .off ∧ s.eph e.val 0 = w0 ∧ ephType w0 = 0 ∧ ephAction w0 = 1 ∧ ephEn w0 = true ∧ ephChain
      w0 = false ∧ bit (s.eph e.val 7) 7 = false ∧ (s.ephInst e.val).ended = false ∧ (s.ephInst e.val).late = 0
      ∧ (s.ephInst e.val).k = 0 ∧ (s.ephInst e.val).old = none ∧ (s.ephInst e.val).fixed = none ∧ s.ephTies
      e.val = [] ∧ p = ephTarget w0 % 256 ∧ s.ephDrives p = true ∧ s.ephem.crowdAt = none ∧ f = Int.ofNat
      ((s.eph e.val 1).toNat + (s.eph e.val 2).toNat * 2 ^ 32) * 65536 - (s.eph e.val 4).toInt * 65536 ∧ f ≤
      s.time16 ∧ s.lateness f ≤ s.field Addr.ephemCtrl 4 12 * 65536)
    ∧ (∃ (s : State) (pin : Fin 256) (c : Nat) (b : Bool), s.start.logicUp = true ∧ s.ephem.pulses = [⟨pin.val, c, b⟩])
    ∧ (∃ (s : State) (i : Initiator) (v : Word), s.ready i Addr.ephemCtrl true = true ∧ bit v 1 = true) :=
  ⟨⟨(base.setReg (Addr.ephemEntry 4095 7) 0xFFFFFF7F), .host, 4095, 0xFFFFFFFF, by decide +kernel⟩,
   ⟨(base.setReg (Addr.ephemEntry 4095 4) 0xFFFFFFFF), .host, 4095, (0x0F01FFFF &&& ~~~ 0x04000000), 65536, by decide +kernel⟩,
   ⟨base, .host, 4095, 6, by decide +kernel⟩,
   ⟨(base.setReg (Addr.ephemEntry 7 0) w0 |> fun s => s.setReg (Addr.ephemEntry 7 1) 10000), 7, 655360000, by decide +kernel⟩,
   ⟨ef, 4095, w0, 255, 6553600, by decide +kernel⟩,
   ⟨(el (fun e => { e with pulses := [⟨255, 7, true⟩] }) base), 255, 7, true, by decide +kernel⟩,
   ⟨(el (fun e => { e with unlockTold := true }) ef), .host, 0xFFFFFFFE, by decide +kernel⟩⟩

end P42

namespace P43

def qw (q : Nat) (l : List QWord) (s : State) : State := s.setQueue q { s.queue q with words := l }
def oq : State := openQ base 63 0 0
def dm (f : DramState → DramState) (s : State) : State := { s with dram := f s.dram }
def d4 (v : Word) : QWord := ⟨v, .data, 0⟩
def sc : State := dm (fun d => { d with sync := .ready, cfg := 1 }) (base.setReg Addr.dramScrub 5)
def fe : Fetch := ⟨⟨2, 3, 1, 5, 0x100000000, 1⟩, .running, ⟨.c, 7, 2, 3, 3, 2, false, .east, false, 1, 1, 0, 0, 0, 3, 0, [5, 0, 1, 0], [], true, 0⟩, true⟩

theorem witness_QueuesRun :
    (∃ (s : State) (i : Initiator) (q : Fin 64), s.ready i (Addr.qPush q.val) true = true ∧ s.qOpen q.val = true ∧
      s.qProducer q.val = 0 ∧ (s.queue q.val).dropping = false ∧ (s.queue q.val).popWait = 0 ∧ (s.queue
      q.val).words.length + 1 < s.qSize q.val ∧ s.fault.inject.armed = false)
    ∧ (∃ (s : State) (i : Initiator) (q : Fin 64), s.ready i (Addr.qPush q.val) true = true ∧ (s.qOpen q.val = false ∨
      s.qProducer q.val ≠ 0))
    ∧ (∃ (s : State) (i : Initiator) (q : Fin 64), s.ready i (Addr.qPushEnd q.val) true = true ∧ s.qOpen q.val = true ∧
      s.qProducer q.val = 0 ∧ (s.queue q.val).dropping = false ∧ (s.queue q.val).popWait = 0 ∧ (s.queue
      q.val).words.length + 1 < s.qSize q.val ∧ s.fault.inject.armed = false)
    ∧ (∃ (s : State) (i : Initiator) (q : Fin 64), s.ready i (Addr.qPushEnd q.val) true = true ∧ s.qOpen q.val = true ∧
      s.qProducer q.val = 0 ∧ (s.queue q.val).dropping = false ∧ s.qSize q.val - 1 ≤ (s.queue
      q.val).words.length)
    ∧ (∃ (s : State) (i : Initiator) (q : Fin 64), s.ready i (Addr.qPushAbort q.val) true = true ∧ s.qOpen q.val = true
      ∧ s.qProducer q.val = 0 ∧ (s.queue q.val).dropping = false ∧ (s.queue q.val).popWait = 0 ∧ (s.queue
      q.val).words.length < s.qSize q.val ∧ s.fault.inject.armed = false)
    ∧ (∃ (s : State) (i : Initiator) (q : Fin 64) (w : QWord) (r : List QWord), s.ready i (Addr.qPop q.val) false =
      true ∧ s.qConsumer q.val = 0 ∧ s.qAvail q.val = true ∧ (s.queue q.val).words = w :: r ∧ w.ecc = 0)
    ∧ (∃ (s : State) (q : Fin 64), s.ready .host (Addr.qPop q.val) false = true ∧ s.qConsumer q.val = 0 ∧ s.qAvail
      q.val = false)
    ∧ (∃ (s : State) (i : Initiator) (q : Fin 64), s.ready i (Addr.qPop q.val) false = true ∧ i ≠ .host ∧ s.qConsumer
      q.val = 0 ∧ s.qAvail q.val = false)
    ∧ (∃ (s : State) (q : Fin 64), s.start.logicUp = true ∧ (s.queue q.val).popWait ≠ 0)
    ∧ (∃ (s : State) (i : Initiator) (q : Fin 64) (a : List QWord) (w : QWord) (r : List QWord), s.ready i
      (Addr.qDroppkt q.val) true = true ∧ s.qConsumer q.val = 0 ∧ (s.queue q.val).words = a ++ w :: r ∧ (∀ x, x
      ∈ a → x.mark = .data) ∧ w.mark ≠ .data) :=
  ⟨⟨(qw 63 (List.replicate 30 (d4 5)) oq), .usb, 63, by decide +kernel⟩,
   ⟨base, .usb, 63, by decide +kernel⟩,
   ⟨(qw 63 (List.replicate 30 (d4 5)) oq), .usb, 63, by decide +kernel⟩,
   ⟨(qw 63 (List.replicate 31 (d4 5)) oq), .usb, 63, by decide +kernel⟩,
   ⟨(qw 63 (List.replicate 31 (d4 5)) oq), .usb, 63, by decide +kernel⟩,
   ⟨(qw 63 [⟨5, .last, 0⟩, d4 6] oq), .host, 63, (⟨5, .last, 0⟩), ([d4 6]), by decide +kernel⟩,
   ⟨(qw 63 [d4 6] oq), 63, by decide +kernel⟩,
   ⟨(qw 63 [d4 6] oq), .mgmt, 63, by decide +kernel⟩,
   ⟨(oq.setQueue 63 { popWait := 2 }), 63, by decide +kernel⟩,
   ⟨(qw 63 [d4 6, d4 7, ⟨5, .abort, 0⟩, d4 8] oq), .mgmt, 63, ([d4 6, d4 7]), (⟨5, .abort, 0⟩), ([d4 8]), by decide +kernel⟩⟩

theorem witness_DramAndEndpointsRun :
    (∃ (s : State), s.start.logicUp = true ∧ s.dram.sync = .init)
    ∧ (∃ (s : State), s.start.logicUp = true ∧ s.dram.sync = .training)
    ∧ (∃ (s : State), s.start.logicUp = true ∧ s.dram.sync = .fill)
    ∧ (∃ (s : State), s.start.logicUp = true ∧ s.dram.sync = .fill)
    ∧ (∃ (s : State), s.start.logicUp = true ∧ (s.dram.sync = .init ∨ s.dram.sync = .training ∨ s.dram.sync = .fill))
    ∧ (∃ (s : State) (a : Nat), s.start.logicUp = true ∧ s.dram.sync = .ready ∧ s.field Addr.dramScrub 0 16 ≠ 0 ∧ a <
      s.dramSize)
    ∧ (∃ (s : State) (a : Nat), s.start.logicUp = true ∧ s.dram.sync = .ready ∧ s.field Addr.dramScrub 0 16 ≠ 0 ∧ a <
      s.dramSize)
    ∧ (∃ (s : State) (q : Nat) (k : Nat) (h : Word) (w : Word) (x : Fetch), s.start.logicUp = true ∧ q = s.field
      Addr.queueEpCtrl 0 6 ∧ s.qConsumer q = 0x0280 ∧ s.bridge.reply = [] ∧ (s.queue q).words = [⟨h, .data, 0⟩,
      ⟨w, .last, 0⟩] ∧ bits h 0 5 = k ∧ bits h 28 4 = 0 ∧ s.fetch k = some x ∧ x.state = .running ∧ x.answered =
      true ∧ faSpace x.key.addr = 1 ∧ x.key.count = 1)
    ∧ (∃ (s : State) (k : Fin 32) (x : Fetch), s.start.logicUp = true ∧ s.fetch k.val = some x ∧ x.state = .running ∧
      faSpace x.key.addr = 1 ∧ x.answered = true) :=
  ⟨⟨(dm (fun d => { d with sync := .init }) base), by decide +kernel⟩,
   ⟨(dm (fun d => { d with sync := .training }) base), by decide +kernel⟩,
   ⟨({ dm (fun d => { d with sync := .fill }) base with mem := [(5, 6), (0x1_0000_0000, 7), (0x4_FFFF_FFFF, 8), (0x5_0000_0000, 9)] }), by decide +kernel⟩,
   ⟨(dm (fun d => { d with sync := .fill }) base), by decide +kernel⟩,
   ⟨(dm (fun d => { d with sync := .fill }) base), by decide +kernel⟩,
   ⟨sc, 0x7FFFFFFF, by decide +kernel⟩,
   ⟨sc, 0, by decide +kernel⟩,
   ⟨(qw 9 [⟨0x3, .data, 0⟩, ⟨77, .last, 0⟩] ((openQ base 9 0x200 0x280).setReg Addr.queueEpCtrl 9 |> fun s => s.setFetch 3 (some fe))), 9, 3, 3, 77, fe, by decide +kernel⟩,
   ⟨(base.setFetch 31 (some fe)), 31, fe, by decide +kernel⟩⟩

end P43

namespace P44

def pr (f : PairState → PairState) (s : State) : State := { s with pair := f s.pair }
def bp : State := let s := (((en base .pair).setReg Addr.pairCtrl 0x903).setReg Addr.pairRank 1).setLink .pair { sync := .active, matched := true }; { s with fuses := { s.fuses with pairCapable := true } }
def rl (r : PairRole) : State := pr (fun p => { p with role := r, partnerRole := 3, partnerRank := 5, seenRing := true }) bp
def rg (s : State) : State := let s := ((s.setReg Addr.ringCtrl 0x00040207).setLink .east { sync := .active, matched := true }); { s with ring := { s.ring with sync := .member } }
def cm : PairedCmd := { who := .ephem, addr := 0x00000050, data := 7, cls := .c, entry := 3, order := 1 }
def cm2 : PairedCmd := { cm with addr := 0x5_0000_0050 + 0x100000000000 * 0, key := some (4, 5), since := 0 }
def w0 : Word := 0x00 + 5 * 65536 + 0x1104 + 0xFF000000
def bp2 (r : PairRole) : State := let s := rl r; s.setReg Addr.ringPair 0xFF

theorem witness_PairRolesRun :
    (∃ (s : State), s.start.logicUp = true ∧ s.pair.role = .syncing ∧ s.partner ≠ 0xFF)
    ∧ (∃ (s : State) (w0 : Word), s.start.logicUp = true ∧ s.active .pair = true ∧ s.pair.role = .syncing ∧ s.pairMismatch w0 = false)
    ∧ (∃ (s : State) (w0 : Word), s.start.logicUp = true ∧ s.active .pair = true ∧ s.pair.role = .standby ∧ s.pairMismatch w0 = false ∧ bits w0 0 3 = 4 ∧ bit w0 4 = true)
    ∧ (∃ (s : State) (w0 : Word), s.start.logicUp = true ∧ s.active .pair = true ∧ s.pair.role = .seeking ∧ s.pairMismatch w0 = false ∧ bits w0 0 3 = 4)
    ∧ (∃ (s : State), s.start.logicUp = true)
    ∧ (∃ (s : State), s.start.logicUp = true)
    ∧ (∃ (s : State), s.start.logicUp = true ∧ s.pair.role ≠ .off ∧ s.pair.linkLost = false ∧ s.pair.seenRing = true)
    ∧ (∃ (s : State), s.start.logicUp = true ∧ s.pair.role = .seeking)
    ∧ (∃ (s : State), s.start.logicUp = true ∧ s.pair.role = .syncing ∧ s.pair.lastHeard ≠ s.now)
    ∧ (∃ (s : State), s.start.logicUp = true ∧ s.pair.role = .standby ∧ s.pair.lastHeard ≠ s.now)
    ∧ (∃ (s : State), s.start.logicUp = true ∧ s.pair.role = .primary ∧ s.present s.partner = true ∧ s.flag
      Addr.pairCtrl 2 = false ∧ s.pair.lastHeard ≠ s.now)
    ∧ (∃ (s : State), s.start.logicUp = true ∧ s.pair.role = .syncing)
    ∧ (∃ (s : State) (i : Initiator) (v : Word), s.ready i (Addr.pairCmd + 4) true = true ∧ s.fuses.pairCapable = true
      ∧ s.armedAt Addr.pairCmd v = true ∧ bit v 0 = true ∧ bit v 1 = false ∧ s.pair.role = .primary ∧
      s.pair.partnerRole = 3)
    ∧ (∃ (s : State) (i : Initiator) (v : Word), s.ready i (Addr.pairCmd + 4) true = true ∧ s.fuses.pairCapable = true
      ∧ s.armedAt Addr.pairCmd v = true ∧ bit v 0 = false ∧ bit v 1 = true ∧ s.pair.role = .standby)
    ∧ (∃ (s : State), s.start.logicUp = true ∧ s.pair.role = .primary ∧ s.pair.handover = true ∧ s.pair.m2 = [] ∧
      s.partner ≠ 0xFF)
    ∧ (∃ (s : State), s.start.logicUp = true ∧ s.pair.role = .standby ∧ s.flag Addr.pairCtrl 1 = true ∧ s.rank <
      s.pair.partnerRank.toNat ∧ s.pairHealthy = true ∧ s.partner ≠ 0xFF) :=
  ⟨⟨(rg (rl .syncing)), by decide +kernel⟩,
   ⟨(bp2 .syncing), 0xFF05110B, by decide +kernel⟩,
   ⟨(bp2 .standby), 0xFF051114, by decide +kernel⟩,
   ⟨(bp2 .seeking), 0xFF051104, by decide +kernel⟩,
   ⟨(rl .standby), by decide +kernel⟩,
   ⟨(rl .standby), by decide +kernel⟩,
   ⟨(rl .held), by decide +kernel⟩,
   ⟨(rl .seeking), by decide +kernel⟩,
   ⟨(pr (fun p => { p with lastHeard := 7 }) (rl .syncing)), by decide +kernel⟩,
   ⟨(pr (fun p => { p with lastHeard := 7 }) (rl .standby)), by decide +kernel⟩,
   ⟨(pr (fun p => { p with cmds := [cm], lastHeard := 7 }) ((rl .primary).setReg (Addr.ringPresent 0) 0x200)), by decide +kernel⟩,
   ⟨(rl .syncing), by decide +kernel⟩,
   ⟨(arm (rl .primary) Addr.pairCmd 0xFD), (.core 1), 0xFD, by decide +kernel⟩,
   ⟨(arm (rl .standby) Addr.pairCmd 2), (.core 1), 2, by decide +kernel⟩,
   ⟨(rg (pr (fun p => { p with handover := true, term := 255 }) (rl .primary))), by decide +kernel⟩,
   ⟨(rg (rl .standby)), by decide +kernel⟩⟩

theorem witness_PairedCommandsAndMirrorsRun :
    (∃ (s : State) (c : PairedCmd) (r : List PairedCmd) (n : Nat), s.start.logicUp = true ∧ s.pair.cmds = c :: r ∧
      s.pair.role = .primary ∧ s.pair.handover = false ∧ s.pair.partnerRole = 3 ∧ s.active .pair = true ∧ n =
      classCode c.cls ∧ s.ring.aliasSeqs.length = 4)
    ∧ (∃ (s : State) (c : PairedCmd) (r : List PairedCmd) (k : Half × Byte), s.start.logicUp = true ∧ s.pair.m2 = c ::
      r ∧ c.key = some k ∧ s.pair.role = .standby)
    ∧ (∃ (s : State) (c : PairedCmd) (r : List PairedCmd) (k : Half × Byte), s.start.logicUp = true ∧ s.pair.m2 = c ::
      r ∧ c.key = some k ∧ s.pair.role = .primary)
    ∧ (∃ (s : State) (w0 : Word) (n : Nat), s.start.logicUp = true ∧ s.active .pair = true ∧ s.pair.role = .standby ∧ n
      = (if bit w0 24 then classCode .c else classCode .t) ∧ s.ring.aliasSeqs.length = 4)
    ∧ (∃ (s : State), s.start.logicUp = true ∧ (s.pair.role = .standby ∨ s.pair.role = .syncing))
    ∧ (∃ (s : State) (a : Word), s.start.logicUp = true ∧ (s.pair.role = .standby ∨ s.pair.role = .syncing) ∧ 0x5_F000
      ≤ a.toNat ∧ a.toNat ≤ 0x5_FFFC ∧ a.toNat % 4 = 0 ∧ s.fault.inject.armed = false)
    ∧ (∃ (s : State) (l : List (Half × Byte)), s.start.logicUp = true ∧ s.pair.role = .syncing ∧ l.length = 4)
    ∧ (∃ (s : State) (a : Nat) (v : Word), s.start.logicUp = true ∧ s.flag Addr.pairMirrorCtrl 1 = true ∧ s.pair.role =
      .primary ∧ s.pair.partnerRole = 3 ∧ s.m3List = [a] ∧ v = s.m3Value a ∧ assocGet s.pair.m3 a ≠ some v) :=
  ⟨⟨(pr (fun p => { p with cmds := [cm, cm] }) (rl .primary)), cm, ([cm]), (classCode .c), by decide +kernel⟩,
   ⟨(pr (fun p => { p with m2 := [cm2] }) (rl .standby)), cm2, ([]), ((4, 5)), by decide +kernel⟩,
   ⟨({ rg (pr (fun p => { p with m2 := [cm2] }) (rl .primary)) with frc := 50 }), cm2, ([]), ((4, 5)), by decide +kernel⟩,
   ⟨(rg (rl .standby)), 0x0100FFFF, (classCode .c), by decide +kernel⟩,
   ⟨(rl .standby), by decide +kernel⟩,
   ⟨(rl .syncing), 0x5FFFC, by decide +kernel⟩,
   ⟨(rl .syncing), ([(1,2),(3,4),(5,6),(7,8)]), by decide +kernel⟩,
   ⟨(((rl .primary).setReg Addr.pairMirrorCtrl 2).setReg (Addr.pairM3List 255) (0x80000000 + word Addr.timeTaiUtc)), Addr.timeTaiUtc, 37, by decide +kernel⟩⟩

end P44

namespace P45

def pw (f : PowerState → PowerState) (s : State) : State := { s with power := f s.power }
def bp : State := pw (fun p => { p with enable := true, qualified := true, logicEn := false }) (en (en base (.feed 0)) (.feed 1))
def fd (f : Nat) (x : FeedSync) (s : State) : State := s.setFeed f { sync := x, voltage := 7 }
def bq : State := pw (fun p => { p with qualified := false }) bp
def pri (p : Nat) (s : State) : State := s.setReg (Addr.pwrFeedMode 0) (word (1 + 2 * p))
def gp (g : Nat) (x : GroupSync) (l : List Bool) : State := ((((fd 0 .on bp).setReg (Addr.grpUnitCtrl g) 1).setReg (Addr.grpLimit g) 1000).setReg (Addr.grpShunt g) 5000).setGroup g { sync := x, cause := 2, retries := 1, cmds := l, ends := some 5 }
def mm : GroupMeas := { current := 1, vout := 2, supply := 3, power := 4, total := 0x500000006, episode := 7, ramp := 8 }
def hold (s : State) : State := { s with dieLink := { s.dieLink with holding := true } }

theorem witness_FeedsRun :
    (∃ (s : State) (va : Half) (vb : Half), s.power.enable = true ∧ s.power.qualified = false ∧ s.priority = false ∧
      s.feedFit 0 va.toNat = true ∧ s.feedFit 1 vb.toNat = true)
    ∧ (∃ (s : State) (va : Half) (vb : Half), s.power.enable = true ∧ s.power.qualified = false ∧ s.priority = true ∧
      s.preferred = 0 ∧ s.feedFit 0 va.toNat = false ∧ s.feedFit 1 vb.toNat = true)
    ∧ (∃ (s : State) (f : Fin 2), (s.feed f.val).sync = .ramp ∧ s.power.logicEn = false ∧ s.comet.vaon = true ∧
      s.comet.power ≠ .hibernate)
    ∧ (∃ (s : State) (f : Fin 2), (s.feed f.val).sync = .on ∧ (s.feed f.val).told = none)
    ∧ (∃ (s : State) (f : Fin 2) (c : Nat), (s.feed f.val).sync = .on ∧ (s.feed f.val).told = some c ∧ s.clock < c + 10
      * periods100ms)
    ∧ (∃ (s : State) (f : Fin 2), (s.feed f.val).sync = .blocked)
    ∧ (∃ (s : State) (f : Fin 2), s.power.qualified = true ∧ s.enabled (feedUnit f.val) = true ∧ (s.feed f.val).sync ≠
      .uv)
    ∧ (∃ (s : State) (f : Fin 2) (v : Half), s.power.qualified = true ∧ s.feedFit f.val v.toNat = true ∧ (s.feed
      f.val).sync = .uv ∧ s.priority = false)
    ∧ (∃ (s : State) (f : Fin 2), s.priority = true ∧ s.power.qualified = true ∧ (s.feed f.val).sync = .on)
    ∧ (∃ (s : State) (f : Fin 2) (v : Half), s.power.dead = some f ∧ s.feedFit f.val v.toNat = true)
    ∧ (∃ (s : State) (v : Half), s.priority = true ∧ s.power.qualified = true ∧ s.preferred = 0 ∧ (s.feed 0).sync =
      .off ∧ (s.feed 1).sync = .on ∧ s.feedFit 0 v.toNat = true)
    ∧ (∃ (s : State) (i : Initiator) (f : Fin 2), s.ready i (Addr.feedUnitCtrl f.val) true = true ∧ (s.feed f.val).sync
      = .on ∧ (s.feed (1 - f.val)).sync ≠ .on ∧ s.enabled (.feed f) = true)
    ∧ (∃ (s : State) (i : Initiator) (f : Fin 2), s.ready i (Addr.feedUnitCtrl f.val) true = true ∧ (s.feed f.val).sync
      = .on ∧ (s.feed (1 - f.val)).sync = .on ∧ s.enabled (.feed f) = true) :=
  ⟨⟨bq, 0xFFFF, 2101, by decide +kernel⟩,
   ⟨(pri 0 bq), 100, 5000, by decide +kernel⟩,
   ⟨(fd 1 .ramp bp), 1, by decide +kernel⟩,
   ⟨(fd 1 .on bp), 1, by decide +kernel⟩,
   ⟨({ bp.setFeed 1 { sync := .on, told := some 5 } with clock := 400000004 }), 1, 5, by decide +kernel⟩,
   ⟨(fd 0 .blocked bp), 0, by decide +kernel⟩,
   ⟨(fd 0 .on bp), 0, by decide +kernel⟩,
   ⟨(fd 0 .uv bp), 0, 5000, by decide +kernel⟩,
   ⟨(pri 0 (fd 0 .on bp)), 0, by decide +kernel⟩,
   ⟨(pw (fun p => { p with dead := some 1 }) bp), 1, 5000, by decide +kernel⟩,
   ⟨(pri 0 (fd 1 .on bp)), 5000, by decide +kernel⟩,
   ⟨(fd 0 .on base), (.core 1), 0, by decide +kernel⟩,
   ⟨(fd 1 .on (fd 0 .on (en base (.feed 1)))), (.core 1), 1, by decide +kernel⟩⟩

theorem witness_GroupsAndThermalRun :
    (∃ (s : State) (g : Fin 8) (r : List Bool), (s.group g.val).cmds = true :: r ∧ (s.group g.val).sync = .off ∧
      s.groupBlocked g.val = false ∧ s.dieLink.up = true)
    ∧ (∃ (s : State) (g : Fin 8) (r : List Bool), (s.group g.val).cmds = true :: r ∧ (s.group g.val).sync = .tripped ∧
      s.dieLink.up = true)
    ∧ (∃ (s : State) (g : Fin 8) (r : List Bool), (s.group g.val).cmds = true :: r ∧ (s.group g.val).live = false ∧
      (s.enabled (groupUnit g.val) = false ∨ s.feedOn = false ∨ s.power.block.isSome = true ∨ s.power.shutdown =
      true) ∧ s.dieLink.up = true)
    ∧ (∃ (s : State) (g : Fin 8) (r : List Bool), (s.group g.val).cmds = false :: r ∧ (s.group g.val).live = true ∧
      s.dieLink.up = true)
    ∧ (∃ (s : State) (g : Fin 8) (m : GroupMeas), (s.group g.val).sync = .ramp ∧ measRisen m = true)
    ∧ (∃ (s : State) (g : Fin 8), (s.group g.val).sync = .ramp ∧ s.dieLink.holding = false)
    ∧ (∃ (s : State) (g : Fin 8) (m : GroupMeas), (s.group g.val).sync = .on ∧ s.flag (Addr.grpCfg g.val) 0 = false ∧
      s.atLimit g.val m = true)
    ∧ (∃ (s : State) (g : Fin 8) (m : GroupMeas), (s.group g.val).sync = .limiting ∧ s.atLimit g.val m = false)
    ∧ (∃ (s : State) (g : Fin 8) (m : GroupMeas), (s.group g.val).sync = .on ∧ s.dieLink.holding = true ∧ s.atFastTrip
      g.val m = true)
    ∧ (∃ (s : State) (g : Fin 8) (m : GroupMeas), (s.group g.val).sync = .limiting ∧ s.dieLink.holding = false ∧
      s.atLimit g.val m = true)
    ∧ (∃ (s : State) (g : Fin 8) (k : Fin 3) (m : GroupMeas), s.dieLink.holding = false ∧ (s.group g.val).sync = (if k
      = 2 then .ramp else .on) ∧ s.limitPassed g.val k m = true)
    ∧ (∃ (s : State) (g : Fin 8), (s.group g.val).sync = .ramp)
    ∧ (∃ (s : State) (g : Fin 8), (s.group g.val).sync = .tripped ∧ s.flag (Addr.grpCfg g.val) 1 = true ∧ (s.group
      g.val).retries < s.field (Addr.grpCfg g.val) 4 4 ∧ (s.group g.val).noRetry = false ∧ s.groupBlocked g.val
      = false)
    ∧ (∃ (s : State) (g : Fin 8), (s.group g.val).sync = .tripped ∧ (s.flag (Addr.grpCfg g.val) 1 = false ∨ (s.group
      g.val).noRetry = true))
    ∧ (∃ (s : State) (g : Fin 8), (s.group g.val).sync = .limiting)
    ∧ (∃ (s : State) (k : Fin 4) (v : Half), (s.sensor k.val).warn = false ∧ s.warnAt k.val ≤ v.toInt)
    ∧ (∃ (s : State) (k : Fin 4) (v : Half), (s.sensor k.val).shut = false ∧ s.shutAt k.val ≤ v.toInt)
    ∧ (∃ (s : State) (k : Fin 4) (v : Half), (s.sensor k.val).warn = true ∧ v.toInt < s.warnAt k.val - 100 ∧ v.toInt <
      s.shutAt k.val - 100) :=
  ⟨⟨({ gp 7 .off [true, false] with dieLink := { up := true } }), 7, ([false]), by decide +kernel⟩,
   ⟨({ gp 7 .tripped [true, false] with dieLink := { up := true } }), 7, ([false]), by decide +kernel⟩,
   ⟨({ (gp 7 .off [true, false]).setReg (Addr.grpUnitCtrl 7) 0 with dieLink := { up := true } }), 7, ([false]), by decide +kernel⟩,
   ⟨({ gp 7 .limiting [false] with dieLink := { up := true } }), 7, ([]), by decide +kernel⟩,
   ⟨(gp 7 .ramp [false]), 7, mm, by decide +kernel⟩,
   ⟨(gp 0 .ramp [false]), 0, by decide +kernel⟩,
   ⟨(gp 0 .on [false]), 0, ({ mm with current := 1000 }), by decide +kernel⟩,
   ⟨(gp 0 .limiting [false]), 0, ({ mm with current := 999 }), by decide +kernel⟩,
   ⟨(hold (gp 0 .on [false])), 0, ({ mm with current := 65535 }), by decide +kernel⟩,
   ⟨(gp 0 .limiting [false]), 0, ({ mm with current := 1000 }), by decide +kernel⟩,
   ⟨(gp 0 .on [false]), 0, 0, ({ mm with episode := 60000 }), by decide +kernel⟩,
   ⟨(gp 0 .ramp [false]), 0, by decide +kernel⟩,
   ⟨((gp 1 .tripped []).setReg (Addr.grpCfg 1) 0x22), 1, by decide +kernel⟩,
   ⟨((gp 1 .tripped []).setReg (Addr.grpCfg 1) 0x20), 1, by decide +kernel⟩,
   ⟨(gp 1 .limiting []), 1, by decide +kernel⟩,
   ⟨base, 3, 1400, by decide +kernel⟩,
   ⟨(gp 1 .limiting []), 3, 1500, by decide +kernel⟩,
   ⟨(pw (fun p => { p with shutdown := true }) ((base.setSensor 3 { warn := true, shut := true }).setSensor 0 { shut := true })), 3, 20, by decide +kernel⟩⟩

end P45

namespace P46

def rrow (a : Nat) : RegRow := (regRow a).getD ⟨0,0,0,.ro,0,0,false⟩
def pw (f : PowerState → PowerState) (s : State) : State := { s with power := f s.power }
def fd (f : Nat) (x : FeedSync) (s : State) : State := s.setFeed f { sync := x, voltage := 7 }
def st (f : StartState → StartState) (s : State) : State := { s with start := f s.start }
def cm (f : CometState → CometState) (s : State) : State := { s with comet := f s.comet }
def ph (n : Nat) : State := st (fun x => { x with phase := n, released := false }) base
def rich : State := { ((((en base (.engine 3)).setReg Addr.cometHibCtrl 0x800).setReg (Addr.pwrHealth 0) 1).setReg (Addr.bankEvents 2) 0x4000001) with frc := 77, mem := [(0x500000, 3), (0x600000, 3), (0x800000, 5)] }
def dn : State := st (fun x => { x with logicUp := false, released := false }) rich
def hib : State := cm (fun c => { c with power := .hibernate, digest := some 3 }) dn
def cimg (l : List (Nat × Word)) (s : State) : State := { s with image := l }
def hibr : State := cm (fun c => { c with kt := 99, xtalOk := true }) (rich.setReg Addr.cometHibCtrl 0x400)

theorem witness_StartUpRuns :
    (∃ (s : State), s.start.logicUp = false ∧ s.power.logicEn = true ∧ s.comet.vaon = true ∧ s.comet.power ≠
      .hibernate)
    ∧ (∃ (s : State), s.comet.power ≠ .hibernate)
    ∧ (∃ (s : State), s.comet.power = .hibernate ∧ s.start.released = false)
    ∧ (∃ (s : State), s.comet.power ≠ .hibernate)
    ∧ (∃ (s : State), s.comet.power = .hibernate)
    ∧ (∃ (s : State) (i : Initiator) (v : Word), s.ready i (Addr.globalResetCmd + 4) true = true ∧ s.armedAt
      Addr.globalResetCmd v = true ∧ bit v 0 = true)
    ∧ (∃ (s : State), s.host.perst = false ∧ s.start.logicUp = true)
    ∧ (∃ (s : State), s.start.logicUp = true ∧ s.start.phase = 3)
    ∧ (∃ (s : State) (ok : Bool), s.start.logicUp = true ∧ s.start.phase = 4 ∧ s.boot.fallback = false ∧ s.boot.sync =
      .idle ∧ s.start.bootMode = 0 ∧ s.start.crcRetry = false ∧ s.cacheOk ok = true)
    ∧ (∃ (s : State), s.start.logicUp = true ∧ s.start.phase = 4 ∧ s.boot.fallback = false ∧ s.boot.sync = .idle ∧
      s.start.bootMode = 2)
    ∧ (∃ (s : State), s.start.logicUp = true ∧ s.start.phase = 4 ∧ s.boot.fallback = false ∧ s.boot.sync = .idle ∧
      s.start.bootMode = 1)
    ∧ (∃ (s : State), s.start.logicUp = true ∧ s.start.phase = 5 ∧ s.start.retained = 0 ∧ s.image = [] ∧ s.canWakes = [] ∧ s.field Addr.globalRegionState 12 4 = 0 ∧ s.start.transitCause ≠ 3 ∧ s.declaredMismatch = false)
    ∧ (∃ (s : State) (a : Nat) (v : Word) (b : Block) (o : Nat) (r : RegRow), s.start.logicUp = true ∧ s.start.phase = 5 ∧ s.start.retained = 0 ∧ s.image = [(a, v)] ∧ s.canWakes = [] ∧ s.field Addr.globalRegionState 12 4 = 0 ∧ s.start.transitCause ≠ 3 ∧ s.declaredMismatch = false ∧ s.ready .boot a true = true ∧ locate a = some (b, o) ∧ plainBlock b = true ∧ regRow a = some r)
    ∧ (∃ (s : State), s.start.logicUp = true ∧ s.start.phase = 6 ∧ s.imageRef = none)
    ∧ (∃ (s : State) (ref : Word), s.start.logicUp = true ∧ s.start.phase = 7 ∧ s.imageRef = some ref)
    ∧ (∃ (s : State), s.start.logicUp = true ∧ s.start.phase = 8 ∧ s.start.released = false ∧ s.releaseCause = 0 ∧
      s.start.fatalRegions = [])
    ∧ (∃ (s : State), s.start.logicUp = true ∧ s.start.phase = 8 ∧ s.start.released = false ∧ s.start.transitCause ≠ 0
      ∧ s.ring.sync = .down)
    ∧ (∃ (s : State), s.start.released = true ∧ s.start.cacheWrite = true ∧ s.boot.running = 0)
    ∧ (∃ (s : State) (n : Nat), s.start.logicUp = true ∧ s.start.pcieFrom = some n ∧ s.start.configReady = false) :=
  ⟨⟨dn, by decide +kernel⟩,
   ⟨rich, by decide +kernel⟩,
   ⟨hib, by decide +kernel⟩,
   ⟨rich, by decide +kernel⟩,
   ⟨hib, by decide +kernel⟩,
   ⟨(arm rich Addr.globalResetCmd 1), (.core 1), 1, by decide +kernel⟩,
   ⟨({ rich with host := { rich.host with perst := false } }), by decide +kernel⟩,
   ⟨(ph 3), by decide +kernel⟩,
   ⟨({ ph 4 with cache := { valid := true, digest := Config.sha256 [] * 0 + State.reset.imgDigest activeSlot, rollback := 3, words := [(4, 5)] } }), false, by decide +kernel⟩,
   ⟨(st (fun x => { x with bootMode := 2 }) (ph 4)), by decide +kernel⟩,
   ⟨(st (fun x => { x with bootMode := 1 }) (ph 4)), by decide +kernel⟩,
   ⟨(ph 5), by decide +kernel⟩,
   ⟨(cimg [(Addr.classRule 5 0, 0xFFFFFFFF)] (en (ph 5) .ring)), (Addr.classRule 5 0), 0xFFFFFFFF, (((locate (Addr.classRule 5 0)).getD (Block.queueCommon, 0)).1), (((locate (Addr.classRule 5 0)).getD (Block.queueCommon, 0)).2), (rrow (Addr.classRule 5 0)), by decide +kernel⟩,
   ⟨(ph 6), by decide +kernel⟩,
   ⟨(cimg [(Addr.regifCfgCrcRef, 7)] (ph 7)), 7, by decide +kernel⟩,
   ⟨(((((ph 8).setReg Addr.globalRelease 0x204).setReg (Addr.svcCtrl 2) 2).setReg (Addr.svcUnitCtrl 2) 1 |>.setReg (Addr.svcResetPc 2) 0x40).setGroup 3 { sync := .on }), by decide +kernel⟩,
   ⟨((st (fun x => { x with transitCause := 1 }) (ph 8)).setGroup 3 { sync := .limiting, cmds := [true] }), by decide +kernel⟩,
   ⟨(cimg [(4, 5)] (st (fun x => { x with cacheWrite := true }) { base with boot := { base.boot with running := 0 } })), by decide +kernel⟩,
   ⟨(ph 4), 0, by decide +kernel⟩⟩

theorem witness_CometRuns :
    (∃ (s : State), s.feedOn = false)
    ∧ (∃ (s : State), s.feedOn = true ∧ s.power.logicEn = false)
    ∧ (∃ (s : State), s.start.logicUp = true ∧ (s.time.sync = .locked ∨ s.time.sync = .holdover))
    ∧ (∃ (s : State) (i : Initiator) (v : Word), s.ready i (Addr.cometHibCmd + 4) true = true ∧ s.armedAt
      Addr.cometHibCmd v = true ∧ bit v 0 = true ∧ s.comet.power = .run ∧ s.start.released = true ∧
      s.entryRefusal ≠ 0)
    ∧ (∃ (s : State) (i : Initiator) (v : Word), s.ready i (Addr.cometHibCmd + 4) true = true ∧ s.armedAt
      Addr.cometHibCmd v = true ∧ bit v 0 = true ∧ s.comet.power = .run ∧ s.start.released = true ∧
      s.entryRefusal = 0)
    ∧ (∃ (s : State), s.comet.power = .entering ∧ s.field Addr.cometHibCtrl 4 4 = 0 ∧ s.flag Addr.cometHibCtrl 0 =
      false)
    ∧ (∃ (s : State) (r : Fin 4), s.comet.power = .entering ∧ s.field Addr.cometHibCtrl 4 4 = 2 ^ r.val ∧ s.flag
      Addr.cometHibCtrl 0 = true ∧ s.power.logicEn = true)
    ∧ (∃ (s : State) (p : Fin 2), s.comet.power = .hibernate ∧ s.flag Addr.cometHibCtrl (8 + p.val) = true ∧
      s.comet.wokeAt = none)
    ∧ (∃ (s : State) (p : Fin 2), s.comet.power = .entering ∧ s.flag Addr.cometHibCtrl (8 + p.val) = true ∧
      s.start.released = true)
    ∧ (∃ (s : State) (held : Bool), (held = false ∨ s.flag Addr.cometHibCtrl 8 = false ∨ s.comet.power = .run))
    ∧ (∃ (s : State), s.comet.power = .hibernate ∧ s.flag Addr.cometHibCtrl 11 = true ∧ s.flag Addr.cometHibCtrl 0 =
      true ∧ s.ktAlarm = s.comet.kt.toNat ∧ s.comet.wokeAt = none)
    ∧ (∃ (s : State) (i : Initiator) (v : Word), s.ready i (Addr.cometMgmtCmd + 4) true = true ∧ s.armedAt
      Addr.cometMgmtCmd v = true ∧ bit v 0 = true)
    ∧ (∃ (s : State), s.mgmt.restart = true ∧ s.start.logicUp = true ∧ s.comet.power ≠ .hibernate) :=
  ⟨⟨rich, by decide +kernel⟩,
   ⟨(fd 1 .on (pw (fun p => { p with logicEn := false }) base)), by decide +kernel⟩,
   ⟨({ hibr with time := { hibr.time with sync := .locked } }), by decide +kernel⟩,
   ⟨(arm (hibr.setReg Addr.cometHibCtrl 0) Addr.cometHibCmd 1), (.core 1), 1, by decide +kernel⟩,
   ⟨(arm (hibr.setReg Addr.cometHibCtrl 0x400) Addr.cometHibCmd 1), (.core 1), 1, by decide +kernel⟩,
   ⟨(cm (fun c => { c with power := .entering }) hibr), by decide +kernel⟩,
   ⟨((cm (fun c => { c with power := .entering }) { (hibr.setReg Addr.cometHibCtrl 0x441).setReg (Addr.engCtrl 35) 4 with mem := [(0x700000, 4), (0x680000, 3), (0x780000, 6)] })), 2, by decide +kernel⟩,
   ⟨(hib.setReg Addr.cometHibCtrl 0x200), 1, by decide +kernel⟩,
   ⟨(cm (fun c => { c with power := .entering }) (hibr.setReg Addr.cometHibCtrl 0x100)), 0, by decide +kernel⟩,
   ⟨(hib.setReg Addr.cometHibCtrl 0x1100), false, by decide +kernel⟩,
   ⟨((cm (fun c => { c with kt := 0x100000005 }) hib).setReg Addr.cometHibCtrl 0x801 |>.setReg Addr.cometKtAlarmLo 5 |>.setReg Addr.cometKtAlarmHi 1), by decide +kernel⟩,
   ⟨(fd 0 .on (arm hibr Addr.cometMgmtCmd 1)), .mgmt, 1, by decide +kernel⟩,
   ⟨({ rich with mgmt := { rich.mgmt with restart := true } }), by decide +kernel⟩⟩

end P46

namespace P47

def bt (f : BootState → BootState) (s : State) : State := { s with boot := f s.boot }
def hv : State := base.setFeed 0 { sync := .on, voltage := 60000 }
def mm (l : List (Nat × Byte)) (s : State) : State := { s with mem := l }
def s0 : State := mm [(flashBase + hv.stagingSlot - 1, 3), (flashBase + hv.stagingSlot, 4), (flashBase + hv.stagingSlot + hv.slotSize, 5)] hv
def rc : State := bt (fun b => { b with sync := .receiving, owner := some (.core 1) }) s0
def xf : State := (rc.setReg Addr.bootXferLen 8).setReg Addr.bootXferOffset 4 |>.setReg (Addr.bootXferBuf 1) 0x12345678
def bz (j : Nat) (n : BootSync) : State := bt (fun b => { b with sync := .busy, job := j, next := n, owner := some (.core 1) }) s0
def tr : State := bt (fun b => { b with sync := .trial, priorHeld := true, priFormat := 3, elapsed := 700 }) s0
def roll : State := { bz 3 .staged with fuses := { s0.fuses with rollback := 5 }, mem := [(flashBase + s0.stagingSlot + 0x0C, 0xFC)] }

theorem witness_BootAndUpdateRun :
    (∃ (s : State) (i : Initiator) (v : Word), s.ready i (Addr.bootCmd + 4) true = true ∧ s.armedAt Addr.bootCmd v =
      true ∧ bits v 0 3 = 1 ∧ s.boot.sync = .idle ∧ s.boot.owner = none ∧ s.updateRefusal = 0)
    ∧ (∃ (s : State) (i : Initiator) (v : Word) (r : Nat), s.ready i (Addr.bootCmd + 4) true = true ∧ s.armedAt
      Addr.bootCmd v = true ∧ bits v 0 3 = 1 ∧ s.boot.sync ≠ .busy ∧ s.boot.owner = none ∧ s.updateRefusal = r ∧
      r ≠ 0)
    ∧ (∃ (s : State) (i : Initiator) (v : Word), s.ready i (Addr.bootCmd + 4) true = true ∧ s.armedAt Addr.bootCmd v =
      true ∧ bits v 0 3 = 2 ∧ s.boot.sync = .receiving ∧ s.boot.owner = some i ∧ s.field Addr.bootXferOffset 0
      27 + s.xferBytes.length ≤ s.slotSize)
    ∧ (∃ (s : State) (i : Initiator) (v : Word), s.ready i (Addr.bootCmd + 4) true = true ∧ s.armedAt Addr.bootCmd v =
      true ∧ bits v 0 3 = 3 ∧ s.boot.sync = .receiving ∧ s.boot.owner = some i ∧ s.updateRefusal = 0)
    ∧ (∃ (s : State) (i : Initiator) (v : Word), s.ready i (Addr.bootCmd + 4) true = true ∧ s.armedAt Addr.bootCmd v =
      true ∧ bits v 0 3 = 4 ∧ s.boot.sync ≠ .busy ∧ s.boot.owner = some i)
    ∧ (∃ (s : State) (i : Initiator) (o : Initiator) (v : Word), s.ready i (Addr.bootCmd + 4) true = true ∧ s.armedAt
      Addr.bootCmd v = true ∧ bits v 0 3 = 4 ∧ s.boot.sync ≠ .busy ∧ s.boot.owner = some o ∧ o ≠ i)
    ∧ (∃ (s : State), s.boot.sync = .busy ∧ s.boot.job = 1 ∧ s.usb.cmds = [])
    ∧ (∃ (s : State), s.boot.sync = .busy ∧ s.boot.job = 4 ∧ s.usb.cmds = [])
    ∧ (∃ (s : State), s.boot.sync = .busy ∧ s.boot.job = 3 ∧ s.usb.cmds = [])
    ∧ (∃ (s : State) (i : Initiator) (v : Word), s.ready i (Addr.bootLock + 4) true = true ∧ s.armedAt Addr.bootLock v
      = true)
    ∧ (∃ (s : State) (i : Initiator), s.ready i Addr.bootProtect true = true)
    ∧ (∃ (s : State) (i : Initiator) (v : Word), s.ready i (Addr.bootHealthConfirm + 4) true = true ∧ s.armedAt
      Addr.bootHealthConfirm v = true ∧ bit v 0 = true ∧ s.boot.sync = .trial ∧ s.boot.fallback = false)
    ∧ (∃ (s : State), s.boot.sync = .trial ∧ s.start.logicUp = true ∧ s.start.released = true)
    ∧ (∃ (s : State), s.boot.sync = .trial ∧ s.boot.fallback = false ∧ s.trialWindow ≤ s.boot.elapsed ∧ s.enabled .boot
      = true)
    ∧ (∃ (s : State) (i : Initiator), s.ready i Addr.bootSetData false = true ∧ s.boot.past = false ∧ s.stagedAt i
      Addr.bootSetData = none ∧ s.shadowAt i Addr.bootSetData = none)
    ∧ (∃ (s : State) (i : Initiator), s.ready i Addr.bootSetData true = true ∧ s.boot.past = false ∧ (s.boot.priorHeld
      = false ∨ s.flag Addr.bootSetAddr 18 = false))
    ∧ (∃ (s : State) (i : Initiator), s.ready i Addr.bootSetData true = true ∧ s.boot.past = true) :=
  ⟨⟨(arm s0 Addr.bootCmd 0xF9), (.core 1), 0xF9, by decide +kernel⟩,
   ⟨(arm (base.setReg Addr.bootLock 1) Addr.bootCmd 1), (.core 1), 1, 3, by decide +kernel⟩,
   ⟨(arm xf Addr.bootCmd 2), (.core 1), 2, by decide +kernel⟩,
   ⟨(arm rc Addr.bootCmd 3), (.core 1), 3, by decide +kernel⟩,
   ⟨(arm rc Addr.bootCmd 4), (.core 1), 4, by decide +kernel⟩,
   ⟨(arm rc Addr.bootCmd 4), (.core 2), (.core 1), 4, by decide +kernel⟩,
   ⟨(bz 1 .receiving), by decide +kernel⟩,
   ⟨(bz 4 .idle), by decide +kernel⟩,
   ⟨(bz 3 .staged), by decide +kernel⟩,
   ⟨(arm s0 Addr.bootLock 0xFFFFFFFF), (.core 2), 0xFFFFFFFF, by decide +kernel⟩,
   ⟨s0, .host, by decide +kernel⟩,
   ⟨(arm tr Addr.bootHealthConfirm 3), (.core 2), 3, by decide +kernel⟩,
   ⟨tr, by decide +kernel⟩,
   ⟨(en tr .boot), by decide +kernel⟩,
   ⟨(mm [(settingsBase + settingsSize + 0x10, 7)] (s0.setReg Addr.bootSetAddr 0x40010)), (.core 2), by decide +kernel⟩,
   ⟨(bt (fun b => { b with priorHeld := true }) (s0.setReg Addr.bootSetAddr 0x3FFFC)), (.core 2), by decide +kernel⟩,
   ⟨(bt (fun b => { b with past := true }) (s0.setReg Addr.bootSetAddr 0)), (.core 2), by decide +kernel⟩⟩

end P47

namespace P48

def rrow (a : Nat) : RegRow := (regRow a).getD ⟨0,0,0,.ro,0,0,false⟩
def lo (a : Nat) : Block × Nat := (locate a).getD (Block.queueCommon, 0)
def fm (sv : Severity) : FaultMsg := { src := sourceId (.engine 3), kind := 7, flags := 3, addr := 0x123456789ABC, sev := sv, since := 4, time := 0xABCDEF012345 }
def fb (sv : Severity) (ctrl : Word) (s : State) : State := { (s.setReg Addr.faultCtrl ctrl).setReg Addr.faultDefaultActions 0 with fault := { s.fault with msgs := [fm sv] } }
def rx (acts : Word) (s : State) : State := ((fb .fatal 0 s).setReg (Addr.faultReact0 5) 0x80000107).setReg (Addr.faultReact2 5) acts
def fl (f : FaultState → FaultState) (s : State) : State := { s with fault := f s.fault }
def hd : State := fl (fun x => { x with held := true, heldSev := .major, healthCleared := true, windowCount := 3 }) base
def rr : State := { (en base (.engine 3)) with frc := 9, mem := [(0x500000, 4)] }
def kr : Nat := Addr.classRule 5 0
def ka : BitVec 24 := BitVec.ofNat 24 (Addr.classRule 5 0)

theorem witness_FaultsAndManagementRun :
    (∃ (s : State) (m : FaultMsg), s.start.logicUp = true ∧ s.fault.msgs = [m] ∧ s.reactRow m.src m.kind = none ∧
      s.reg Addr.faultDefaultActions = 0 ∧ m.sev = .degraded ∧ s.fault.held = false ∧ s.flag Addr.faultEvents 2
      = false ∧ s.field Addr.faultCtrl 0 2 ≤ 1 ∧ s.field Addr.faultCtrl 2 2 ≤ 1 ∧ 1 < s.field Addr.faultCtrl 4 2)
    ∧ (∃ (s : State) (m : FaultMsg), s.start.logicUp = true ∧ s.fault.msgs = [m] ∧ s.reactRow m.src m.kind = none ∧
      s.reg Addr.faultDefaultActions = 0 ∧ m.sev = .note ∧ s.fault.heldSev ≠ .fatal ∧ 0 < s.field Addr.faultCtrl
      0 2 ∧ 0 < s.field Addr.faultCtrl 2 2)
    ∧ (∃ (s : State) (m : FaultMsg) (r : Nat), s.start.logicUp = true ∧ s.fault.msgs = [m] ∧ s.reactRow m.src m.kind =
      some r ∧ s.field (Addr.faultReact0 r) 9 3 = 0 ∧ s.reg (Addr.faultReact2 r) = 0x502 ∧ s.fault.heldSev ≠
      .fatal)
    ∧ (∃ (s : State) (m : FaultMsg) (r : Nat), s.start.logicUp = true ∧ s.fault.msgs = [m] ∧ s.reactRow m.src m.kind =
      some r ∧ s.field (Addr.faultReact0 r) 9 3 = 0 ∧ s.reg (Addr.faultReact2 r) = 0x600 ∧ s.fault.heldSev ≠
      .fatal ∧ s.boot.fallback = false)
    ∧ (∃ (s : State) (e : MirrorEntry) (r : List MirrorEntry), s.start.logicUp = true ∧ s.fault.mirrorWait = e :: r ∧
      e.warm = 0)
    ∧ (∃ (s : State) (e : MirrorEntry) (r : List MirrorEntry), s.start.logicUp = true ∧ s.fault.mirrorWait = e :: r ∧
      e.warm = 32)
    ∧ (∃ (s : State), s.start.logicUp = true ∧ s.fault.held = true ∧ s.fault.latched = false ∧ s.fault.quietFrom ≠ some
      s.now ∧ ((s.field Addr.faultCtrl 8 8 ≠ 0 ∧ s.field Addr.faultCtrl 8 8 ≤ s.fault.windowCount + 1) ∨
      (s.fault.heldSev = .fatal ∧ s.flag Addr.faultCtrl 7 = true)))
    ∧ (∃ (s : State), s.start.logicUp = true ∧ s.fault.held = true ∧ s.fault.latched = false ∧ s.fault.quietFrom ≠ some
      s.now ∧ (s.field Addr.faultCtrl 8 8 = 0 ∨ s.fault.windowCount + 1 < s.field Addr.faultCtrl 8 8) ∧
      (s.fault.heldSev ≠ .fatal ∨ s.flag Addr.faultCtrl 7 = false))
    ∧ (∃ (s : State), s.start.logicUp = true)
    ∧ (∃ (s : State) (i : Initiator) (v : Word), s.ready i (Addr.faultInject + 4) true = true ∧ s.armedAt
      Addr.faultInject v = true ∧ 1 ≤ bits v 0 4 ∧ bits v 0 4 ≤ 7)
    ∧ (∃ (s : State) (a : BitVec 24) (crc : Byte) (b : Block) (o : Nat), s.comet.vaon = true ∧ (s.flag
      Addr.cometHibCtrl 10 = false ∨ s.comet.power = .run) ∧ crc = crc8 (0x0B :: beBytes 3 a.toNat) ∧ a.toNat %
      4 = 0 ∧ s.mgmtServes a.toNat = true ∧ s.ready .mgmt a.toNat false = true ∧ locate a.toNat = some (b, o) ∧
      plainBlock b = true ∧ s.stagedAt .mgmt a.toNat = none ∧ s.shadowAt .mgmt a.toNat = none ∧ lowWordRead
      a.toNat = false)
    ∧ (∃ (s : State) (a : BitVec 24) (v : Word) (crc : Byte) (b : Block) (o : Nat) (r : RegRow), s.comet.vaon = true ∧
      (s.flag Addr.cometHibCtrl 10 = false ∨ s.comet.power = .run) ∧ crc = crc8 (0x02 :: (beBytes 3 a.toNat ++
      beBytes 4 v.toNat)) ∧ a.toNat % 4 = 0 ∧ s.mgmtServes a.toNat = true ∧ s.ready .mgmt a.toNat true = true ∧
      locate a.toNat = some (b, o) ∧ plainBlock b = true ∧ regRow a.toNat = some r)
    ∧ (∃ (s : State) (a : BitVec 24) (v : Word) (crc : Byte), s.comet.vaon = true ∧ (s.flag Addr.cometHibCtrl 10 =
      false ∨ s.comet.power = .run) ∧ (crc ≠ crc8 (0x02 :: (beBytes 3 a.toNat ++ beBytes 4 v.toNat)) ∨ a.toNat %
      4 ≠ 0))
    ∧ (∃ (s : State) (a : BitVec 24) (v : Word) (crc : Byte), s.comet.vaon = true ∧ (s.flag Addr.cometHibCtrl 10 =
      false ∨ s.comet.power = .run) ∧ crc = crc8 (0x02 :: (beBytes 3 a.toNat ++ beBytes 4 v.toNat)) ∧ a.toNat %
      4 = 0 ∧ s.mgmtServes a.toNat = false)
    ∧ (∃ (s : State) (v : Word) (w : Word) (crc : Byte), s.comet.vaon = true ∧ s.comet.power = .run ∧ s.start.logicUp =
      true ∧ s.feedOn = false ∧ (s.guard Addr.cometMgmtCmd).armed = none ∧ bit v 0 = true ∧ w = ~~~ v ∧ crc =
      crc8 (0x22 :: (beBytes 3 Addr.cometMgmtCmd ++ beBytes 4 v.toNat ++ beBytes 4 w.toNat)) ∧ s.isBusy .mgmt =
      false ∧ s.unitFenced .mgmt = false)
    ∧ (∃ (s : State), s.comet.vaon = true ∧ (s.flag Addr.cometHibCtrl 10 = false ∨ s.comet.power = .run))
    ∧ (∃ (s : State), s.comet.vaon = true ∧ (s.flag Addr.cometHibCtrl 10 = false ∨ s.comet.power = .run))
    ∧ (∃ (s : State) (a : BitVec 24) (v : Word) (crc : Byte) (b : Block) (o : Nat) (r : RegRow), s.comet.vaon = true ∧
      (s.flag Addr.cometHibCtrl 10 = false ∨ s.comet.power = .run) ∧ crc = crc8 (0x02 :: (beBytes 3 a.toNat ++
      beBytes 4 v.toNat)) ∧ a.toNat % 4 = 0 ∧ s.mgmtServes a.toNat = true ∧ s.ready .mgmt a.toNat true = true ∧
      locate a.toNat = some (b, o) ∧ plainBlock b = true ∧ regRow a.toNat = some r) :=
  ⟨⟨(fb .degraded 0x25 (base.setReg Addr.faultHistHead 0xFFFFFFFF)), (fm .degraded), by decide +kernel⟩,
   ⟨(fb .note 0x5 base), (fm .note), by decide +kernel⟩,
   ⟨(rx 0x502 (base.setGroup 3 { cmds := [true] })), (fm .fatal), 5, by decide +kernel⟩,
   ⟨(rx 0x600 rr), (fm .fatal), 5, by decide +kernel⟩,
   ⟨(fl (fun x => { x with mirrorWait := [⟨[1,2,3,4], 0⟩, ⟨[5,2,3,4], 0⟩] }) (base.setReg Addr.cometFaultHead 0xFFFFFFFF)), (⟨[1,2,3,4], 0⟩), ([⟨[5,2,3,4], 0⟩]), by decide +kernel⟩,
   ⟨(fl (fun x => { x with mirrorWait := [⟨[1,2,3,4], 32⟩, ⟨[5,2,3,4], 0⟩] }) (base.setReg Addr.cometFaultHead 0xFFFFFFFF)), (⟨[1,2,3,4], 32⟩), ([⟨[5,2,3,4], 0⟩]), by decide +kernel⟩,
   ⟨(hd.setReg Addr.faultCtrl 0x400), by decide +kernel⟩,
   ⟨(hd.setReg Addr.faultCtrl 0x5C0), by decide +kernel⟩,
   ⟨hd, by decide +kernel⟩,
   ⟨(arm hd Addr.faultInject 0x77), (.core 1), 0x77, by decide +kernel⟩,
   ⟨(base.setReg kr 0x12345678), ka, (crc8 (0x0B :: beBytes 3 ka.toNat)), ((lo kr).1), ((lo kr).2), by decide +kernel⟩,
   ⟨base, ka, 0xFFFFFFFF, (crc8 (0x02 :: (beBytes 3 ka.toNat ++ beBytes 4 0xFFFFFFFF))), ((lo kr).1), ((lo kr).2), (rrow kr), by decide +kernel⟩,
   ⟨base, ka, 1, 0, by decide +kernel⟩,
   ⟨({ base with start := { base.start with released := false } }), ka, 1, (crc8 (0x02 :: (beBytes 3 ka.toNat ++ beBytes 4 1))), by decide +kernel⟩,
   ⟨base, 1, 0xFFFFFFFE, (crc8 (0x22 :: (beBytes 3 Addr.cometMgmtCmd ++ beBytes 4 1 ++ beBytes 4 0xFFFFFFFE))), by decide +kernel⟩,
   ⟨base, by decide +kernel⟩,
   ⟨base, by decide +kernel⟩,
   ⟨base, ka, 0xFFFFFFFF, (crc8 (0x02 :: (beBytes 3 ka.toNat ++ beBytes 4 0xFFFFFFFF))), ((lo kr).1), ((lo kr).2), (rrow kr), by decide +kernel⟩⟩

end P48

namespace P49

def rrow (a : Nat) : RegRow := (regRow a).getD ⟨0,0,0,.ro,0,0,false⟩
def lo (a : Nat) : Block × Nat := (locate a).getD (Block.queueCommon, 0)
def kr : Nat := Addr.classRule 5 0
def hf (f : HostFence → HostFence) (s : State) : State := { s with hostFence := f s.hostFence }
def ho (f : HostState → HostState) (s : State) : State := { s with host := f s.host }
def tx (k : TxnKind) : Txn := { role := .own, code := 1, kind := k, who := .host, addr := BitVec.ofNat 48 (3 * 2^32 + 0x100 + 9 * 2 ^ 36), count := 2, data := [], cls := .c, order := 1, iseq := 1, pairKey := none, reissues := 3, waiting := false, first := 0, last := 0, sent := 2, returned := 0, entry := 0 }
def xw : State := (base.setReg (Addr.hostXlatLo 0) (1 + word (kr / 2 ^ 24 * 2 ^ 24))).setReg (Addr.hostXlatHi 0) (word (bits base.node 0 8 * 16 * 0 + ((localFabric 0).toNat / 2 ^ 32)))
def rw : State := let s := ((base.setReg Addr.ringCtrl 0x00040207).setLink .east { sync := .active, matched := true }).setLink .west { sync := .active, matched := true }; let s := (((s.setReg (Addr.ringOrder 0) 7).setReg (Addr.ringOrder 1) 3).setReg (Addr.ringOrder 2) 9).setReg (Addr.ringOrder 3) 12; let s := { s with ring := { s.ring with sync := .member } }; (((s.setReg (Addr.hostXlatLo 0) 1).setReg (Addr.hostXlatHi 0) (0x0093 + word (s.ringNo.toNat * 2 ^ 12))).setReg (Addr.ringPresent 0) 0x200)
def full32 : State := (List.range 32).foldl (fun s k => s.setTxn k (some (tx .read))) xw
def dm (c : Nat) (ctrl : Word) (x : DmaState) (s : State) : State := (((en s .host).setReg (Addr.hostDmaCtrl c) ctrl).setReg (Addr.hostDmaTail c) 9).setDma c x
def run : DmaState := { running := true, head := 3 }
def pc : PcieConfig := ⟨3, 4, true, true, false⟩
def npc : PcieConfig := ⟨3, 4, false, true, false⟩
def hq (p c : SourceId) (l : List QWord) : State := let s := openQ base 63 p c; s.setQueue 63 { s.queue 63 with words := l }

theorem witness_HostPortRuns :
    (∃ (s : State), s.ready .host Addr.hostFence true = true)
    ∧ (∃ (s : State), s.ready .host Addr.hostFence false = true ∧ s.hostFence.marked = true ∧ s.hostFenceDone = true)
    ∧ (∃ (s : State), s.ready .host Addr.hostFence false = true ∧ s.hostFence.marked = true ∧ s.hostFenceDone = false)
    ∧ (∃ (s : State), s.ready .host Addr.hostFence false = true ∧ s.hostFence.marked = false)
    ∧ (∃ (s : State), s.ready .host Addr.hostFence false = true ∧ s.hostFence.marked = true ∧ s.hostFence.reading =
      true ∧ s.hostFenceDone = true)
    ∧ (∃ (s : State) (off : BitVec 28) (bytes : Nat) (full : Bool) (k : Nat), s.start.logicUp = true ∧ s.windowKind
      (bits off 24 4) (s.windowAddr off) off false bytes full = some k)
    ∧ (∃ (s : State) (off : BitVec 28) (a : Nat) (b : Block) (o : Nat) (r : RegRow), s.start.logicUp = true ∧
      s.windowKind (bits off 24 4) (s.windowAddr off) off true 4 true = none ∧ s.isOwn (s.windowAddr off) = true
      ∧ faSpace (s.windowAddr off) = 0 ∧ a = faOffset (s.windowAddr off) ∧ s.ready .host a true = true ∧ locate
      a = some (b, o) ∧ plainBlock b = true ∧ regRow a = some r)
    ∧ (∃ (s : State) (off : BitVec 28), s.start.logicUp = true ∧ s.windowKind (bits off 24 4) (s.windowAddr off) off
      false 8 true = none ∧ s.isOwn (s.windowAddr off) = false ∧ s.hostLoads < 32 ∧ Store.wf (fun _ => none)
      s.bridge.tags = true)
    ∧ (∃ (s : State) (off : BitVec 28) (bytes : Nat) (full : Bool), s.start.logicUp = true ∧ s.windowKind (bits off 24
      4) (s.windowAddr off) off false bytes full = none ∧ 32 ≤ s.hostLoads)
    ∧ (∃ (s : State) (v : Fin 64), s.start.logicUp = true ∧ bit s.host.pba v.val = true ∧ s.host.config.msixEn = true ∧
      s.host.config.maskAll = false ∧ s.flag (Addr.msix v.val 3) 0 = false)
    ∧ (∃ (s : State) (v : Fin 64), (s.host.config.msixEn = false ∨ s.host.config.maskAll = true ∨ s.flag (Addr.msix
      v.val 3) 0 = true))
    ∧ (∃ (s : State) (i : Initiator), s.ready i Addr.hostDoorbell true = true ∧ i ≠ .host)
    ∧ (∃ (s : State), s.host.perst = true ∧ s.start.logicUp = true ∧ 4 ≤ s.start.phase ∧ s.host.up = false ∧
      s.host.config.busMaster = false)
    ∧ (∃ (s : State) (n : Fin 8) (c : PcieConfig), s.host.up = true ∧ s.host.config.busMaster = true ∧ c.busMaster =
      false ∧ (∀ k, k < 8 → s.dmaEn k = decide (k = n.val)) ∧ (s.dma n.val).running = true ∧ (s.dma n.val).part
      = false)
    ∧ (∃ (s : State) (i : Initiator) (c : Fin 8), s.ready i (Addr.hostDmaTail c.val) true = true)
    ∧ (∃ (s : State) (i : Initiator) (c : Fin 8) (v : Word), s.ready i (Addr.hostDmaCtrl c.val) true = true ∧ s.dmaEn
      c.val = false ∧ bit v 8 = true)
    ∧ (∃ (s : State) (i : Initiator) (c : Fin 8) (v : Word), s.ready i (Addr.hostDmaCtrl c.val) true = true ∧ s.dmaEn
      c.val = true ∧ bit v 8 = false ∧ (s.dma c.val).part = false)
    ∧ (∃ (s : State) (c : Fin 8) (addr : Dword) (ctl : Word) (w : QWord) (r : List QWord), s.start.logicUp = true ∧
      s.dmaRuns c.val false = true ∧ s.dmaGiven c.val = true ∧ (s.dma c.val).desc = none ∧ (s.dma c.val).moved =
      0 ∧ descOk addr ctl = true ∧ s.qConsumer (s.dmaQueue c.val) = sourceId .host ∧ s.qAvail (s.dmaQueue c.val)
      = true ∧ (s.queue (s.dmaQueue c.val)).words = w :: r ∧ w.mark = .last ∧ w.ecc = 0 ∧ bit ctl 18 = false ∧
      s.flag (Addr.hostDmaCtrl c.val) 7 = false ∧ (s.dma c.val).head % s.dmaRing c.val + 1 < s.dmaRing c.val ∧
      (s.dma c.val).head < s.dmaRing c.val)
    ∧ (∃ (s : State) (c : Fin 8) (addr : Dword) (ctl : Word), s.start.logicUp = true ∧ s.dmaRuns c.val false = true ∧
      s.dmaGiven c.val = true ∧ (s.dma c.val).desc = none ∧ descOk addr ctl = false ∧ (s.dma c.val).part = false)
    ∧ (∃ (s : State) (c : Fin 8) (addr : Dword) (ctl : Word), s.start.logicUp = true ∧ s.dmaRuns c.val true = true ∧
      s.dmaGiven c.val = true ∧ (s.dma c.val).desc = none ∧ (s.dma c.val).moved = 0 ∧ (s.dma c.val).head + 1 <
      s.dmaRing c.val ∧ addr.toNat % 4 = 0 ∧ bits ctl 0 16 = 4 ∧ bit ctl 16 = true ∧ bit ctl 17 = false ∧ bit
      ctl 18 = true ∧ s.flag (Addr.hostDmaCtrl c.val) 7 = false ∧ s.qOpen (s.dmaQueue c.val) = true ∧
      s.qProducer (s.dmaQueue c.val) = sourceId .host ∧ (s.queue (s.dmaQueue c.val)).dropping = false ∧ (s.queue
      (s.dmaQueue c.val)).popWait = 0 ∧ (s.queue (s.dmaQueue c.val)).words.length + 1 < s.qSize (s.dmaQueue
      c.val) ∧ s.fault.inject.armed = false)
    ∧ (∃ (s : State) (c : Fin 8) (k : Fin 5), s.start.logicUp = true ∧ s.dmaEn c.val = true ∧ (s.dma c.val).running =
      true ∧ (s.dma c.val).part = false ∧ k ≠ 0) :=
  ⟨⟨(hf (fun h => { h with covered := { fails := 254 }, later := { fails := 2, remote := true } }) base), by decide +kernel⟩,
   ⟨(hf (fun h => { h with marked := true, point := 3, covered := { fails := 2, remote := true } }) base), by decide +kernel⟩,
   ⟨((hf (fun h => { h with marked := true, point := 3 }) base).setTxn 5 (some (tx .posted))), by decide +kernel⟩,
   ⟨base, by decide +kernel⟩,
   ⟨(hf (fun h => { h with marked := true, reading := true, point := 3, covered := { fails := 2, remote := true } }) base), by decide +kernel⟩,
   ⟨base, 0x1000004, 4, true, 8, by decide +kernel⟩,
   ⟨xw, (BitVec.ofNat 28 kr), kr, ((lo kr).1), ((lo kr).2), (rrow kr), by decide +kernel⟩,
   ⟨rw, 0x100, by decide +kernel⟩,
   ⟨({ full32 with regs := xw.regs }), (BitVec.ofNat 28 kr), 4, true, by decide +kernel⟩,
   ⟨((ho (fun h => { h with config := pc, pba := BitVec.ofNat 64 (2 ^ 63 + 1) }) base).setReg (Addr.msix 63 3) 0), 63, by decide +kernel⟩,
   ⟨((ho (fun h => { h with config := pc, pba := BitVec.ofNat 64 (2 ^ 63 + 1) }) base)), 63, by decide +kernel⟩,
   ⟨(base.setReg (Addr.hostIrqMap 1) 0x85), (.core 1), by decide +kernel⟩,
   ⟨({ ho (fun h => { h with config := npc }) base with start := { base.start with phase := 4 } }), by decide +kernel⟩,
   ⟨(ho (fun h => { h with up := true, config := pc }) (dm 7 0x100 run base)), 7, npc, by decide +kernel⟩,
   ⟨base, (.core 1), 7, by decide +kernel⟩,
   ⟨base, (.core 1), 7, 0xFFFFFFFF, by decide +kernel⟩,
   ⟨(dm 7 0x100 { run with wait := [(3, .data)] } base), (.core 1), 7, 0x7F, by decide +kernel⟩,
   ⟨(dm 7 0x13F run (hq 0 (sourceId .host) [⟨77, .last, 0⟩, ⟨78, .data, 0⟩])), 7, 0x1000, 0x40, (⟨77, .last, 0⟩), ([⟨78, .data, 0⟩]), by decide +kernel⟩,
   ⟨(dm 7 0x13F run base), 7, 0x1001, 0x40, by decide +kernel⟩,
   ⟨(dm 7 0x17F run (hq (sourceId .host) 0 [])), 7, 0x1000, 0x50004, by decide +kernel⟩,
   ⟨(dm 7 0x13F run base), 7, 2, by decide +kernel⟩⟩

end P49

namespace P50

def rrow (a : Nat) : RegRow := (regRow a).getD ⟨0,0,0,.ro,0,0,false⟩
def lo (a : Nat) : Block × Nat := (locate a).getD (Block.queueCommon, 0)
def kr : Nat := Addr.classRule 5 0
def us (f : UsbState → UsbState) (s : State) : State := { s with usb := f s.usb }
def ub (y : UsbSync) : State := us (fun u => { u with sync := y, toggleOut := true, toggleIn := true, toggleHub := true, haltOut := true, haltIn := true, haltHub := true, alt := 1 }) ((en base .usb).setReg Addr.usbCtrl 0x1F)
def po (p : Nat) (x : PortSync) (s : State) : State := s.setUsbPort p { s.usbPort p with sync := x, vbus := true }
def fn : State := po 0 .enabled (ub .configured)
def cmd0 : UsbCmd := ⟨1, 2, 3, 4, [], true, []⟩
def rsm (x : PortSync) (p : Nat) (s : State) : State := s.setUsbPort p { s.usbPort p with sync := x, resetting := true, resuming := true }
def sus : State := us (fun u => { u with suspended := true, remoteWake := true, suspendAt := 3 }) (po 2 .suspended (ub .configured))
def bt (f : BootState → BootState) (s : State) : State := { s with boot := f s.boot }

theorem witness_UsbHubRuns :
    (∃ (s : State), s.start.logicUp = true ∧ s.usb.sync ≠ .detached)
    ∧ (∃ (s : State) (a : BitVec 7), s.usbAwake = true ∧ s.usb.sync = .default ∧ a ≠ 0)
    ∧ (∃ (s : State), s.usbAwake = true ∧ (s.usb.sync = .addressed ∨ s.usb.sync = .configured))
    ∧ (∃ (s : State), s.usbAwake = true ∧ (s.usb.sync = .addressed ∨ s.usb.sync = .configured))
    ∧ (∃ (s : State), s.usbFunction = true)
    ∧ (∃ (s : State), s.usbFunction = true)
    ∧ (∃ (s : State), s.usbFunction = true)
    ∧ (∃ (s : State), s.usbAwake = true)
    ∧ (∃ (s : State), s.usbAwake = true)
    ∧ (∃ (s : State), s.usbAwake = true)
    ∧ (∃ (s : State) (p : Fin 3), s.usbAwake = true ∧ s.usbPortEn p.val = true)
    ∧ (∃ (s : State) (p : Fin 3), s.usbAwake = true ∧ s.usbPortEn p.val = true ∧ (s.usbPort p.val).sync = .disabled)
    ∧ (∃ (s : State) (p : Fin 3), s.usbAwake = true ∧ s.usbPortEn p.val = true ∧ (s.usbPort p.val).sync = .enabled)
    ∧ (∃ (s : State) (p : Fin 3), s.usbAwake = true ∧ s.usbPortEn p.val = true ∧ (s.usbPort p.val).sync = .enabled)
    ∧ (∃ (s : State) (p : Fin 3), s.usbAwake = true ∧ s.usbPortEn p.val = true ∧ (s.usbPort p.val).sync = .suspended)
    ∧ (∃ (s : State) (p : Fin 3), s.start.logicUp = true ∧ s.usb.sync ≠ .detached ∧ s.usbPortEn p.val = true ∧
      (s.usbPort p.val).vbus = true ∧ (s.usbPort p.val).sync = .powered)
    ∧ (∃ (s : State) (p : Fin 3), s.start.logicUp = true ∧ (s.usbPort p.val).resetting = true)
    ∧ (∃ (s : State) (p : Fin 3), s.start.logicUp = true ∧ (s.usbPort p.val).resuming = true)
    ∧ (∃ (s : State) (p : Fin 3), s.start.logicUp = true ∧ p ≠ 0 ∧ s.usb.ports.length = 3)
    ∧ (∃ (s : State) (p : Fin 3), s.start.logicUp = true ∧ p ≠ 0)
    ∧ (∃ (s : State) (p : Fin 3), s.start.logicUp = true ∧ p ≠ 0 ∧ (s.usbPort p.val).sync = .enabled)
    ∧ (∃ (s : State), s.usbAwake = true ∧ s.usb.ports.length = 3)
    ∧ (∃ (s : State), s.start.logicUp = true ∧ s.usb.suspended = true ∧ s.usb.wakeAt = none)
    ∧ (∃ (s : State) (k : Nat), s.start.logicUp = true ∧ s.usb.suspended = true ∧ s.usb.wakeAt = some k ∧ s.clock ≤ k)
    ∧ (∃ (s : State) (p : Fin 3), s.start.logicUp = true ∧ p ≠ 0 ∧ (s.usbPort p.val).sync = .suspended ∧
      s.usb.suspended = true ∧ s.usb.remoteWake = true ∧ s.usb.wakeAt = none)
    ∧ (∃ (s : State) (audio : Bool), s.start.logicUp = true ∧ s.usb.suspended = true ∧ s.usb.remoteWake = true ∧
      s.usb.wakeAt = none ∧ (if audio = true then s.flag Addr.usbCtrl 4 && s.qAvail (s.field Addr.usbAudCtrl 0
      6) else s.flag Addr.usbCtrl 3 && s.flag Addr.faultEvents 0) = true)
    ∧ (∃ (s : State), s.start.logicUp = true) :=
  ⟨⟨(us (fun u => { u with cmds := [cmd0] }) (po 2 .enabled (ub .configured))), by decide +kernel⟩,
   ⟨(ub .default), 0x7F, by decide +kernel⟩,
   ⟨(ub .configured), by decide +kernel⟩,
   ⟨(ub .configured), by decide +kernel⟩,
   ⟨fn, by decide +kernel⟩,
   ⟨fn, by decide +kernel⟩,
   ⟨fn, by decide +kernel⟩,
   ⟨fn, by decide +kernel⟩,
   ⟨fn, by decide +kernel⟩,
   ⟨fn, by decide +kernel⟩,
   ⟨fn, 2, by decide +kernel⟩,
   ⟨(po 1 .disabled fn), 1, by decide +kernel⟩,
   ⟨(po 1 .enabled fn), 1, by decide +kernel⟩,
   ⟨(po 1 .enabled fn), 1, by decide +kernel⟩,
   ⟨(po 1 .suspended fn), 1, by decide +kernel⟩,
   ⟨(po 1 .powered fn), 1, by decide +kernel⟩,
   ⟨(rsm .disabled 1 fn), 1, by decide +kernel⟩,
   ⟨(rsm .suspended 2 fn), 2, by decide +kernel⟩,
   ⟨fn, 2, by decide +kernel⟩,
   ⟨(po 2 .enabled fn), 2, by decide +kernel⟩,
   ⟨(po 2 .enabled fn), 2, by decide +kernel⟩,
   ⟨(po 2 .disabled fn), by decide +kernel⟩,
   ⟨sus, by decide +kernel⟩,
   ⟨(us (fun u => { u with wakeAt := some 9 }) { sus with clock := 9 }), 9, by decide +kernel⟩,
   ⟨({ sus with clock := 2000004 }), 2, by decide +kernel⟩,
   ⟨((sus.setReg Addr.faultEvents 1)), false, by decide +kernel⟩,
   ⟨(us (fun u => { u with wakeAt := some 9 }) sus), by decide +kernel⟩⟩

theorem witness_UsbFunctionRuns :
    (∃ (s : State) (a : Word) (b : Block) (o : Nat), s.usbFunction = true ∧ s.usb.cmds = [] ∧ s.usb.mute = 0 ∧
      s.ready .usb a.toNat false = true ∧ locate a.toNat = some (b, o) ∧ plainBlock b = true ∧ s.stagedAt .usb
      a.toNat = none ∧ s.shadowAt .usb a.toNat = none ∧ lowWordRead a.toNat = false)
    ∧ (∃ (s : State) (op : Byte) (len : Half), s.usbFunction = true ∧ s.usb.cmds = [] ∧ s.usb.mute = 0 ∧ (op = 0x01 ∧
      (len = 0 ∨ 1024 < len.toNat) ∨ op ∉ [0x01, 0x02, 0x03, 0x10, 0x20, 0x21]))
    ∧ (∃ (s : State) (a : Word) (b : Block) (o : Nat) (r : RegRow), s.usbFunction = true ∧ s.usb.cmds = [] ∧ s.usb.mute
      = 0 ∧ s.ready .usb a.toNat true = true ∧ locate a.toNat = some (b, o) ∧ plainBlock b = true ∧ regRow
      a.toNat = some r)
    ∧ (∃ (s : State) (a : Word) (k : Nat), s.usbFunction = true ∧ s.usb.cmds = [] ∧ s.usb.mute = 0 ∧ s.accessKind .usb
      a.toNat 4 true = some k ∧ s.usbHeld a.toNat = false)
    ∧ (∃ (s : State), s.usbFunction = true ∧ s.usb.cmds = [] ∧ s.usb.mute = 0 ∧ s.ready .usb Addr.bootLock true = true
      ∧ s.ready .usb (Addr.bootLock + 4) true = true ∧ (s.guard Addr.bootLock).armed = none)
    ∧ (∃ (s : State) (arg : Word), s.usbFunction = true ∧ s.usb.cmds = [] ∧ s.usb.mute = 0 ∧ bit arg 16 = false)
    ∧ (∃ (s : State) (arg : Word), s.usbFunction = true ∧ s.usb.cmds = [] ∧ s.usb.mute = 0 ∧ bit arg 16 = true)
    ∧ (∃ (s : State) (off : Word), s.usbFunction = true ∧ s.usb.cmds = [] ∧ s.usb.bootWait = false ∧ s.ready .usb
      Addr.bootCmd true = true ∧ (s.guard Addr.bootCmd).armed = none ∧ s.boot.sync = .receiving ∧ s.boot.owner =
      some .usb ∧ bits off 0 27 + 4 ≤ s.slotSize ∧ bits off 0 2 = 0)
    ∧ (∃ (s : State) (arg : Word), s.usbFunction = true ∧ s.usb.cmds = [] ∧ s.usb.bootWait = false ∧ s.ready .usb
      Addr.bootCmd true = true ∧ (s.guard Addr.bootCmd).armed = none ∧ bits arg 0 3 = 4 ∧ s.boot.sync ≠ .busy ∧
      s.boot.owner = some .usb)
    ∧ (∃ (s : State) (arg : Word), s.usbFunction = true ∧ s.usb.cmds = [] ∧ s.usb.mute = 0 ∧ s.usb.bootWait = false ∧
      s.ready .usb Addr.bootCmd true = true ∧ (s.guard Addr.bootCmd).armed = none ∧ bits arg 0 3 = 4 ∧
      s.boot.sync = .idle ∧ s.boot.owner = none)
    ∧ (∃ (s : State), s.usbFunction = true ∧ (s.usb.alt = 0 ∨ s.qConsumer (s.field Addr.usbAudCtrl 0 6) ≠ sourceId
      .usb))
    ∧ (∃ (s : State) (q : Nat) (w : QWord), s.usbFunction = true ∧ s.usb.alt = 1 ∧ q = s.field Addr.usbAudCtrl 0 6 ∧
      s.qConsumer q = sourceId .usb ∧ s.qAvail q = true ∧ (s.queue q).words = [w] ∧ w.mark = .last ∧ w.ecc = 0 ∧
      s.audChannels = 1)
    ∧ (∃ (s : State), s.usbFunction = true ∧ s.usb.alt = 1)
    ∧ (∃ (s : State) (len : Half), s.usbFunction = true ∧ s.usb.cmds = [] ∧ s.usb.mute = 0 ∧ len ≠ 0) :=
  ⟨⟨(fn.setReg kr 0x12345678), (word kr), ((lo kr).1), ((lo kr).2), by decide +kernel⟩,
   ⟨fn, 1, 1025, by decide +kernel⟩,
   ⟨fn, (word kr), ((lo kr).1), ((lo kr).2), (rrow kr), by decide +kernel⟩,
   ⟨fn, 0x00FE0001, 3, by decide +kernel⟩,
   ⟨fn, by decide +kernel⟩,
   ⟨(fn.setReg (Addr.faultHist 31 2) 77), 0xFFFF, by decide +kernel⟩,
   ⟨(fn.setReg (Addr.cometFault 15 2) 77), 0x1FFFF, by decide +kernel⟩,
   ⟨(bt (fun b => { b with sync := .receiving, owner := some .usb }) fn), 0x14, by decide +kernel⟩,
   ⟨(bt (fun b => { b with sync := .receiving, owner := some .usb }) fn), 0xC, by decide +kernel⟩,
   ⟨fn, 0xC, by decide +kernel⟩,
   ⟨(us (fun u => { u with alt := 0 }) fn), by decide +kernel⟩,
   ⟨((let t := openQ (fn.setReg Addr.usbAudCtrl 0) 0 0 (sourceId .usb); t.setQueue 0 { t.queue 0 with words := [⟨0x80123456, .last, 0⟩] })), 0, (⟨0x80123456, .last, 0⟩), by decide +kernel⟩,
   ⟨fn, by decide +kernel⟩,
   ⟨fn, 1, by decide +kernel⟩⟩

end P50

namespace P60

def lat (a : Nat) : Block × Nat := (locate a).getD (.global, 0)
def rrow (a : Nat) : RegRow := (regRow a).getD ⟨0,0,0,.ro,0,0,false⟩
def pre : State := State.reset
def rt (v : Word) : State := { base with frc := 0xFFFFFFFFFFF, time := { base.time with offset := 0xFFFFFFFFFFFFFFFFFFFF } }.setReg Addr.timeRate v

theorem witness_StepRunsTheFrontCommand :
    (∃ (s : State) (c : Instr) (r : List Instr), s.pending = c :: r)
    ∧ (∃ (s : State), s.pending = [] ∧ s.bridge.edge = [] ∧ s.bridge.mem = [] ∧ s.bridge.memBlocked = [] ∧
      s.start.logicUp = true) :=
  ⟨⟨({ base with pending := [.fenceL 0, .fenceL 1] }), (.fenceL 0), ([.fenceL 1]), by decide +kernel⟩,
   ⟨base, by decide +kernel⟩⟩

theorem witness_SequenceClearedWrites :
    (∃ (s : State) (i : Initiator) (addr : Word) (v : Word), s.ready i addr.toNat true = true ∧ (addr.toNat ∈ sqWords
      ∨ ((List.range 8).any fun c => addr.toNat == Addr.hostDmaStatus c && !s.dmaEn c) = true) ∧
      (s.fuses.pairCapable = false → addr.toNat ≠ Addr.pairEvents ∧ addr.toNat ≠ Addr.linkEvents 2) ∧ bits v 0
      24 ≠ 0 ∧ bits v 24 8 = s.field addr.toNat 24 8)
    ∧ (∃ (s : State) (i : Initiator) (addr : Word) (v : Word), s.ready i addr.toNat true = true ∧ (addr.toNat ∈ sqWords
      ∨ ((List.range 8).any fun c => addr.toNat == Addr.hostDmaStatus c && !s.dmaEn c) = true) ∧
      (s.fuses.pairCapable = false → addr.toNat ≠ Addr.pairEvents ∧ addr.toNat ≠ Addr.linkEvents 2) ∧ bits v 0
      24 ≠ 0 ∧ bits v 24 8 ≠ s.field addr.toNat 24 8)
    ∧ (∃ (s : State) (i : Initiator) (addr : Word) (v : Word), s.ready i addr.toNat true = true ∧ (addr.toNat ∈ sqWords
      ∨ ((List.range 8).any fun c => addr.toNat == Addr.hostDmaStatus c && !s.dmaEn c) = true) ∧
      (s.fuses.pairCapable = false → addr.toNat ≠ Addr.pairEvents ∧ addr.toNat ≠ Addr.linkEvents 2) ∧ bits v 0
      24 = 0)
    ∧ (∃ (s : State) (i : Initiator) (addr : Word), s.ready i addr.toNat true = true ∧ s.fuses.pairCapable = false ∧
      (addr.toNat = Addr.pairEvents ∨ addr.toNat = Addr.linkEvents 2)) :=
  ⟨⟨(base.setReg (Addr.qEvents 63) 0xFF000007), .usb, (word (Addr.qEvents 63)), 0xFF000005, by decide +kernel⟩,
   ⟨(base.setReg (Addr.qEvents 63) 0xFF000007), .usb, (word (Addr.qEvents 63)), 0xFE000005, by decide +kernel⟩,
   ⟨(base.setReg (Addr.qEvents 63) 0xFF000007), .usb, (word (Addr.qEvents 63)), 0xFF000000, by decide +kernel⟩,
   ⟨({ base with fuses := { base.fuses with pairCapable := false } }), .usb, (word Addr.pairEvents), by decide +kernel⟩⟩

theorem witness_RateChangesKeepFabricTime :
    (∃ (s : State) (i : Initiator), s.ready i Addr.timeRate true = true ∧ s.time.source = 0)
    ∧ (∃ (new : Int), -(2 ^ 31) ≤ new ∧ new < 2 ^ 31) :=
  ⟨⟨(rt 0x80000000), .mgmt, by decide +kernel⟩,
   ⟨(-2147483648), by decide +kernel⟩⟩

theorem witness_RefusedAccessesChangeNothing :
    (∃ (s : State) (i : Initiator) (addr : Word) (size : Nat) (k : Nat), s.accessKind i addr.toNat size true = some k)
    ∧ (∃ (size : Nat), size < 4)
    ∧ (∃ (size : Nat), 4 < size)
    ∧ (∃ (a : Nat), a % 4 ≠ 0)
    ∧ (∃ (a : Nat), a % 4 = 0 ∧ regRow a = none)
    ∧ (∃ (s : State) (i : Initiator) (a : Nat) (b : Block) (o : Nat) (r : RegRow), a % 4 = 0 ∧ locate a = some (b, o) ∧
      regRow a = some r ∧ s.unimplemented i b = false)
    ∧ (∃ (s : State) (i : Initiator) (a : Nat) (b : Block) (o : Nat) (r : RegRow) (u : HubUnit) (w : Bool), a % 4 = 0 ∧
      locate a = some (b, o) ∧ regRow a = some r ∧ s.unimplemented i b = false ∧ (w = true → r.acc ≠ .ro) ∧ (w =
      false → r.acc ≠ .wo) ∧ blockOwner b = some u) :=
  ⟨⟨base, .host, 0x00000001, 4, 3, by decide +kernel⟩,
   ⟨3, by decide +kernel⟩,
   ⟨8, by decide +kernel⟩,
   ⟨2, by decide +kernel⟩,
   ⟨0xFFFFFC, by decide +kernel⟩,
   ⟨base, .usb, 0x010020, ((lat 0x010020).1), ((lat 0x010020).2), (rrow 0x010020), by decide +kernel⟩,
   ⟨(base.setReg Addr.globalRegionState 0xF), .usb, (Addr.svcCtrl 0), ((lat (Addr.svcCtrl 0)).1), ((lat (Addr.svcCtrl 0)).2), (rrow (Addr.svcCtrl 0)), (.core 0), true, by decide +kernel⟩⟩

theorem witness_AccessesBeforeRelease :
    (∃ (s : State) (i : Initiator) (a : Nat) (b : Block) (o : Nat), s.start.released = false ∧ (i = .host ∨ i = .usb ∨ i = .mgmt ∨ initCode i = 9) ∧ a % 4 = 0 ∧ locate a = some (b, o) ∧ (match b with | .global | .regif | .fault | .boot | .host | .msix _ | .pba | .usb | .comet => false | _ => true) = true)
    ∧ (∃ (s : State) (i : Initiator) (addr : Word), s.start.released = false ∧ (i = .host ∨ i = .usb ∨ i = .mgmt ∨ initCode i = 9) ∧ addr.toNat % 4 = 0 ∧ (match (locate addr.toNat).map Prod.fst with | some .global | some .regif | some .fault | some .boot | some .host | some (.msix _) | some .pba | some .usb | some .comet => false | _ => true) = true)
    ∧ (∃ (s : State) (a : Nat) (b : Block) (o : Nat), s.start.released = false ∧ locate a = some (b, o) ∧ (match b with | .global | .regif | .fault | .boot | .host | .msix _ | .pba | .usb | .comet => true | _ => false) = true)
    ∧ (∃ (s : State) (i : Initiator), s.start.released = false ∧ (i ≠ .host ∧ i ≠ .usb ∧ i ≠ .mgmt ∧ initCode i ≠ 9)) :=
  ⟨⟨pre, (.remote 2 3), Addr.timeRate, .time, ((lat Addr.timeRate).2), by decide +kernel⟩,
   ⟨pre, .usb, 0x00030000, by decide +kernel⟩,
   ⟨pre, Addr.bootProtect, .boot, 0x2C, by decide +kernel⟩,
   ⟨pre, (.core 0), by decide +kernel⟩⟩

theorem witness_ProtectionActiveIsTheHosts :
    (∃ (s : State), s.ready .host Addr.bootProtect true = true)
    ∧ (∃ (i : Initiator), i ≠ .host)
    ∧ (∃ (i : Initiator), i ≠ .host)
    ∧ (∃ (s : State), s.comet.power ≠ .hibernate)
    ∧ (∃ (s : State), s.comet.power ≠ .hibernate) :=
  ⟨⟨base, by decide +kernel⟩,
   ⟨(.core 1), by decide +kernel⟩,
   ⟨.usb, by decide +kernel⟩,
   ⟨(base.setReg Addr.bootProtect 1), by decide +kernel⟩,
   ⟨(base.setReg Addr.bootProtect 1), by decide +kernel⟩⟩

theorem witness_CodeWordsRoundTrip :
    (∃ (i : PInstr), i.wf = true)
    ∧ (∃ (w : Half) (i : PInstr), decodeP w = some i)
    ∧ (∃ (i : SInstr), i.wf = true)
    ∧ (∃ (w : Word) (i : SInstr), decodeS w = some i) :=
  ⟨⟨(.mov 6 6 3), by decide +kernel⟩,
   ⟨0x8DB0, (.mov 6 6 3), by decide +kernel⟩,
   ⟨(.stamp 30 0), by decide +kernel⟩,
   ⟨(encodeS (.stamp 30 0)), (.stamp 30 0), by decide +kernel⟩⟩

theorem witness_MemoryStaysCanonical :
    (∃ (s : State), Memory.wf s.mem = true) :=
  ⟨State.reset, by decide +kernel⟩

end P60

end Sys2Proof.Tests
end

section
/-! Writes to sequence-cleared registers (R46, R47): which word of which block is one, that the block's write of it is
`sqWrite` and nothing else, and what `sqWrite` does in its three cases. -/

namespace Sys2Proof.Machine

/-! ### What `sqWrite` does -/

/-- The flags that the mask of a clear names, as a word. -/
theorem ofNat_bits_low24 (v : Word) : BitVec.ofNat 32 (bits v 0 24) = v &&& 0xFF_FFFF := by
  have hmask : (0xFF_FFFF : Word).toNat = 2 ^ 24 - 1 := rfl
  apply BitVec.eq_of_toNat_eq
  rw [BitVec.toNat_ofNat, BitVec.toNat_and, hmask, Nat.and_two_pow_sub_one_eq_mod, bits, Nat.shiftRight_zero]
  exact Nat.mod_eq_of_lt (by omega)

theorem State.sqWrite_of_mask_zero {s : State} {a : Nat} {v : Word} (hm : bits v 0 24 = 0) : s.sqWrite a v = s :=
  if_pos hm

theorem State.sqWrite_of_seq_eq {s : State} {a : Nat} {v : Word} (hm : bits v 0 24 ≠ 0)
    (hq : bits v 24 8 = s.field a 24 8) : s.sqWrite a v = s.setReg a (s.reg a &&& ~~~ (v &&& 0xFF_FFFF)) := by
  rw [State.sqWrite, if_neg hm, if_pos hq, ofNat_bits_low24]

theorem State.sqWrite_of_stale {s : State} {a : Nat} {v : Word} (hm : bits v 0 24 ≠ 0)
    (hq : bits v 24 8 ≠ s.field a 24 8) :
    s.sqWrite a v = (s.inc Addr.regifStaleClearCount).setReg Addr.regifStaleClearAddr (word a) := by
  rw [State.sqWrite, if_neg hm, if_neg hq]

/-- A clear whose SEQ is the register's clears the flags of its mask and leaves every other word (R47). -/
theorem State.sqWrite_clears {s : State} {a : Nat} {v : Word} (hm : bits v 0 24 ≠ 0)
    (hq : bits v 24 8 = s.field a 24 8) :
    RegsBut [a] s (s.sqWrite a v) ∧ (s.sqWrite a v).reg a = s.reg a &&& ~~~ (v &&& 0xFF_FFFF) := by
  rw [State.sqWrite_of_seq_eq hm hq]
  refine ⟨fun x hx => ?_, by simp⟩
  rw [State.reg_setReg, if_neg (by simpa using hx)]

/-- A stale clear is counted and logged and leaves every other word (R47). -/
theorem State.sqWrite_logs {s : State} {a : Nat} {v : Word} (hm : bits v 0 24 ≠ 0)
    (hq : bits v 24 8 ≠ s.field a 24 8) :
    RegsBut [Addr.regifStaleClearCount, Addr.regifStaleClearAddr] s (s.sqWrite a v)
      ∧ (s.sqWrite a v).reg Addr.regifStaleClearCount = satAdd (s.reg Addr.regifStaleClearCount) 1
      ∧ (s.sqWrite a v).reg Addr.regifStaleClearAddr = word a := by
  have hne : Addr.regifStaleClearCount ≠ Addr.regifStaleClearAddr := by decide
  rw [State.sqWrite_of_stale hm hq]
  refine ⟨fun x hx => ?_, by simp [hne], by simp⟩
  obtain ⟨hcount, haddr⟩ : x ≠ Addr.regifStaleClearCount ∧ x ≠ Addr.regifStaleClearAddr := by simpa using hx
  rw [State.reg_setReg, if_neg haddr, State.reg_inc, if_neg hcount]

/-- A clear moves register words only. -/
theorem State.sqWrite_eq_regs (s : State) (a : Nat) (v : Word) :
    s.sqWrite a v = { s with regs := (s.sqWrite a v).regs } := by
  by_cases hm : bits v 0 24 = 0
  · rw [State.sqWrite_of_mask_zero hm]
  · by_cases hq : bits v 24 8 = s.field a 24 8
    · rw [State.sqWrite_of_seq_eq hm hq, State.setReg]
    · rw [State.sqWrite_of_stale hm hq, State.inc, State.addTo, State.setReg, State.setReg]

/-- It is the same whether the answer leaves before or after the clear. -/
theorem State.sqWrite_written (s : State) (i : Initiator) (a : Nat) (r : AccessResult) (v : Word) :
    { (s.unlatched i a).sqWrite a v with out := .access i a r :: ((s.unlatched i a).sqWrite a v).out }
      = (s.written i a r).sqWrite a v := by
  have hf : (s.unlatched i a).field a 24 8 = (s.written i a r).field a 24 8 := rfl
  by_cases hm : bits v 0 24 = 0
  · rw [State.sqWrite_of_mask_zero hm, State.sqWrite_of_mask_zero hm, State.written, State.unlatched]
  · by_cases hq : bits v 24 8 = (s.written i a r).field a 24 8
    · rw [State.sqWrite_of_seq_eq hm hq, State.sqWrite_of_seq_eq hm (hf ▸ hq)]; rfl
    · rw [State.sqWrite_of_stale hm hq, State.sqWrite_of_stale hm (hf ▸ hq)]; rfl

/-! ### Which words are sequence-cleared -/

/-- The word at `a` is HOST_DMA_STATUS of a channel whose EN is 0, where no flag is kept back from a clear (R462). -/
def State.idleDmaStatus (s : State) (a : Nat) : Bool :=
  (List.range 8).any fun c => a == Addr.hostDmaStatus c && !s.dmaEn c

theorem State.idleDmaStatus_iff (s : State) (a : Nat) :
    s.idleDmaStatus a = true ↔ ∃ c < 8, a = Addr.hostDmaStatus c ∧ s.dmaEn c = false := by
  simp [State.idleDmaStatus]

/-- The sequence-cleared words of a block, those of the DMA channels left out (R46). -/
def blockSqWords : Block → List Nat
  | .global => [Addr.globalResetCause]
  | .regif => [Addr.regifBerrStatus]
  | .fault => [Addr.faultEvents]
  | .time => [Addr.timeEvents]
  | .angle => [Addr.angleEvents]
  | .ephem => [Addr.ephemEvents]
  | .bank n => [Addr.bankEvents n]
  | .engine e => [Addr.engEvents e]
  | .uart u => [Addr.uartEvents u]
  | .can n => [Addr.canEvents n]
  | .link l => [linkReg (portOf (fin 2 l)) Addr.linkEvents]
  | .ring => [Addr.ringEvents]
  | .bridge => [Addr.bridgeEvents, Addr.bridgeTxnStatus, Addr.bridgePwfStatus]
  | .sta p => [Addr.staEvents p, Addr.staGateEvents p, Addr.prpEvents p]
  | .switch => [Addr.swEvents]
  | .capture c => [Addr.capEvents c]
  | .traffic => [Addr.trfEvents]
  | .classify => [Addr.classEvents]
  | .core n => [Addr.svcEvents n]
  | .queue q => [Addr.qEvents q]
  | .pair => [Addr.pairEvents]
  | .feed f => [Addr.feedEvents f]
  | .group g => [Addr.grpEvents g]
  | .therm k => [Addr.thermEvents k]
  | .boot => [Addr.bootEvents]
  | .host => [Addr.hostEvents]
  | .usb => [Addr.usbEvents]
  | .dram => [Addr.dramEvents]
  | .comet => [Addr.cometWakeStatus, Addr.cometMgmtEvents]
  | _ => []

/-- Every sequence-cleared word lies in the block whose word it is, and its row has access SQ (R5, R58). -/
theorem sqWords_located : ∀ a ∈ sqWords, hasAccess a .sq = true
    ∧ ((locate a).any fun p => decide (a ∈ blockSqWords p.1)) = true := by
  decide +kernel

theorem exists_block_of_mem_sqWords {a : Nat} (h : a ∈ sqWords) :
    ∃ b o, locate a = some (b, o) ∧ a ∈ blockSqWords b := by
  obtain ⟨⟨b, o⟩, hl, hb⟩ := (Option.any_eq_true _ _).1 (sqWords_located a h).2
  exact ⟨b, o, hl, of_decide_eq_true hb⟩

theorem hostDmaStatus_located : ∀ c < 8, hasAccess (Addr.hostDmaStatus c) .sq = true
    ∧ (locate (Addr.hostDmaStatus c)).map Prod.fst = some .host := by
  decide +kernel

/-- No sequence-cleared word is a half of a 64-bit value (R43). -/
theorem lowWordWrite_sqWords : ∀ a ∈ sqWords, lowWordWrite a = false ∧ lowWordWrite (a - 4) = false := by
  decide +kernel

theorem hasAccess_iff (a : Nat) (c : Access) : hasAccess a c = true ↔ ∃ r, regRow a = some r ∧ r.acc = c := by
  unfold hasAccess
  cases regRow a <;> simp

/-- Every UNIT_CTRL is an ordinary word (R11). -/
theorem hasAccess_unitCtrl_sq (u : HubUnit) : hasAccess (unitCtrl u) .sq = false := by
  cases u with
  | engine e => revert e; decide +kernel
  | bank n => revert n; decide +kernel
  | uart u => revert u; decide +kernel
  | can n => revert n; decide +kernel
  | core n => revert n; decide +kernel
  | queue q => revert q; decide +kernel
  | link l => revert l; decide +kernel
  | sta p => revert p; decide +kernel
  | feed f => revert f; decide +kernel
  | group g => revert g; decide +kernel
  | therm k => revert k; decide +kernel
  | _ => decide +kernel

theorem ne_unitCtrl_of_sq {a : Nat} (h : hasAccess a .sq = true) (u : HubUnit) : a ≠ unitCtrl u := by
  rintro rfl
  exact Bool.false_ne_true ((hasAccess_unitCtrl_sq u).symm.trans h)

theorem ne_bootSetData_of_sq {a : Nat} (h : hasAccess a .sq = true) : a ≠ Addr.bootSetData := by
  rintro rfl
  exact absurd h (by decide +kernel)

/-! ### The write of a sequence-cleared word -/

/-- The end of a write to a sequence-cleared word is its block's write, whether the unit is present or not. -/
theorem State.writeReg_sq {s : State} {i : Initiator} {b : Block} {a : Nat} {v : Word} (h : hasAccess a .sq = true) :
    s.writeReg i b a v = (.done, (s.unlatched i a).writeBlock i b a v) := by
  obtain ⟨r, hr, ha⟩ := (hasAccess_iff a .sq).1 h
  cases hu : blockOwner b with
  | none => exact State.writeReg_unowned hr (by simp [ha]) (by simp [ha]) hu
  | some u =>
    cases hp : s.unitAbsent u with
    | false =>
      exact State.writeReg_ordinary hr (by simp [ha]) (by simp [ha]) hu hp (ne_unitCtrl_of_sq h u) (ne_bootSetData_of_sq h)
    | true =>
      simp only [State.writeReg, hr, hu]
      exact if_pos hp

/-- A ready command of a sequence-cleared write completes with its block's write and the answer (R39). -/
theorem exec_sqClearWrite {s t : State} {i : Initiator} {addr v : Word} {b : Block} {o : Nat}
    (h : s.ready i addr.toNat true = true) (hl : locate addr.toNat = some (b, o)) (hq : hasAccess addr.toNat .sq = true)
    (hw : (s.unlatched i addr.toNat).writeBlock i b addr.toNat v = t) :
    exec (.sqClearWrite i addr v) s = .next { t with out := .access i addr.toNat .done :: t.out } := by
  have hr : s.writeReg i b addr.toNat v = (.done, t) := by rw [State.writeReg_sq hq, hw]
  calc exec (.sqClearWrite i addr v) s = .next (s.writeAnswer i addr.toNat 4 v) := if_pos hq
    _ = _ := by rw [State.writeAnswer_done h hl hr]

/-- The blocks of the power die tell a sequence-cleared word by its row. -/
theorem State.writeBlock_power_sq {s : State} {i : Initiator} {b : Block} {a : Nat} {v : Word}
    (hb : powerBlock b = true) (hq : hasAccess a .sq = true) : s.writeBlock i b a v = s.sqWrite a v := by
  obtain ⟨r, hr, ha⟩ := (hasAccess_iff a .sq).1 hq
  cases b with
  | feed f => simp [State.writeBlock, hr, ha]
  | group g => simp [State.writeBlock, hr, ha]
  | therm k => simp [State.writeBlock, hr, ha]
  | _ => simp [powerBlock] at hb

/-- The link's registers are there: only an MH820-S lacks those of the PAIR link (R2, R212). -/
theorem State.pairOff_eq_false {s : State} {l : Port}
    (h : s.fuses.pairCapable = false → linkReg l Addr.linkEvents ≠ Addr.linkEvents 2) : s.pairOff l = false := by
  unfold State.pairOff
  cases hc : s.fuses.pairCapable with
  | true => simp
  | false =>
    have hl : l ≠ .pair := by
      rintro rfl
      exact h hc rfl
    simp [hl]

/-- The word at `a` is not a sequence-cleared register of a unit that this hub lacks (R2, R212, R373). -/
def State.sqPresent (s : State) (a : Nat) : Prop :=
  s.fuses.pairCapable = false → a ≠ Addr.pairEvents ∧ a ≠ Addr.linkEvents 2

/-- Each block's write of its sequence-cleared word is a clear and nothing else (R47). -/
theorem State.writeBlock_sqWords {s : State} {i : Initiator} {b : Block} {a : Nat} {v : Word} (hs : a ∈ sqWords)
    (hb : a ∈ blockSqWords b) (hp : s.sqPresent a) : s.writeBlock i b a v = s.sqWrite a v := by
  have hq : hasAccess a .sq = true := (sqWords_located a hs).1
  cases b with
  | global => exact if_pos (List.mem_singleton.1 hb)
  | regif => exact if_pos (List.mem_singleton.1 hb)
  | fault => exact if_pos (List.mem_singleton.1 hb)
  | time => obtain rfl := List.mem_singleton.1 hb; rfl
  | angle => obtain rfl := List.mem_singleton.1 hb; rfl
  | ephem => obtain rfl := List.mem_singleton.1 hb; rfl
  | bank n => exact if_pos (List.mem_singleton.1 hb)
  | engine e => exact if_pos (List.mem_singleton.1 hb)
  | uart u => exact if_pos (List.mem_singleton.1 hb)
  | can n => exact if_pos (List.mem_singleton.1 hb)
  | link l =>
    obtain rfl := List.mem_singleton.1 hb
    have hon : s.pairOff (portOf (fin 2 l)) = false := State.pairOff_eq_false fun hc => (hp hc).2
    simp [State.writeBlock, State.linkWrite, hon]
  | ring => exact if_pos (List.mem_singleton.1 hb)
  | bridge => exact if_pos (by simpa [blockSqWords] using hb)
  | sta p =>
    obtain ⟨hlo, hhi⟩ := lowWordWrite_sqWords a hs
    have hev : a = Addr.staEvents p ∨ a = Addr.staGateEvents p ∨ a = Addr.prpEvents p := by
      simpa [blockSqWords] using hb
    simp [State.writeBlock, State.staWrite, hlo, hhi, hev]
  | switch => exact if_pos (List.mem_singleton.1 hb)
  | capture c => exact if_pos (List.mem_singleton.1 hb)
  | traffic => exact if_pos (List.mem_singleton.1 hb)
  | classify => exact if_pos (List.mem_singleton.1 hb)
  | core n => exact if_pos (List.mem_singleton.1 hb)
  | queue q => exact if_pos (List.mem_singleton.1 hb)
  | pair =>
    obtain rfl := List.mem_singleton.1 hb
    have hon : s.fuses.pairCapable = true :=
      (Bool.eq_false_or_eq_true s.fuses.pairCapable).resolve_right fun hc => (hp hc).1 rfl
    simp [State.writeBlock, State.pairWrite, hon]
  | feed f => exact State.writeBlock_power_sq rfl hq
  | group g => exact State.writeBlock_power_sq rfl hq
  | therm k => exact State.writeBlock_power_sq rfl hq
  | boot => exact if_pos (List.mem_singleton.1 hb)
  | host => exact if_pos (List.mem_singleton.1 hb)
  | usb => exact if_pos (List.mem_singleton.1 hb)
  | dram => exact if_pos (List.mem_singleton.1 hb)
  | comet => exact if_pos (by simpa [blockSqWords] using hb)
  | _ => simp [blockSqWords] at hb

/-- The write of HOST_DMA_STATUS of a channel with EN 0 is a clear as any other (R462). -/
theorem State.writeBlock_hostDmaStatus {s : State} {i : Initiator} {c : Nat} {v : Word} (hc : c < 8)
    (hd : s.dmaEn c = false) :
    s.writeBlock i .host (Addr.hostDmaStatus c) v = s.sqWrite (Addr.hostDmaStatus c) v := by
  have hch : (Addr.hostDmaStatus c - Addr.hostDmaCtrl 0) / 0x20 = c := by
    simp only [Addr.hostDmaStatus, Addr.hostDmaCtrl]; omega
  have hlo : Addr.hostDmaCtrl 0 ≤ Addr.hostDmaStatus c := by
    simp only [Addr.hostDmaStatus, Addr.hostDmaCtrl]; omega
  have hhi : Addr.hostDmaStatus c < Addr.hostIrqMap 0 := by
    simp only [Addr.hostDmaStatus, Addr.hostIrqMap]; omega
  have hctrl : Addr.hostDmaStatus c ≠ Addr.hostDmaCtrl c := by
    simp only [Addr.hostDmaStatus, Addr.hostDmaCtrl]; omega
  have hfix : Addr.hostDmaStatus c ≠ Addr.hostEvents ∧ Addr.hostDmaStatus c ≠ Addr.hostDoorbell
      ∧ Addr.hostDmaStatus c ≠ Addr.hostFence := by
    simp only [Addr.hostDmaStatus, Addr.hostEvents, Addr.hostDoorbell, Addr.hostFence]; omega
  simp [State.writeBlock, State.hostWrite, hch, hlo, hhi, hctrl, hfix, hd]

/-- A ready write to a sequence-cleared register of a unit that is there clears by R47 and is answered. -/
theorem exec_sqClearWrite_present {s : State} {i : Initiator} {addr v : Word} (h : s.ready i addr.toNat true = true)
    (ha : addr.toNat ∈ sqWords ∨ s.idleDmaStatus addr.toNat = true) (hp : s.sqPresent addr.toNat) :
    exec (.sqClearWrite i addr v) s = .next ((s.written i addr.toNat .done).sqWrite addr.toNat v) := by
  rw [← State.sqWrite_written]
  rcases ha with ha | ha
  · obtain ⟨b, o, hl, hb⟩ := exists_block_of_mem_sqWords ha
    exact exec_sqClearWrite h hl (sqWords_located _ ha).1 (State.writeBlock_sqWords ha hb hp)
  · obtain ⟨c, hc, hac, hd⟩ := (s.idleDmaStatus_iff _).1 ha
    obtain ⟨hq, hl⟩ := hostDmaStatus_located c hc
    obtain ⟨⟨b, o⟩, hl, rfl⟩ := Option.map_eq_some_iff.1 hl
    rw [← hac] at hq hl
    refine exec_sqClearWrite h hl hq ?_
    rw [hac]
    exact State.writeBlock_hostDmaStatus hc hd

/-- The sequence-cleared registers of the units that an MH820-S lacks ignore what is written (R2, R212, R373). -/
theorem State.writeBlock_absent {s : State} {i : Initiator} {a : Nat} {v : Word} (hc : s.fuses.pairCapable = false)
    (ha : a = Addr.pairEvents ∨ a = Addr.linkEvents 2) :
    hasAccess a .sq = true ∧ ∃ b o, locate a = some (b, o) ∧ s.writeBlock i b a v = s := by
  rcases ha with rfl | rfl
  · have hctrl : Addr.pairEvents ≠ Addr.pairCtrl := by decide
    refine ⟨by decide, .pair, 0x10, by decide, ?_⟩
    simp [State.writeBlock, State.pairWrite, hc, hctrl]
  · have hoff : s.pairOff (portOf (fin 2 2)) = true := by simp [State.pairOff, hc, portOf, fin]
    have hnbr : Addr.linkEvents 2 ≠ linkReg (portOf (fin 2 2)) Addr.linkNeighbour := by decide
    refine ⟨by decide, .link 2, 0x10, by decide, ?_⟩
    simp [State.writeBlock, State.linkWrite, hoff, hnbr]

/-- A ready write to such a register does nothing but end (R39). -/
theorem exec_sqClearWrite_absent {s : State} {i : Initiator} {addr v : Word} (h : s.ready i addr.toNat true = true)
    (hc : s.fuses.pairCapable = false) (ha : addr.toNat = Addr.pairEvents ∨ addr.toNat = Addr.linkEvents 2) :
    exec (.sqClearWrite i addr v) s = .next (s.written i addr.toNat .done) := by
  obtain ⟨hq, b, o, hl, hw⟩ := State.writeBlock_absent (s := s.unlatched i addr.toNat) (i := i) (v := v) hc ha
  exact exec_sqClearWrite (t := s.unlatched i addr.toNat) h hl hq hw

/-! ### The statement, clause by clause -/

/-- Settles O53: an access to a sequence-cleared word is `sqWrite` on the answered state, whose three cases are those of
R47; on an MH820-S the registers of its missing units take nothing. -/
theorem sequenceClearedWrites : Obligations.SequenceClearedWrites := by
  unfold Obligations.SequenceClearedWrites
  refine ⟨?clears, ?stale, ?masked, fun s i addr v h hc ha => ⟨_, exec_sqClearWrite_absent h hc ha, rfl⟩⟩
  case clears =>
    intro s i addr v h ha hp hm hq
    have hc := State.sqWrite_clears (s := s.written i addr.toNat .done) hm hq
    exact ⟨_, exec_sqClearWrite_present h ha hp, State.sqWrite_eq_regs _ _ _, hc⟩
  case stale =>
    intro s i addr v h ha hp hm hq
    obtain ⟨hbut, hcount, haddr⟩ := State.sqWrite_logs (s := s.written i addr.toNat .done) hm hq
    have hword : word addr.toNat = addr := by simp [word]
    exact ⟨_, exec_sqClearWrite_present h ha hp, State.sqWrite_eq_regs _ _ _, hbut, hcount, haddr.trans hword⟩
  case masked =>
    intro s i addr v h ha hp hm
    exact ⟨_, exec_sqClearWrite_present h ha hp, State.sqWrite_of_mask_zero hm⟩

end Sys2Proof.Machine
end

section
/-! Changes of RATE (R81, R82): OFFSET moves against the run time, so that fabric time goes on from where it was to within
one unit of 2^-16 ns; and what a write of TIME_RATE does (R85). -/

namespace Sys2Proof.Machine

/-! ### Words of signed values -/

/-- Saturation leaves a value of 32 bits as it is. -/
theorem toInt_wordSat {n : Int} (hlo : -(2 ^ 31) ≤ n) (hhi : n < 2 ^ 31) : (wordSat n).toInt = n := by
  have hn : max (-2147483648) (min 2147483647 n) = n := by omega
  rw [wordSat, hn]
  exact BitVec.toInt_ofInt_eq_self (by decide) hlo hhi

@[simp] theorem wordSat_toInt (v : Word) : wordSat v.toInt = v :=
  BitVec.eq_of_toInt_eq (toInt_wordSat v.le_toInt v.toInt_lt)

/-! ### What a change of RATE adds to OFFSET and takes from the run time -/

/-- What OFFSET gains when RATE goes from `old` to `new` at CORE cycle `c`, in 2^-16 ns, rounded down (R82, log entry 50). -/
def rateAdjust (c : Nat) (old new : Int) : Int := Int.fdiv (c * 5 * (old - new)) (2 ^ 25)

theorem State.setRate_eq (s : State) (new : Int) :
    s.setRate new = { s.setReg Addr.timeRate (wordSat new) with
      time := { s.time with
        offset := s.time.offset + BitVec.ofInt 80 (rateAdjust s.now s.rate (wordSat new).toInt) } } := rfl

theorem State.rate_setRate (s : State) {new : Int} (hlo : -(2 ^ 31) ≤ new) (hhi : new < 2 ^ 31) :
    (s.setRate new).rate = new := by
  have hreg : (s.setRate new).reg Addr.timeRate = wordSat new :=
    (s.reg_setReg Addr.timeRate (wordSat new) Addr.timeRate).trans (if_pos rfl)
  rw [State.rate, hreg, toInt_wordSat hlo hhi]

theorem State.offset_setRate (s : State) {new : Int} (hlo : -(2 ^ 31) ≤ new) (hhi : new < 2 ^ 31) :
    (s.setRate new).time.offset = s.time.offset + BitVec.ofInt 80 (rateAdjust s.now s.rate new) := by
  rw [State.setRate_eq, toInt_wordSat hlo hhi]

/-- Rounding each of two summands down loses at most one unit of their sum rounded down. -/
theorem fdiv_add_fdiv (a b : Int) {d : Int} (hd : 0 < d) :
    Int.fdiv a d + Int.fdiv b d = Int.fdiv (a + b) d ∨ Int.fdiv a d + Int.fdiv b d = Int.fdiv (a + b) d - 1 := by
  simp only [Int.fdiv_eq_ediv_of_nonneg _ (Int.le_of_lt hd), Int.add_ediv_of_pos hd]
  split
  · exact .inr (by omega)
  · exact .inl (by omega)

/-- What the run time loses OFFSET gains, to within one unit (R82). -/
theorem runTime_add_rateAdjust (c : Nat) (old new : Int) :
    runTime c new + rateAdjust c old new = runTime c old ∨ runTime c new + rateAdjust c old new = runTime c old - 1 := by
  have hsum : (c : Int) * 5 * (2 ^ 40 + new) + c * 5 * (old - new) = c * 5 * (2 ^ 40 + old) := by
    rw [← Int.mul_add, show (2 ^ 40 + new) + (old - new) = 2 ^ 40 + old by omega]
  have h := fdiv_add_fdiv ((c : Int) * 5 * (2 ^ 40 + new)) (c * 5 * (old - new)) (d := 2 ^ 25) (by decide)
  rwa [hsum] at h

/-! ### Fabric time goes on -/

/-- OFFSET counts modulo 2^80, as fabric time does (R81). -/
theorem toNat_add_ofInt_emod (x : BitVec 80) (d : Int) :
    ((x + BitVec.ofInt 80 d).toNat : Int) % 2 ^ 80 = (x.toNat + d) % 2 ^ 80 := by
  rw [BitVec.toNat_add, BitVec.toNat_ofInt]
  omega

theorem State.time16_setRate (s : State) {new : Int} (hlo : -(2 ^ 31) ≤ new) (hhi : new < 2 ^ 31) :
    (s.setRate new).time16
      = (s.time.offset.toNat + (runTime s.now new + rateAdjust s.now s.rate new)) % 2 ^ 80 := by
  have hmod := toNat_add_ofInt_emod s.time.offset (rateAdjust s.now s.rate new)
  have hnow : (s.setRate new).now = s.now := rfl
  rw [State.time16, hnow, State.rate_setRate s hlo hhi, State.offset_setRate s hlo hhi, Int.ofNat_eq_natCast]
  omega

/-- Fabric time is continuous across a change of RATE to within 2^-16 ns (R82). -/
theorem State.time16_setRate_continuous (s : State) {new : Int} (hlo : -(2 ^ 31) ≤ new) (hhi : new < 2 ^ 31) :
    (s.setRate new).time16 = s.time16 ∨ (s.setRate new).time16 = (s.time16 - 1) % 2 ^ 80 := by
  have hold : s.time16 = (s.time.offset.toNat + runTime s.now s.rate) % 2 ^ 80 := rfl
  rw [State.time16_setRate s hlo hhi, hold]
  rcases runTime_add_rateAdjust s.now s.rate new with h | h <;> rw [h]
  · exact .inl rfl
  · right
    omega

/-! ### A write of TIME_RATE -/

/-- TIME_RATE is an ordinary word of the TIME block (R6). -/
theorem timeRate_located : (locate Addr.timeRate).map Prod.fst = some .time
    ∧ (regRow Addr.timeRate).map RegRow.acc = some .rw := by
  decide +kernel

/-- It is the same whether the answer leaves before or after the change of RATE. -/
theorem State.timeRateWrite_written (s : State) (i : Initiator) (a : Nat) (r : AccessResult) (v : Word) :
    { (s.unlatched i a).timeRateWrite v with out := .access i a r :: ((s.unlatched i a).timeRateWrite v).out }
      = (s.written i a r).timeRateWrite v := by
  by_cases h : s.time.source = 0
  · have hu : (s.unlatched i a).timeRateWrite v
        = { (s.unlatched i a).setRate v.toInt with
            time := { ((s.unlatched i a).setRate v.toInt).time with rateF := v.toInt } } := if_pos h
    have hw : (s.written i a r).timeRateWrite v
        = { (s.written i a r).setRate v.toInt with
            time := { ((s.written i a r).setRate v.toInt).time with rateF := v.toInt } } := if_pos h
    rw [hu, hw]
    rfl
  · have hu : (s.unlatched i a).timeRateWrite v = s.unlatched i a := if_neg h
    have hw : (s.written i a r).timeRateWrite v = s.written i a r := if_neg h
    rw [hu, hw]
    rfl

/-- A ready write of TIME_RATE completes, with the effect that SOURCE lets it have (R85). -/
theorem exec_timeRateWrite {s : State} {i : Initiator} (v : Word) (h : s.ready i Addr.timeRate true = true) :
    exec (.timeRateWrite i v) s = .next ((s.written i Addr.timeRate .done).timeRateWrite v) := by
  obtain ⟨⟨b, o⟩, hl, rfl⟩ := Option.map_eq_some_iff.1 timeRate_located.1
  obtain ⟨r, hr, hacc⟩ := Option.map_eq_some_iff.1 timeRate_located.2
  have hpresent : s.unitAbsent .time = false := by simp [State.unitAbsent]
  have hw : s.writeReg i .time Addr.timeRate v
      = (.done, (s.unlatched i Addr.timeRate).writeBlock i .time Addr.timeRate v) :=
    State.writeReg_ordinary hr (by simp [hacc]) (by simp [hacc]) rfl hpresent (by decide) (by decide)
  calc exec (.timeRateWrite i v) s = .next (s.writeAnswer i Addr.timeRate 4 v) := rfl
    _ = _ := by rw [State.writeAnswer_done h hl hw, ← State.timeRateWrite_written]; rfl

/-- While SOURCE is 0 the word written becomes RATE and RATE_F (R85, log entry 50). -/
theorem State.timeRateWrite_of_source_zero {s : State} (h : s.time.source = 0) (v : Word) :
    s.timeRateWrite v = { s.setReg Addr.timeRate v with
      time := { s.time with
        rateF := v.toInt, offset := s.time.offset + BitVec.ofInt 80 (rateAdjust s.now s.rate v.toInt) } } := by
  rw [State.timeRateWrite, if_pos h, State.setRate_eq, wordSat_toInt]

theorem State.regs_timeRateWrite_of_source_zero {s : State} (h : s.time.source = 0) (v : Word) :
    RegsBut [Addr.timeRate] s (s.timeRateWrite v) ∧ (s.timeRateWrite v).reg Addr.timeRate = v := by
  have hreg : ∀ a, (s.timeRateWrite v).reg a = if a = Addr.timeRate then v else s.reg a := by
    intro a
    rw [State.timeRateWrite_of_source_zero h]
    exact s.reg_setReg Addr.timeRate v a
  exact ⟨fun a ha => (hreg a).trans (if_neg (by simpa using ha)), (hreg _).trans (if_pos rfl)⟩

/-- RATE_F is no part of fabric time, so that the write moves it as the change of RATE does. -/
theorem State.time16_timeRateWrite_of_source_zero {s : State} (h : s.time.source = 0) (v : Word) :
    (s.timeRateWrite v).time16 = (s.setRate v.toInt).time16 := by
  rw [State.timeRateWrite, if_pos h]
  rfl

/-! ### The statement, clause by clause -/

/-- Settles O54: a write of TIME_RATE while SOURCE is 0 is a change of RATE on the answered state, and a change of RATE gives
OFFSET what the run time loses, rounded down. -/
theorem rateChangesKeepFabricTime : Obligations.RateChangesKeepFabricTime := by
  unfold Obligations.RateChangesKeepFabricTime
  refine ⟨?write, ?change⟩
  case write =>
    intro s i v h hsrc
    have hw : (s.written i Addr.timeRate .done).time.source = 0 := hsrc
    obtain ⟨hbut, hrate⟩ := State.regs_timeRateWrite_of_source_zero hw v
    have hcont := State.time16_setRate_continuous (s.written i Addr.timeRate .done) v.le_toInt v.toInt_lt
    rw [← State.time16_timeRateWrite_of_source_zero hw v] at hcont
    have heq := State.timeRateWrite_of_source_zero hw v
    refine ⟨_, exec_timeRateWrite v h, ?_, hbut, hrate, ?_, hcont⟩
    · rw [heq]
      rfl
    · rw [heq]
      rfl
  case change =>
    intro s new hlo hhi
    exact ⟨State.rate_setRate s hlo hhi, State.offset_setRate s hlo hhi, State.time16_setRate_continuous s hlo hhi⟩

end Sys2Proof.Machine
end

section
/-! Register accesses before release (R404): which initiators and blocks the limit concerns, that it gives KIND 4, that it is
all that release changes, and what a refused write leaves behind (R40). -/

namespace Sys2Proof.Machine

/-! ### Whom and what the limit concerns -/

theorem limitedInitiator_iff (i : Initiator) :
    limitedInitiator i = true ↔ i = .host ∨ i = .usb ∨ i = .mgmt ∨ initCode i = 9 := by
  cases i with
  | core n =>
    have hn : 4 + n.val ≠ 9 := by omega
    simp [limitedInitiator, initCode, hn]
  | _ => simp [limitedInitiator, initCode]

/-- Blocks that a limited initiator reaches only after release (R404). -/
def lateBlock : Block → Bool
  | .global | .regif | .fault | .boot | .host | .msix _ | .pba | .usb | .comet => false
  | _ => true

theorem lateBlock_eq_not_earlyBlock (b : Block) : lateBlock b = !earlyBlock b := by
  cases b <;> rfl

/-! ### The KIND of an access -/

theorem State.unimplemented_before_release {s : State} {i : Initiator} {b : Block} (hr : s.start.released = false)
    (hi : limitedInitiator i = true) (hb : lateBlock b = true) : s.unimplemented i b = true := by
  rw [lateBlock_eq_not_earlyBlock] at hb
  simp [State.unimplemented, hr, hi, hb]

/-- Where the limit does not apply, release decides nothing. -/
theorem State.unimplemented_release (s : State) {i : Initiator} {b : Block} (r : Bool)
    (h : limitedInitiator i = false ∨ earlyBlock b = true) :
    { s with start := { s.start with released := r } }.unimplemented i b = s.unimplemented i b := by
  rcases h with h | h <;> simp [State.unimplemented, h]

/-- An aligned access to a word that is in no block, or in one unimplemented for its initiator, has KIND 4 (R38). -/
theorem State.accessKind_unimplemented {s : State} {i : Initiator} {a : Nat} {w : Bool} (ha : a % 4 = 0)
    (h : ∀ b o, locate a = some (b, o) → s.unimplemented i b = true) : s.accessKind i a 4 w = some 4 := by
  cases hl : locate a with
  | none => simp [State.accessKind, ha, hl]
  | some p => cases hr : regRow a <;> simp [State.accessKind, ha, hl, hr, h p.1 p.2 hl]

/-- An access of a limited initiator before release has KIND 4 everywhere but in the early blocks (R404). -/
theorem State.accessKind_before_release {s : State} {i : Initiator} {a : Nat} {w : Bool} (hr : s.start.released = false)
    (hi : limitedInitiator i = true) (ha : a % 4 = 0) (h : ∀ b o, locate a = some (b, o) → lateBlock b = true) :
    s.accessKind i a 4 w = some 4 :=
  State.accessKind_unimplemented ha fun b o hl => State.unimplemented_before_release hr hi (h b o hl)

/-- The state decides the KIND of an access by what is unimplemented for its initiator and by the fences (R38). -/
theorem State.accessKind_congr {s t : State} {i : Initiator} {a size : Nat} {w : Bool}
    (hun : ∀ b o, locate a = some (b, o) → t.unimplemented i b = s.unimplemented i b)
    (hfence : ∀ u, t.unitFenced u = s.unitFenced u) : t.accessKind i a size w = s.accessKind i a size w := by
  cases hl : locate a with
  | none => simp only [State.accessKind, hl]
  | some p =>
    obtain ⟨b, o⟩ := p
    cases hr : regRow a with
    | none => simp only [State.accessKind, hl, hr]
    | some r => simp only [State.accessKind, hl, hr, hun b o hl, hfence]

/-- Release changes the KIND of no access that the limit does not concern (R404). -/
theorem State.accessKind_release (s : State) {i : Initiator} {a size : Nat} (w r : Bool)
    (h : ∀ b o, locate a = some (b, o) → limitedInitiator i = false ∨ earlyBlock b = true) :
    { s with start := { s.start with released := r } }.accessKind i a size w = s.accessKind i a size w :=
  State.accessKind_congr (fun b o hl => s.unimplemented_release r (h b o hl)) fun _ => rfl

/-! ### What a bus error leaves behind -/

/-- A fault report moves the fault collector only (R433, R434). -/
theorem State.report_eq_fault (s : State) (m : FaultMsg) : s.report m = { s with fault := (s.report m).fault } := by
  unfold State.report
  split
  · split <;> rfl
  · rfl

theorem State.raise_eq_fault (s : State) (u : HubUnit) (k : FaultKind) (flags : Nat) (a : Option FabricAddr) :
    s.raise u k flags a = { s with fault := (s.raise u k flags a).fault } := by
  unfold State.raise State.raiseAs
  split
  · exact s.report_eq_fault _
  · rfl

@[simp] theorem State.out_raise (s : State) (u : HubUnit) (k : FaultKind) (flags : Nat) (a : Option FabricAddr) :
    (s.raise u k flags a).out = s.out := (congrArg State.out (s.raise_eq_fault u k flags a)).trans rfl

@[simp] theorem State.mem_raise (s : State) (u : HubUnit) (k : FaultKind) (flags : Nat) (a : Option FabricAddr) :
    (s.raise u k flags a).mem = s.mem := (congrArg State.mem (s.raise_eq_fault u k flags a)).trans rfl

@[simp] theorem State.reg_raise (s : State) (u : HubUnit) (k : FaultKind) (flags : Nat) (a : Option FabricAddr)
    (x : Nat) : (s.raise u k flags a).reg x = s.reg x :=
  (congrArg (State.reg · x) (s.raise_eq_fault u k flags a)).trans rfl

/-- A bus error counts, and leaves memory and what has left the hub as they are (R40). -/
theorem State.busError_frame (s : State) (i : Initiator) (fa : FabricAddr) (w : Bool) (k : Nat) :
    (s.busError i fa w k).out = s.out ∧ (s.busError i fa w k).mem = s.mem
      ∧ (s.busError i fa w k).reg Addr.regifBerrCount = satAdd (s.reg Addr.regifBerrCount) 1 := by
  have hstatus : Addr.regifBerrCount ≠ Addr.regifBerrStatus := by decide
  have hlog : Addr.regifBerrCount ≠ Addr.regifBerrAddrLo ∧ Addr.regifBerrCount ≠ Addr.regifBerrAddrHi
      ∧ Addr.regifBerrCount ≠ Addr.regifBerrInfo := by decide
  by_cases hheld : (s.inc Addr.regifBerrCount).flag Addr.regifBerrStatus 0 = true
  · simp [State.busError, hheld, hstatus]
  · simp [State.busError, hheld, hstatus, hlog]

/-- The failure of a host write is noted for its fence only (R72, R74). -/
theorem State.countFail_host (s : State) (order : Nat) (timeout own : Bool) :
    s.countFail .host order timeout own = { s with hostFence := (s.countFail .host order timeout own).hostFence } := by
  unfold State.countFail
  simp only
  split <;> rfl

theorem State.refuseAccess_frame (s : State) (i : Initiator) (fa : FabricAddr) (w : Bool) (k : Nat) :
    (s.refuseAccess i fa w k).1 = .err k ∧ (s.refuseAccess i fa w k).2.out = s.out
      ∧ (s.refuseAccess i fa w k).2.mem = s.mem
      ∧ (s.refuseAccess i fa w k).2.reg Addr.regifBerrCount = satAdd (s.reg Addr.regifBerrCount) 1 := by
  have hframe := s.busError_frame i fa w k
  unfold State.refuseAccess State.refuseAt
  refine ⟨rfl, ?_⟩
  simp only
  split
  · rw [State.countFail_host]
    exact hframe
  · exact hframe

/-- A refused write is answered with its error and counted, and writes nothing to memory (R38, R39, R40). -/
theorem runs_registerWrite_refused {s : State} {i : Initiator} {addr : Word} {size k : Nat} (v : Word)
    (h : s.accessKind i addr.toNat size true = some k) :
    Runs (.registerWrite i addr size v) s fun t => t.out = .access i addr.toNat (.err k) :: s.out ∧ t.mem = s.mem
      ∧ t.reg Addr.regifBerrCount = satAdd (s.reg Addr.regifBerrCount) 1 := by
  obtain ⟨hend, hout, hmem, hcount⟩ := s.refuseAccess_frame i (localFabric addr.toNat) true k
  refine ⟨s.writeAnswer i addr.toNat size v, rfl, ?_⟩
  rw [State.writeAnswer, State.access_refused h, hend]
  exact ⟨congrArg _ hout, hmem, hcount⟩

/-! ### The statement, clause by clause -/

/-- Settles O56: the limit of R404 is one disjunct of "unimplemented for this initiator"; it gives KIND 4 where it holds, and
where it cannot hold release decides nothing. -/
theorem accessesBeforeRelease : Obligations.AccessesBeforeRelease := by
  unfold Obligations.AccessesBeforeRelease
  refine ⟨?kind, ?write, ?early, ?others⟩
  case kind =>
    intro s i a b o w hr hi ha hl hb
    refine State.accessKind_before_release hr ((limitedInitiator_iff i).2 hi) ha fun b' o' hl' => ?_
    cases hl.symm.trans hl'
    exact hb
  case write =>
    intro s i addr v hr hi ha hb
    refine runs_registerWrite_refused v
      (State.accessKind_before_release hr ((limitedInitiator_iff i).2 hi) ha fun b o hl => ?_)
    rw [hl] at hb
    cases b <;> exact hb
  case early =>
    intro s i a b o w _ hl hb
    refine (s.accessKind_release w true fun b' o' hl' => .inr ?_).symm
    cases hl.symm.trans hl'
    exact hb
  case others =>
    intro s i a w _ hi
    have hfree : limitedInitiator i = false := by
      rw [Bool.eq_false_iff, ne_eq, limitedInitiator_iff]
      simpa using hi
    exact (s.accessKind_release w true fun _ _ _ => .inl hfree).symm

end Sys2Proof.Machine
end

section
/-! A host write of BOOT_PROTECT (R425): what it does beside the register word when it sets PROTECTION_ACTIVE in the CORE
cycle in which a COMMIT committed (R424). -/

namespace Sys2Proof.Machine

/-! ### A COMMIT of this cycle is refused -/

/-- A COMMIT is in progress and committed in this CORE cycle (R424). -/
def State.commitsNow (s : State) : Prop := s.boot.sync = .busy ∧ s.boot.job = 3 ∧ s.boot.since = s.now

@[simp] theorem State.boot_raise (s : State) (u : HubUnit) (k : FaultKind) (flags : Nat) (a : Option FabricAddr) :
    (s.raise u k flags a).boot = s.boot := (congrArg State.boot (s.raise_eq_fault u k flags a)).trans rfl

/-- The refused COMMIT gives back the STATE before it and leaves its RESULT (R424). -/
theorem State.boot_commitRefuse {s : State} (h : s.commitsNow) (r : Nat) :
    (s.commitRefuse r).boot = { s.boot with sync := s.boot.was, job := 0, result := r } := by
  obtain ⟨hsync, hjob, hsince⟩ := h
  simp [State.commitRefuse, State.bootRefuse, State.bootFail, hsync, hjob, hsince]

/-! ### The write -/

/-- BOOT_PROTECT is an ordinary word of the BOOT/UPDATE block (R6, R431). -/
theorem bootProtect_located : (locate Addr.bootProtect).map Prod.fst = some .boot
    ∧ (regRow Addr.bootProtect).map RegRow.acc = some .rw := by
  decide +kernel

theorem exec_bootProtectWrite {s t : State} {i : Initiator} {v : Word} (h : s.ready i Addr.bootProtect true = true)
    (hw : (s.unlatched i Addr.bootProtect).bootWrite i Addr.bootProtect v = t) :
    exec (.bootProtectWrite i v) s = .next { t with out := .access i Addr.bootProtect .done :: t.out } := by
  obtain ⟨⟨b, o⟩, hl, rfl⟩ := Option.map_eq_some_iff.1 bootProtect_located.1
  obtain ⟨r, hr, hacc⟩ := Option.map_eq_some_iff.1 bootProtect_located.2
  have hpresent : s.unitAbsent .boot = false := by simp [State.unitAbsent]
  have hend : s.writeReg i .boot Addr.bootProtect v = (.done, t) := by
    rw [State.writeReg_ordinary hr (by simp [hacc]) (by simp [hacc]) rfl hpresent (by decide) (by decide), ← hw]
    rfl
  calc exec (.bootProtectWrite i v) s = .next (s.writeAnswer i Addr.bootProtect 4 v) := rfl
    _ = _ := by rw [State.writeAnswer_done h hl hend]

/-- A plain write moves a register word only. -/
theorem State.plainWrite_eq_regs (s : State) (a : Nat) (v : Word) :
    s.plainWrite a v = { s with regs := (s.plainWrite a v).regs } := by
  unfold State.plainWrite
  split <;> rfl

@[simp] theorem State.boot_plainWrite (s : State) (a : Nat) (v : Word) : (s.plainWrite a v).boot = s.boot :=
  (congrArg State.boot (s.plainWrite_eq_regs a v)).trans rfl

@[simp] theorem State.now_plainWrite (s : State) (a : Nat) (v : Word) : (s.plainWrite a v).now = s.now :=
  (congrArg State.now (s.plainWrite_eq_regs a v)).trans rfl

@[simp] theorem State.boot_unlatched (s : State) (i : Initiator) (a : Nat) : (s.unlatched i a).boot = s.boot := rfl

@[simp] theorem State.now_unlatched (s : State) (i : Initiator) (a : Nat) : (s.unlatched i a).now = s.now := rfl

theorem State.bootWrite_protect_host (s : State) {v : Word} (hv : bit v 0 = true) :
    s.bootWrite .host Addr.bootProtect v = (s.plainWrite Addr.bootProtect v).commitRefuse 5 := by
  have hevents : Addr.bootProtect ≠ Addr.bootEvents := by decide
  simp [State.bootWrite, State.when, hevents, hv]

/-- A host write that sets PROTECTION_ACTIVE refuses the COMMIT of its cycle with RESULT 5 (R424, R425). -/
theorem runs_bootProtectWrite_commit_refused {s : State} {v : Word} (h : s.ready .host Addr.bootProtect true = true)
    (hv : bit v 0 = true) (hc : s.commitsNow) :
    Runs (.bootProtectWrite .host v) s fun t =>
      t.boot = { s.boot with sync := s.boot.was, job := 0, result := 5 } := by
  have hp : ((s.unlatched .host Addr.bootProtect).plainWrite Addr.bootProtect v).commitsNow := by
    simpa [State.commitsNow] using hc
  have hb := State.boot_commitRefuse hp 5
  refine ⟨_, exec_bootProtectWrite h (State.bootWrite_protect_host _ hv), ?_⟩
  simpa using hb

/-! ### The counterexample -/

/-- The host is updating a hub that feed 0 supplies with 24 V: STAGING receives an image (R423). -/
def receivingFromHost : State :=
  { State.reset with
    power := { State.reset.power with feeds := [(0, { voltage := 2400 })] }
    boot := { State.reset.boot with sync := .receiving, owner := some .host } }

/-- The host's COMMIT has committed in this CORE cycle. -/
def committingNow : State := receivingFromHost.bootCmd .host 3

theorem committingNow_ready : committingNow.ready .host Addr.bootProtect true = true := by decide +kernel

theorem committingNow_boot : committingNow.boot =
    { receivingFromHost.boot with sync := .busy, job := 3, next := .staged, was := .receiving } := by
  decide +kernel

/-- Refutes O57: its first clause has a host write change register words only, but one that sets PROTECTION_ACTIVE in the
CORE cycle in which a COMMIT committed refuses the COMMIT (R424), so that STATE goes from BUSY back to RECEIVING. -/
theorem not_protectionActiveIsTheHosts : ¬ Obligations.ProtectionActiveIsTheHosts := by
  unfold Obligations.ProtectionActiveIsTheHosts
  rintro ⟨hhost, -⟩
  have hcommits : committingNow.commitsNow := by
    rw [State.commitsNow, committingNow_boot]
    exact ⟨rfl, rfl, by decide +kernel⟩
  obtain ⟨t, hrun, hframe, -⟩ := hhost committingNow 1 committingNow_ready
  obtain ⟨t', hrun', hboot⟩ := runs_bootProtectWrite_commit_refused committingNow_ready (v := 1) (by decide) hcommits
  obtain rfl : t' = t := Host.Outcome.next.inj (hrun'.symm.trans hrun)
  have hkept : t'.boot = committingNow.boot := (congrArg State.boot hframe).trans rfl
  rw [hboot, committingNow_boot] at hkept
  exact absurd hkept (by decide)

end Sys2Proof.Machine
end
